-- ==== Sys2Proof/Word.lean ====
section
/-! DEFINITION. The words of the K-430 and their plainest arithmetic: the byte of the serial lines, the
card serial, the signed code of the signing unit, and the saturating and wrapping counts of
00_scope.md section 5 ("Saturating and wrapping counts"). -/

namespace Sys2Proof

/-- One byte of the terminal port's line (R186). -/
abbrev Byte := BitVec 8

/-- A card serial: the 56-bit serial number of a card's chip (00_scope.md section 5). -/
abbrev Serial := BitVec 56

/-- A package code, statement code or write code. R189 gives the first two 8 bytes. -/
abbrev Code := BitVec 64

/-- A set of zone numbers 1 to 12: the bit at weight 2^(z − 1) stands for zone z (R189). -/
abbrev ZoneSet := BitVec 12

/-- Zone z is held at index z − 1. -/
abbrev ZoneId := Fin 12

/-- Link n is held at index n − 1 (R174). -/
abbrev LinkId := Fin 32

/-- A saturating count rises by one up to its maximum and then stays there (00_scope.md section 5). -/
def satSucc (max n : Nat) : Nat := min max (n + 1)

/-- A 32-bit wrapping count (00_scope.md section 5; R115). -/
def wrapAdd32 (n k : Nat) : Nat := (n + k) % 4294967296

/-- A value below a range takes its lower end, one above it its upper end (R66, R118, R140, R193). -/
def clampTo (lo hi n : Nat) : Nat := max lo (min hi n)

/-- The greatest 32-bit number, 4 294 967 295. -/
def max32 : Nat := 4294967295

end Sys2Proof
end

