-- ==== Sys2Proof/Types.lean ====
section
/-! DEFINITION. The records the K-430 works on, as 01_cards_products_and_card_events.md and the later
chapters name them: families, products, snapshots, card events, card segments, requests and the inputs
of the signing unit's codes. Plain data, shared by the commands, the configuration and the state. -/

namespace Sys2Proof

/-- The three card families (R1). -/
inductive Family where
  | narrow | standard | extended
  deriving DecidableEq, Repr

/-- The four kinds of product (R2), without their fields. -/
inductive KindName where
  | periodDays | periodRange | carnet | concession
  deriving DecidableEq, Repr

/-- The fields each kind adds (R3). The suspended mark and the remaining days of a PERIOD_DAYS are present
together (R3), so one optional number holds both. A carnet's trips remaining are signed, because its known
trips may be negative (R53). -/
inductive ProductFields where
  | periodDays (length : Nat) (start : Option Nat) (suspended : Option Nat)
  | periodRange (start stop : Nat)
  | carnet (purchased : Nat) (remaining : Int)
  | concession (cls expiry : Nat)
  deriving DecidableEq, Repr

/-- A product record (R2, R3). -/
structure Product where
  slot   : Nat
  price  : Nat
  zones  : ZoneSet
  fields : ProductFields
  deriving DecidableEq, Repr

/-- The state of a product on a day (R5). -/
inductive ProductState where
  | notStarted | active | suspended | expired | depleted
  deriving DecidableEq, Repr

/-- The snapshot record (R7), check included. -/
structure Snapshot where
  cardNo   : Nat
  family   : Family
  counter  : Nat
  purse    : Int
  day      : Nat
  products : List Product
  check    : Nat
  deriving DecidableEq, Repr

/-- The five kinds of card event (R10). -/
inductive EventKind where
  | paid | carnet | pass | topup | blocked
  deriving DecidableEq, Repr

/-- A card event record (R10). Two events are identical when all eight fields are equal (R11). -/
structure CardEvent where
  cardNo  : Nat
  counter : Nat
  kind    : EventKind
  amount  : Nat
  slot    : Nat
  day     : Nat
  minute  : Nat
  device  : Nat
  deriving DecidableEq, Repr

/-- The content of one card segment (R12). A segment that reads empty is the absence of one. -/
inductive Segment where
  | header (cardNo : Nat) (family : Family) (issueDay : Nat) (caseNo : Option Nat)
  | product (p : Product)
  | purse (balance : Int) (counter : Nat)
  | activation (caseNo : Option Nat) (issueDay : Nat)
  | blockMark (counter : Nat)
  deriving DecidableEq, Repr

/-- The four coupler ports (R139). -/
inductive Port where
  | A | B | C | D
  deriving DecidableEq, Repr

/-- The cause a coupler's FAULT carries (R141). -/
inductive FaultCause where
  | dataError | codeRefused
  deriving DecidableEq, Repr

/-- What ends a frame as an error, apart from the inter-byte time (R186). -/
inductive FrameErrorCause where
  | badLength | stopBit | crcMismatch
  deriving DecidableEq, Repr

/-- The five terms of a concession table row, copied into a case at opening (R65, R20). -/
structure Terms where
  dailyCap      : Nat
  exposureDays  : Nat
  quietDays     : Nat
  presumedFare  : Nat
  holdbackTrips : Nat
  deriving DecidableEq, Repr

/-- ADD or REMOVE (R102). -/
inductive ChangeKind where
  | add | remove
  deriving DecidableEq, Repr

/-- One change of the pending change list (R102). -/
structure Change where
  kind   : ChangeKind
  cardNo : Nat
  caseNo : Nat
  taken  : Bool
  deriving DecidableEq, Repr

/-- The four kinds of settlement (R17, R22). -/
inductive SettlementKind where
  | exact | presumed | forced | fromCard
  deriving DecidableEq, Repr

/-- The per-carnet figures of an issue: old slot, given trips T_w and trip value tv (R73, R69). -/
structure TripFigure where
  slot  : Nat
  given : Nat
  value : Nat
  deriving DecidableEq, Repr

/-- The per-carnet figures of a settlement: old slot, trip value, final trips T_f, and T_w when the case had a
new card at settlement (R82). -/
structure CarnetLine where
  slot  : Nat
  value : Nat
  final : Int
  given : Option Nat
  deriving DecidableEq, Repr

/-- The inputs of a statement code: the settlement figures as stored at settlement (R171). -/
structure StatementInputs where
  caseNo      : Nat
  kind        : SettlementKind
  day         : Nat
  cmax        : Nat
  gaps        : Nat
  charge      : Nat
  kf          : Int
  carnets     : List CarnetLine
  late        : Nat
  advance     : Option Nat
  unplaced    : Option Nat
  residue     : Option Int
  cardCounter : Option Nat
  deriving DecidableEq, Repr

/-- The inputs of a package code: the package contents and the generation the package bears (R170). -/
structure PackageInputs where
  changes    : List Change
  generation : Nat
  deriving DecidableEq, Repr

/-- A request frame as the link checks see it: link, kind code, tag, flags and body (section 11.1). -/
structure Frame where
  link  : Byte
  kind  : Byte
  tag   : Byte
  flags : Byte
  body  : List Byte
  deriving DecidableEq, Repr

/-- A request of a kind the command itself names: the rest of its frame. -/
structure Request where
  link  : Byte
  tag   : Byte
  flags : Byte
  body  : List Byte
  deriving DecidableEq, Repr

/-- The frame of a request whose kind code is `kind`. -/
def Request.frame (r : Request) (kind : Byte) : Frame :=
  ⟨r.link, kind, r.tag, r.flags, r.body⟩

/-- The forty request kinds (section 11.4, request kind codes), in code order. -/
inductive Kind where
  | caseOpen | caseIssue | caseRecover | caseCancel | caseSettle | caseTransfer | caseQuery | caseList
  | caseResolve | issueAbort | concessionSet | concessionRead | hotlistCut | hotlistRead | zoneConfigure
  | zoneRelease | zoneHold | zoneResync | zoneRemove | zoneClear | batchHeader | batchRecords | batchEnd
  | portConfigure | portUnfence | portStatus | linkCreate | linkDelete | linkMove | linkSuspend
  | linkResume | linkRead | reportFetch | timeSet | timeRead | settingsSet | deviceStatus | deviceReset
  | deviceErase | zoneStatus
  deriving DecidableEq, Repr

end Sys2Proof
end

