-- ==== Sys2Proof/Syntax.lean ====
section
/-! DEFINITION. The commands of the K-430: one constructor for each row of spec/opcode_table.json, in the
table's order. A request row is the step in which the part takes a request of that kind from its receive
buffer (R187); its operand is the rest of the request's frame. The other rows are frames arriving, answers
leaving, restarts, the clock, the couplers' messages and the two completions of the signing unit. -/

namespace Sys2Proof

inductive Instr where
  | caseOpen (r : Request)
  | caseIssue (r : Request)
  | caseRecover (r : Request)
  | caseCancel (r : Request)
  | caseSettle (r : Request)
  | caseTransfer (r : Request)
  | caseQuery (r : Request)
  | caseList (r : Request)
  | caseResolve (r : Request)
  | issueAbort (r : Request)
  | concessionSet (r : Request)
  | concessionRead (r : Request)
  | hotlistCut (r : Request)
  | hotlistRead (r : Request)
  | zoneConfigure (r : Request)
  | zoneRelease (r : Request)
  | zoneHold (r : Request)
  | zoneResync (r : Request)
  | zoneRemove (r : Request)
  | zoneClear (r : Request)
  | zoneStatus (r : Request)
  | batchHeader (r : Request)
  | batchRecords (r : Request)
  | batchEnd (r : Request)
  | portConfigure (r : Request)
  | portUnfence (r : Request)
  | portStatus (r : Request)
  | linkCreate (r : Request)
  | linkDelete (r : Request)
  | linkMove (r : Request)
  | linkSuspend (r : Request)
  | linkResume (r : Request)
  | linkRead (r : Request)
  | reportFetch (r : Request)
  | timeSet (r : Request)
  | timeRead (r : Request)
  | settingsSet (r : Request)
  | deviceStatus (r : Request)
  | deviceReset (r : Request)
  | deviceErase (r : Request)
  /-- A request whose kind code names no request (R188). -/
  | unknownKind (kind : Byte) (r : Request)
  /-- The bytes of one frame on the line, from its start marker to its CRC (R186, R187). -/
  | frameReceived (line : List Byte)
  | frameError (cause : FrameErrorCause)
  | interByteTimeout
  | answerSent
  | restart
  | powerOn
  | nrstRelease
  | clockTick
  | timeFloorWrite
  | arrived (p : Port) (serial : Serial) (family : Family)
  | left (p : Port)
  /-- The content a READ returned; none is "empty" (R141). -/
  | data (p : Port) (content : Option Segment)
  | done (p : Port)
  | fault (p : Port) (cause : FaultCause)
  | responseTimeout (p : Port)
  | tearWindowExpiry (p : Port)
  | hotlistGrantCompletion
  | statementGrantCompletion
  deriving DecidableEq, Repr

end Sys2Proof
end

