-- ==== Sys2Proof/Decode.lean ====
section
/-! DEFINITION. The word form of commands. spec/opcode_table.json gives no row any bits (every row's "fields"
is empty and none has "fixed"), so no word spells a command. The request frames' bytes are decoded in
Machine/Bytes.lean and Machine/Operands.lean. -/

namespace Sys2Proof

/-- No row of the table gives bits, so no word is the word of a command. -/
def decodeTableWord (_nbits _w : Nat) : Option Instr := none

end Sys2Proof
end

