-- ==== Sys2Proof/Config.lean ====
section
/-! DEFINITION. What the spec leaves to the part: the three codes of the signing unit, whose computation the
spec does not give, and the choices it leaves open. Each is an opaque constant with no body, so that no proof
can see its value and every claim holds whatever it is. -/

namespace Sys2Proof.Config

/-- DESIGN CHOICE, safe (log entry 1). The write code of a WRITE or MARK: R169 and R155 say what it is computed
from (the serial in the card context, the segment number, the content) and not how. -/
opaque writeCode : Serial → Nat → Option Segment → Code

/-- DESIGN CHOICE, safe (log entry 1). The package code: R170 gives its inputs and not the computation. -/
opaque packageCode : PackageInputs → Code

/-- DESIGN CHOICE, safe (log entry 1). The statement code: R171 gives its inputs and not the computation; that
it is a function of them is R173 ("so the code is the same"). -/
opaque statementCode : StatementInputs → Code

/-- DESIGN CHOICE, safe (log entry 26). The balance a RECOVER job takes from a purse segment that reads empty, by
the job's case, the card's serial and the clock: R154 lets the segment read empty and gives no balance then. -/
opaque emptyBalance : Nat → Serial → Option Nat → Int

/-- DESIGN CHOICE, safe (log entry 26). The card counter taken from a purse segment that reads empty. -/
opaque emptyCounter : Nat → Serial → Option Nat → Nat

/-- DESIGN CHOICE, safe (log entry 2). The choices of order that the spec leaves open (R191 "No order holds
between them", R173 step 4): the k-th one taken since the model's counter stood at 0. -/
opaque freeChoice : Nat → Nat

end Sys2Proof.Config
end

