-- ==== Sys2Proof/Machine/State.lean ====
section
/-! DEFINITION. The state of the K-430, block by block in the order of 00_scope.md section 3, as plain data:
the terminal port, the link table, the report channels, the case table with its chains and figures, the
concession table, the hotlist unit, the twelve zone records, the four port records with their jobs, the signing
unit, the clock and the settings; the model's counter of free choices; and the queue of waiting commands. -/

namespace Sys2Proof.Machine

/-! ### The case record (R17) -/

/-- The three states of a live case (R18). -/
inductive CaseState where
  | watch | holding | settled
  deriving DecidableEq, Repr

/-- The settle due mark (R17). -/
inductive Due where
  | automatic | forced
  deriving DecidableEq, Repr

/-- The set of review reasons (R17): one mark for each. -/
structure Review where
  conflict       : Bool := false
  chainFull      : Bool := false
  gapImplausible : Bool := false
  deriving DecidableEq, Repr

/-- One review reason (R17). -/
inductive Reason where
  | conflict | chainFull | gapImplausible
  deriving DecidableEq, Repr

/-- ISSUE or RECOVER (R144). -/
inductive JobName where
  | issue | recover
  deriving DecidableEq, Repr

/-- The six matrix outcomes (R87). -/
inductive MatrixOutcome where
  | copy | rangeFromDays | startToday | prorate | clampTrips | drop
  deriving DecidableEq, Repr

/-- One entry of the conversion result list (R97). -/
structure ResultEntry where
  slot         : Nat
  kind         : KindName
  state        : ProductState
  outcome      : MatrixOutcome
  newSlot      : Option Nat
  unplaced     : Bool
  writtenTrips : Option Nat
  givenTrips   : Option Nat
  tripValue    : Option Nat
  value        : Nat
  deriving DecidableEq, Repr

/-- The last issue figures (R76). -/
structure IssueFigures where
  serial    : Serial
  family    : Family
  advance   : Nat
  prorated  : Nat
  purse     : Nat
  unplaced  : Nat
  written   : List Product
  trips     : List TripFigure
  results   : List ResultEntry
  day       : Nat
  caseState : CaseState
  deriving DecidableEq, Repr

/-- A card by its serial and family: the new card of a case (R17), or the card a coupler reports (R139). -/
structure Card where
  serial : Serial
  family : Family
  deriving DecidableEq, Repr

/-- The final trips T_f of one carnet, under its old slot index (R77). -/
structure FinalTrips where
  slot  : Nat
  final : Int
  deriving DecidableEq, Repr

/-- The settlement field (R17, R22). `hadCard` says whether the case had a new card at settlement, which R82 and
R171 read. -/
structure Settlement where
  kind             : SettlementKind
  day              : Nat
  cmax             : Nat
  kf               : Int
  trips            : List FinalTrips
  gaps             : Nat
  charge           : Nat
  late             : Nat
  residue          : Option Int
  cardCounter      : Option Nat
  hadCard          : Bool
  statementPending : Bool
  code             : Option Code
  deriving DecidableEq, Repr

/-- A live case (R17). An entry of the conflict list is a card event; its counter is the event's (R44). -/
structure Case where
  number           : Nat
  owner            : LinkId
  state            : CaseState
  openDay          : Nat
  cls              : Nat
  terms            : Terms
  quietEnd         : Nat
  snapshot         : Snapshot
  chain            : List CardEvent
  cmax             : Nat
  duplicates       : Nat
  overflows        : Nat
  conflicts        : List CardEvent
  conflictOverflow : Nat
  generation       : Option Nat
  zonesClosed      : ZoneSet
  review           : Review
  job              : Option (JobName × Port)
  settleDue        : Option Due
  issue            : Option IssueFigures
  newCard          : Option Card
  attempts         : Nat
  settlement       : Option Settlement
  adjustment       : Int
  blockedSeen      : Bool
  deriving DecidableEq, Repr

/-! ### Links and reports -/

/-- FREE, ACTIVE or SUSPENDED (R174). -/
inductive LinkState where
  | free | active | suspended
  deriving DecidableEq, Repr

/-- A set of rights (R174): one mark for each. -/
structure Rights where
  opens   : Bool := false
  approve : Bool := false
  feed    : Bool := false
  admin   : Bool := false
  grants  : Bool := false
  deriving DecidableEq, Repr

/-- A link record (R174); its number is its place. The bound zone 0 is none. -/
structure Link where
  state   : LinkState
  rights  : Rights
  channel : Fin 4
  creator : Option LinkId
  zone    : Option ZoneId
  station : Nat
  deriving DecidableEq, Repr

/-- How a job ends (R158). -/
inductive JobOutcome where
  | issued | issuedUnverified | recovered | recoveredUnmarked | cardRejected | writeFailed | tornTimeout
  | aborted | portFenced
  deriving DecidableEq, Repr

/-- What a RECOVER job has read (R144): the products in slot order, the purse with the card counter, and the
block mark, present once segment 15 has been read (its own absence within is a mark that read empty). -/
structure ReadContents where
  products : List Product
  purse    : Option (Int × Nat)
  mark     : Option (Option Nat)
  deriving DecidableEq, Repr

/-- WRITTEN, ALREADY_PRESENT or NOT_WRITTEN (R160). -/
inductive MarkStatus where
  | written | alreadyPresent | notWritten
  deriving DecidableEq, Repr

/-- The four error counts of a zone (R115, R135), by name. -/
inductive ErrorCount where
  | badSum | gap | unknownKind | malformed
  deriving DecidableEq, Repr

/-- The values of the four error counts. -/
structure ErrorCounts where
  badSum      : Nat := 0
  gap         : Nat := 0
  unknownKind : Nat := 0
  malformed   : Nat := 0
  deriving DecidableEq, Repr

/-- The five zone states (R116). -/
inductive ZoneState where
  | unused | held | hunt | openBatch | aligned
  deriving DecidableEq, Repr

/-- The kind of a restart (R185). -/
inductive RestartKind where
  | powerOn | deviceReset | deviceErase
  deriving DecidableEq, Repr

/-- GAP or BEYOND (R83). -/
inductive Place where
  | gap | beyond
  deriving DecidableEq, Repr

/-- The fields of a report, by kind (R38, R39, R82, R84, R112, R137, R159, R160, R161, R185). -/
inductive ReportBody where
  | issueDone (caseNo : Nat) (port : Port) (outcome : JobOutcome) (target : Family) (serial : Option Serial)
      (segments attempts : Nat) (figures : Option IssueFigures) (residue : Option Int)
  | recoverDone (caseNo : Nat) (port : Port) (outcome : JobOutcome) (serial : Option Serial)
      (contents : Option ReadContents) (mark : Option MarkStatus)
  | settlement (caseNo : Nat) (figures : Settlement) (carnets : List CarnetLine)
      (advance unplaced : Option Nat) (shortfall : Bool)
  | adjustment (caseNo : Nat) (event : CardEvent) (place : Place) (delta total : Int) (cmax : Nat)
  | caseReview (caseNo : Nat) (reason : Option Reason) (review : Review)
      (gaps cmax chainLength conflictLength conflictOverflow overflows duplicates : Nat)
  | caseClosed (caseNo : Nat) (cancelled : Bool) (cardNo : Nat) (state : CaseState) (day : Option Nat)
      (serial : Option Serial) (kind : Option SettlementKind) (adjustment : Int) (unclaimed : Option Int)
  | zoneEvent (zone : ZoneId) (count : Option ErrorCount) (state : ZoneState) (counts : ErrorCounts)
      (threshold : Nat) (expected : Option Nat) (reached : Nat) (lastCommit : Option Nat) (dormant : Bool)
      (day : Option Nat)
  | portArrived (port : Port) (card : Card) (timeouts : Nat) (clock : Option Nat)
  | portLeft (port : Port) (card : Card) (timeouts : Nat) (clock : Option Nat)
  | portFenced (port : Port) (caseNo : Option Nat) (timeouts : Nat) (clock : Option Nat)
  | hotlistPackage (generation : Nat) (changes : List Change) (adds removes endedAdds untaken : Nat)
      (code : Code)
  | restarted (kind : RestartKind) (clock : Option Nat)
  deriving DecidableEq, Repr

/-- A report in a channel: its fields, with the owner link and the station code as they stood when it was queued;
a system report has no link and station code 0 (R182). -/
structure Report where
  owner   : Option LinkId
  station : Nat
  body    : ReportBody
  deriving DecidableEq, Repr

/-- A report channel: its queue, oldest first, and its dropped count (R183). -/
structure Channel where
  queue   : List Report
  dropped : Nat
  deriving DecidableEq, Repr

/-! ### Hotlist, zones, ports and signing unit -/

/-- IDLE or PACKAGING (R106). -/
inductive Packaging where
  | idle | packaging
  deriving DecidableEq, Repr

/-- One entry of the master list (R101). -/
structure MasterEntry where
  cardNo : Nat
  caseNo : Nat
  addGen : Option Nat
  deriving DecidableEq, Repr

/-- The hotlist unit (06_hotlist_and_generations.md). -/
structure Hotlist where
  master     : List MasterEntry
  pending    : List Change
  generation : Nat
  packaging  : Packaging
  deriving DecidableEq, Repr

/-- FIELD or PACKED (R127). -/
inductive SumMethod where
  | field | packed
  deriving DecidableEq, Repr

/-- A record of an open batch: void, with the bytes it arrived in, or a good card event (R129). -/
inductive BatchRecord where
  | void (bytes : List Byte)
  | good (event : CardEvent)
  deriving DecidableEq, Repr

/-- The open batch of a zone (R115). -/
structure OpenBatch where
  sequence   : Nat
  generation : Nat
  day        : Nat
  buffer     : List BatchRecord
  bodySum    : Nat
  deriving DecidableEq, Repr

/-- A zone record (R115). -/
structure Zone where
  state      : ZoneState
  method     : SumMethod
  threshold  : Nat
  dormancy   : Nat
  expected   : Option Nat
  reached    : Nat
  lastCommit : Option Nat
  dormant    : Bool
  counts     : ErrorCounts
  batch      : Option OpenBatch
  committed  : Nat
  matched    : Nat
  unmatched  : Nat
  deriving DecidableEq, Repr

/-- BURST or CAREFUL (R139). -/
inductive WriteMode where
  | burst | careful
  deriving DecidableEq, Repr

/-- The four commands of the card line (R141). -/
inductive Command where
  | sense
  | read (segment : Nat)
  | write (segment : Nat) (content : Option Segment) (code : Code)
  | mark (code : Code)
  deriving DecidableEq, Repr

/-- The outstanding command of a port, with the moment it was sent and the response timeout it was sent under
(R139, R140). -/
structure Outstanding where
  command : Command
  sentAt  : Option Nat
  timeout : Nat
  deriving DecidableEq, Repr

/-- The phases of a job (R144). -/
inductive Phase where
  | waitingCard | check | write | verify | read | mark | torn
  deriving DecidableEq, Repr

/-- FIRST or AFTER_TEAR (R144). -/
inductive CheckMode where
  | first | afterTear
  deriving DecidableEq, Repr

/-- The kind of a job, an ISSUE with the target family its CASE ISSUE named (R144, R145). -/
inductive JobKind where
  | issue (target : Family)
  | recover
  deriving DecidableEq, Repr

/-- A job record (R144). `reads` holds what the current CHECK has read so far, which R145 implies. -/
structure Job where
  kind         : JobKind
  caseNo       : Nat
  phase        : Phase
  mode         : CheckMode
  target       : Option Serial
  nextSegment  : Nat
  grantCount   : Nat
  retries      : Nat
  abortPending : Bool
  tearEnd      : Option Nat
  contents     : Option ReadContents
  reads        : List (Option Segment)
  deriving DecidableEq, Repr

/-- A port record (R139). -/
structure PortRec where
  enabled        : Bool
  mode           : WriteMode
  retryLimit     : Nat
  fenceThreshold : Nat
  timeout        : Nat
  window         : Nat
  fenced         : Bool
  timeouts       : Nat
  card           : Option Card
  outstanding    : Option Outstanding
  job            : Option Job
  deriving DecidableEq, Repr

/-- The four port records. -/
structure Ports where
  a : PortRec
  b : PortRec
  c : PortRec
  d : PortRec
  deriving DecidableEq, Repr

/-- A member of the signing unit (R165). -/
inductive Member where
  | port (p : Port)
  | hotlist
  | statement
  deriving DecidableEq, Repr

/-- A place in the first-level ring (R165). -/
inductive FirstPlace where
  | port (p : Port)
  | group
  deriving DecidableEq, Repr

/-- A place in the group ring (R165). -/
inductive GroupPlace where
  | hotlist | statement
  deriving DecidableEq, Repr

/-- The set of members with a request not yet granted (R165): one mark for each. -/
structure Waiting where
  a         : Bool := false
  b         : Bool := false
  c         : Bool := false
  d         : Bool := false
  hotlist   : Bool := false
  statement : Bool := false
  deriving DecidableEq, Repr

/-- The inputs of the code being computed (R165). -/
inductive Computation where
  | package (inputs : PackageInputs)
  | statement (inputs : StatementInputs)
  deriving DecidableEq, Repr

/-- The signing unit (R165); its arbitration mode is one of the general settings. -/
structure Signing where
  grantee     : Option Member
  waiting     : Waiting
  lastFirst   : FirstPlace
  lastGroup   : GroupPlace
  context     : Option Serial
  computation : Option Computation
  queue       : List Nat
  deriving DecidableEq, Repr

/-- ROTATING or FIXED (R165). -/
inductive ArbMode where
  | rotating | fixed
  deriving DecidableEq, Repr

/-- The general settings (R193). -/
structure Settings where
  rolloverMinute : Nat
  autoCut        : Nat
  retentionDays  : Nat
  mode           : ArbMode
  deriving DecidableEq, Repr

/-! ### Answers (R188) -/

/-- The status codes (section 11.5), in code order from DONE at 0. -/
inductive Status where
  | done | frameLength | unknownKind | noLink | linkSuspended | noRight | badField | noTime | tableFull
  | notFound | wrongState | duplicateCard | sumMismatch | cardMarked | conflictsOpen | portBusy
  | portFenced | portDisabled | tooLate | busy | nothingPending | timeBackward | zoneUnused | zoneHeld
  | sequenceGap | duplicateBatch | noOpenBatch | hasChildren | ownsCases
  deriving DecidableEq, Repr

/-- One entry of a CASE LIST page (R42). -/
structure ListEntry where
  number : Nat
  state  : CaseState
  owner  : LinkId
  deriving DecidableEq, Repr

/-- The SUMMARY part of CASE QUERY (R41). -/
structure CaseSummary where
  number           : Nat
  owner            : LinkId
  state            : CaseState
  openDay          : Nat
  cls              : Nat
  terms            : Terms
  quietEnd         : Nat
  generation       : Option Nat
  zonesClosed      : ZoneSet
  review           : Review
  job              : Option (JobName × Port)
  settleDue        : Option Due
  attempts         : Nat
  newCard          : Option Card
  adjustment       : Int
  blockedSeen      : Bool
  cmax             : Nat
  gaps             : Nat
  chainLength      : Nat
  duplicates       : Nat
  overflows        : Nat
  conflictLength   : Nat
  conflictOverflow : Nat
  deriving DecidableEq, Repr

/-- The hotlist unit's state as HOTLIST READ gives it (R113). -/
structure HotlistSummary where
  generation   : Nat
  packaging    : Packaging
  bears        : Option Nat
  pendingCount : Nat
  adds         : Nat
  removes      : Nat
  taken        : Nat
  masterCount  : Nat
  published    : Nat
  deriving DecidableEq, Repr

/-- A zone record as ZONE STATUS gives it (R124): the record without the buffered records, with the flags. `zone` is the
request's and is not sent; the running body sum is left out (log entry 23). -/
structure ZoneReport where
  zone       : ZoneId
  state      : ZoneState
  method     : SumMethod
  threshold  : Nat
  dormancy   : Nat
  expected   : Option Nat
  reached    : Nat
  lastCommit : Option Nat
  dormant    : Bool
  counts     : ErrorCounts
  flags      : Bool × Bool × Bool × Bool
  committed  : Nat
  matched    : Nat
  unmatched  : Nat
  batch      : Option (Nat × Nat × Nat × Nat × Nat)
  deriving DecidableEq, Repr

/-- A port's job as PORT STATUS gives it (R163). -/
structure JobReport where
  name         : JobName
  caseNo       : Nat
  phase        : Phase
  mode         : CheckMode
  target       : Option Serial
  nextSegment  : Nat
  retries      : Nat
  abortPending : Bool
  tearEnd      : Option Nat
  holdsGrant   : Bool
  waits        : Bool
  deriving DecidableEq, Repr

/-- A port record as PORT STATUS gives it (R163). `port` is the request's and is not sent. -/
structure PortReport where
  port           : Port
  enabled        : Bool
  mode           : WriteMode
  retryLimit     : Nat
  fenceThreshold : Nat
  timeout        : Nat
  window         : Nat
  fenced         : Bool
  timeouts       : Nat
  card           : Option Card
  command        : Option Command
  job            : Option JobReport
  deriving DecidableEq, Repr

/-- The settings of a port as PORT CONFIGURE answers them (R140). -/
structure PortSettings where
  enabled        : Bool
  mode           : WriteMode
  retryLimit     : Nat
  fenceThreshold : Nat
  timeout        : Nat
  window         : Nat
  deriving DecidableEq, Repr

/-- A port's line in DEVICE STATUS (R194). -/
structure PortLine where
  enabled : Bool
  fenced  : Bool
  card    : Option Card
  job     : Option (JobName × Nat × Phase)
  deriving DecidableEq, Repr

/-- A zone's line in DEVICE STATUS (R194). -/
structure ZoneLine where
  state   : ZoneState
  reached : Nat
  dormant : Bool
  flagged : Bool
  deriving DecidableEq, Repr

/-- DEVICE STATUS (R194). -/
structure DeviceReport where
  clock         : Option Nat
  day           : Option Nat
  floor         : Nat
  settings      : Settings
  liveCases     : Nat
  nextCase      : Option Nat
  generation    : Nat
  packaging     : Packaging
  pendingCount  : Nat
  masterCount   : Nat
  queueLength   : Nat
  frameErrors   : Nat
  overruns      : Nat
  ports         : List PortLine
  zones         : List ZoneLine
  channels      : List (Nat × Nat)
  deriving DecidableEq, Repr

/-- The fields an answer carries after its status byte (R188 and the rule of each request). -/
inductive Fields where
  | none
  | caseOpened (caseNo cls quietEnd : Nat)
  | caseSummary (c : CaseSummary)
  | caseSnapshot (s : Snapshot)
  | caseChain (events : List CardEvent) (length : Nat)
  | caseConflicts (entries : List CardEvent) (overflow : Nat)
  | caseIssueFigures (figures : Option IssueFigures)
  | caseSettlement (figures : Option Settlement) (carnets : List CarnetLine)
  | caseList (entries : List ListEntry) (more : Bool)
  | resolved (caseNo : Nat) (state : CaseState) (review : Review) (listLength same overflow : Nat)
  | abort (pending : Bool)
  | concessionSet (cls : Nat) (terms : Terms) (clamped : List Bool)
  | concessionTable (rows : List Terms)
  | hotlistCut (generation adds removes untaken : Nat)
  | hotlistMaster (summary : HotlistSummary) (page : List MasterEntry) (more : Bool)
  | hotlistPending (summary : HotlistSummary) (page : List Change) (more : Bool)
  | zoneConfigured (method : SumMethod) (threshold dormancy : Nat) (clamped : List Bool)
  | zoneCleared (counts : ErrorCounts) (committed matched unmatched : Nat)
  | zoneStatus (z : ZoneReport)
  | headerTaken (sequence : Nat)
  | expectedSequence (sequence : Nat)
  | recordsTaken (held void : Nat)
  | batchMismatch (count sum : Nat)
  | batchCommitted (sequence committed matched unmatched void reached : Nat) (expected : Option Nat)
      (closed : Nat)
  | portConfigured (p : PortSettings) (clamped : List Bool)
  | portUnfenced (timeouts : Nat)
  | portStatus (p : PortReport)
  | linkCreated (link : LinkId)
  | linkDeleted (transferred : Nat)
  | linkRead (link : LinkId) (record : Link) (children cases : Nat)
  | report (channel : Fin 4) (dropped left : Nat) (report : Report)
  | noReport
  | timeSet (second : Nat) (day : Nat) (delivered : Bool)
  | timeRead (clock day : Option Nat) (floor rolloverMinute : Nat)
  | settings (values : Settings) (clamped : List Bool)
  | deviceStatus (d : DeviceReport)
  deriving DecidableEq, Repr

/-- The status and fields of an answer. -/
structure Reply where
  status : Status
  fields : Fields
  deriving DecidableEq, Repr

/-- An answer frame (R188): the request's link, kind and tag, the two flags, and the reply. -/
structure Answer where
  link    : Byte
  kind    : Byte
  tag     : Byte
  overrun : Bool
  attn    : Bool
  reply   : Reply
  deriving DecidableEq, Repr

/-- A taken place of the receive buffer: a frame, and its answer once the frame has been taken (R187). -/
structure BufferPlace where
  frame  : Frame
  answer : Option Answer
  deriving DecidableEq, Repr

/-- The terminal port (R186, R187). `restartDue` holds the restart that a DEVICE RESET or DEVICE ERASE has called
for, from the moment its answer has been sent until the restart begins (R196). -/
structure Terminal where
  buffer      : List BufferPlace
  overrunFlag : Bool
  frameErrors : Nat
  overruns    : Nat
  restartDue  : Option RestartKind
  deriving DecidableEq, Repr

/-- The clock (R191): the second, absent while unset; the time floor; the seconds of running since the clock was
set or the floor last written; and the announced day. -/
structure Clock where
  second       : Option Nat
  floor        : Nat
  floorAge     : Nat
  announcedDay : Nat
  deriving DecidableEq, Repr

end Sys2Proof.Machine

namespace Sys2Proof.Machine

/-- The state of the K-430. `choices` is the model's own counter of free choices taken (log entry 2); `pending`
is the queue of commands that wait, first in, first out. -/
structure State where
  terminal   : Terminal
  links      : Vector Link 32
  channels   : Vector Channel 4
  cases      : List Case
  nextCase   : Option Nat
  concession : Vector Terms 16
  hotlist    : Hotlist
  zones      : Vector Zone 12
  ports      : Ports
  signing    : Signing
  clock      : Clock
  settings   : Settings
  choices    : Nat
  pending    : List Instr
  deriving DecidableEq, Repr

/-- Why the K-430 stops. No rule of the spec stops the part: every command has an effect, or leaves the state as
it is. The type has no values, so no step ends in a fault. -/
inductive Fault where
  deriving DecidableEq, Repr

/-- Why the model has no meaning for a command. -/
inductive Refusal where
  /-- Raised only by an arm of exec that has no meaning yet; there is none. Safe: the run stops. -/
  | notModelled (mnemonic : String)
  deriving DecidableEq, Repr

/-! ### Reset -/

/-- The default row of the concession table (R65). -/
def Terms.default : Terms := ⟨1500, 2, 5, 300, 1⟩

/-- All five rights. -/
def Rights.all : Rights := ⟨true, true, true, true, true⟩

/-- A FREE record (R174). -/
def Link.freeRecord : Link := ⟨.free, {}, 0, none, none, 0⟩

/-- Link 1 as R175 keeps it. -/
def Link.root : Link := ⟨.active, Rights.all, 0, none, none, 0⟩

/-- An UNUSED zone with its settings at the defaults (R138). -/
def Zone.erased : Zone :=
  ⟨.unused, .field, 8, 2, none, 0, none, false, {}, none, 0, 0, 0⟩

/-- A port at the defaults of R139, enabled and unfenced, with no card sensed and nothing outstanding. -/
def PortRec.erased : PortRec :=
  ⟨true, .burst, 3, 5, 250, 120, false, 0, none, none, none⟩

/-- A port that has sent SENSE while the clock is unset (R164). -/
def PortRec.sensing : PortRec :=
  { PortRec.erased with outstanding := some ⟨.sense, none, 250⟩ }

/-- An empty channel. -/
def Channel.empty : Channel := ⟨[], 0⟩

/-- The general settings at their defaults (R193). -/
def Settings.default : Settings := ⟨180, 16, 90, .rotating⟩

/-- The signing unit as a restart leaves it, with an empty statement queue (R173). -/
def Signing.fresh : Signing := ⟨none, {}, .group, .statement, none, none, []⟩

/-- The link table after DEVICE ERASE: link 1 alone (R175). -/
def erasedLinks : Vector Link 32 := (Vector.replicate 32 Link.freeRecord).set 0 Link.root

/-- The machine right after power-on with erased store contents (R196 items 1 to 4): the spec gives no contents of
the store at first delivery (log entry 3). The RESTARTED report waits in channel 0 and every port has sent SENSE. -/
def State.reset : State where
  terminal   := ⟨[], false, 0, 0, none⟩
  links      := erasedLinks
  channels   := (Vector.replicate 4 Channel.empty).set 0 ⟨[⟨none, 0, .restarted .powerOn none⟩], 0⟩
  cases      := []
  nextCase   := some 1
  concession := Vector.replicate 16 Terms.default
  hotlist    := ⟨[], [], 0, .idle⟩
  zones      := Vector.replicate 12 Zone.erased
  ports      := ⟨PortRec.sensing, PortRec.sensing, PortRec.sensing, PortRec.sensing⟩
  signing    := Signing.fresh
  clock      := ⟨none, 0, 0, 0⟩
  settings   := Settings.default
  choices    := 0
  pending    := []

end Sys2Proof.Machine
end

