-- ==== Sys2Proof/Machine/Bytes.lean ====
section
/-! DEFINITION. Bytes: the frame on the terminal line with its CRC (R186), the code tables of section 11.4 and
11.5, the field encodings of R189, and the readers of product, snapshot and card event records. Multi-byte fields
are sent most significant byte first (section 11.1). -/

namespace Sys2Proof.Machine

/-! ### Fields -/

/-- The number an unsigned field of several bytes stands for, most significant byte first. -/
def beNat (l : List Byte) : Nat := l.foldl (fun a b => a * 256 + b.toNat) 0

/-- The field of `n` bytes at offset `off`. -/
def fieldAt (off n : Nat) (l : List Byte) : Nat := beNat ((l.drop off).take n)

/-- The two's complement reading of a 4-byte field (R189, signed cents). -/
def signed32 (n : Nat) : Int := if n < 2147483648 then n else (n : Int) - 4294967296

/-- The sum, modulo 65 536, of bytes taken as unsigned values (R9, R127, R131). -/
def byteSum (l : List Byte) : Nat := (l.foldl (fun a b => a + b.toNat) 0) % 65536

/-- The unsigned field of `n` bytes for a number, most significant byte first. -/
def putNat : Nat → Nat → List Byte
  | 0, _ => []
  | n + 1, v => BitVec.ofNat 8 (v / 256 ^ n) :: putNat n v

/-- Signed cents and signed trips: 4 bytes, two's complement (R189). -/
def putInt (v : Int) : List Byte := putNat 4 (v % 4294967296).toNat

/-- A mark: one byte, 0 or 1 (R189). -/
def putMark (b : Bool) : List Byte := [if b then 1 else 0]

/-- An optional field: a presence byte, then the value only when present (R189). -/
def putOpt {α : Type} (put : α → List Byte) : Option α → List Byte
  | none => [0]
  | some v => 1 :: put v

/-- A list: a count byte, then the entries (R189). -/
def putList {α : Type} (put : α → List Byte) (l : List α) : List Byte :=
  BitVec.ofNat 8 l.length :: (l.map put).flatten

/-! ### The frame (section 11.1, R186) -/

/-- One bit of the CRC: polynomial x^16 + x^12 + x^5 + 1 (R186). R186 does not say in which order a byte's bits enter the CRC; that
the most significant bit enters first is PRESUMED (log entry 28). -/
def crcBit (c : BitVec 16) : BitVec 16 := if c.msb then (c <<< 1) ^^^ 0x1021#16 else c <<< 1

/-- One byte of the CRC. -/
def crcByte (c : BitVec 16) (b : Byte) : BitVec 16 :=
  Nat.repeat crcBit 8 (c ^^^ (b.setWidth 16 <<< 8))

/-- CRC-16 with initial value FFFF hexadecimal and no final inversion (R186). -/
def crc16 (l : List Byte) : BitVec 16 := l.foldl crcByte 0xFFFF#16

/-- What the receiver makes of the bytes of a frame (R186). -/
inductive Reception where
  /-- no start marker, or the bytes end before the frame does -/
  | incomplete
  /-- the length lies outside 4 to 512, or the CRC differs -/
  | error
  | frame (f : Frame)
  deriving DecidableEq, Repr

/-- The receiver takes the bytes after a start marker: two length bytes, `length` bytes, two CRC bytes. -/
def receiveBody (l : List Byte) : Reception :=
  if l.length < 2 then .incomplete
  else
    let n := fieldAt 0 2 l
    if n < 4 ∨ 512 < n then .error
    else if l.length < n + 4 then .incomplete
    else if (crc16 (l.take (n + 2))).toNat = fieldAt (n + 2) 2 l then
      .frame ⟨BitVec.ofNat 8 (fieldAt 2 1 l), BitVec.ofNat 8 (fieldAt 3 1 l),
        BitVec.ofNat 8 (fieldAt 4 1 l), BitVec.ofNat 8 (fieldAt 5 1 l), (l.drop 6).take (n - 4)⟩
    else .error

/-- Between frames the receiver waits for a start marker and discards any other byte (R186). -/
def receive : List Byte → Reception
  | [] => .incomplete
  | b :: rest => if b = 0xA5#8 then receiveBody rest else receive rest

/-- The bytes from the length field to the body (section 11.1). -/
def frameCore (f : Frame) : List Byte :=
  putNat 2 (f.body.length + 4) ++ [f.link, f.kind, f.tag, f.flags] ++ f.body

/-- A frame as it stands on the line, start marker and CRC included (section 11.1). -/
def frameBytes (f : Frame) : List Byte :=
  0xA5#8 :: (frameCore f ++ putNat 2 (crc16 (frameCore f)).toNat)

/-! ### Code tables (section 11.4, 11.5, R189) -/

/-- The request kind codes (section 11.4). -/
def kindCode : Kind → Nat
  | .caseOpen => 1 | .caseIssue => 2 | .caseRecover => 3 | .caseCancel => 4 | .caseSettle => 5
  | .caseTransfer => 6 | .caseQuery => 7 | .caseList => 8 | .caseResolve => 9 | .issueAbort => 10
  | .concessionSet => 11 | .concessionRead => 12 | .hotlistCut => 13 | .hotlistRead => 14
  | .zoneConfigure => 15 | .zoneRelease => 16 | .zoneHold => 17 | .zoneResync => 18 | .zoneRemove => 19
  | .zoneClear => 20 | .batchHeader => 21 | .batchRecords => 22 | .batchEnd => 23 | .portConfigure => 24
  | .portUnfence => 25 | .portStatus => 26 | .linkCreate => 27 | .linkDelete => 28 | .linkMove => 29
  | .linkSuspend => 30 | .linkResume => 31 | .linkRead => 32 | .reportFetch => 33 | .timeSet => 34
  | .timeRead => 35 | .settingsSet => 36 | .deviceStatus => 37 | .deviceReset => 38 | .deviceErase => 39
  | .zoneStatus => 40

/-- The kind byte of a request. -/
def kindByte (k : Kind) : Byte := BitVec.ofNat 8 (kindCode k)

/-- Narrow 1, Standard 2, Extended 3 (section 11.4, snapshot record). -/
def familyCode : Family → Nat
  | .narrow => 1 | .standard => 2 | .extended => 3

/-- The family a code names. -/
def familyOf : Nat → Option Family
  | 1 => some .narrow | 2 => some .standard | 3 => some .extended | _ => none

/-- The ports A to D by their place in R139 (R189). -/
def portCode : Port → Nat
  | .A => 1 | .B => 2 | .C => 3 | .D => 4

/-- The port a code names. -/
def portOf : Nat → Option Port
  | 1 => some .A | 2 => some .B | 3 => some .C | 4 => some .D | _ => none

/-- PERIOD_DAYS 1, PERIOD_RANGE 2, CARNET 3, CONCESSION 4 (section 11.4). -/
def kindNameCode : KindName → Nat
  | .periodDays => 1 | .periodRange => 2 | .carnet => 3 | .concession => 4

/-- PAID 1, CARNET 2, PASS 3, TOPUP 4, BLOCKED 5 (section 11.4). -/
def eventKindCode : EventKind → Nat
  | .paid => 1 | .carnet => 2 | .pass => 3 | .topup => 4 | .blocked => 5

/-- The event kind a code names. -/
def eventKindOf : Nat → Option EventKind
  | 1 => some .paid | 2 => some .carnet | 3 => some .pass | 4 => some .topup | 5 => some .blocked
  | _ => none

/-- The status codes (section 11.5). -/
def statusCode : Status → Nat
  | .done => 0 | .frameLength => 1 | .unknownKind => 2 | .noLink => 3 | .linkSuspended => 4 | .noRight => 5
  | .badField => 6 | .noTime => 7 | .tableFull => 8 | .notFound => 9 | .wrongState => 10
  | .duplicateCard => 11 | .sumMismatch => 12 | .cardMarked => 13 | .conflictsOpen => 14 | .portBusy => 15
  | .portFenced => 16 | .portDisabled => 17 | .tooLate => 18 | .busy => 19 | .nothingPending => 20
  | .timeBackward => 21 | .zoneUnused => 22 | .zoneHeld => 23 | .sequenceGap => 24 | .duplicateBatch => 25
  | .noOpenBatch => 26 | .hasChildren => 27 | .ownsCases => 28

/-! ### Records (section 11.4) -/

/-- The kind part of a product record, 7 bytes: a filler byte that is not 0, a mark outside 0 and 1, or a field
that must be 0 because its mark is clear and is not, is out of range (R189). -/
def readFields (kind : Nat) (l : List Byte) : Option ProductFields :=
  match kind with
  | 1 =>
    let marks := fieldAt 2 1 l
    let start := fieldAt 3 2 l
    let remaining := fieldAt 5 2 l
    if 3 < marks then none
    else if marks % 2 = 0 ∧ start ≠ 0 then none
    else if marks / 2 = 0 ∧ remaining ≠ 0 then none
    else some (.periodDays (fieldAt 0 2 l) (if marks % 2 = 1 then some start else none)
      (if marks / 2 = 1 then some remaining else none))
  | 2 => if fieldAt 4 3 l ≠ 0 then none else some (.periodRange (fieldAt 0 2 l) (fieldAt 2 2 l))
  | 3 => if fieldAt 2 5 l ≠ 0 then none else some (.carnet (fieldAt 0 1 l) (fieldAt 1 1 l : Nat))
  | 4 => if fieldAt 3 4 l ≠ 0 then none else some (.concession (fieldAt 0 1 l) (fieldAt 1 2 l))
  | _ => none

/-- A product record of 14 bytes; none when a kind code, a filler or a zone set bit is out of range (R2, R189). -/
def readProduct (l : List Byte) : Option Product :=
  let zones := fieldAt 5 2 l
  if 4096 ≤ zones then none
  else (readFields (fieldAt 1 1 l) (l.drop 7)).map fun f =>
    ⟨fieldAt 0 1 l, fieldAt 2 3 l, BitVec.ofNat 12 zones, f⟩

/-- The first `n` product records of a list of bytes. -/
def readProducts : Nat → List Byte → Option (List Product)
  | 0, _ => some []
  | n + 1, l =>
    match readProduct (l.take 14), readProducts n (l.drop 14) with
    | some p, some ps => some (p :: ps)
    | _, _ => none

/-- A snapshot record with `n` products (section 11.4); none when a family or kind code, a filler or a zone set bit
is out of range. -/
def readSnapshot (n : Nat) (l : List Byte) : Option Snapshot :=
  match familyOf (fieldAt 6 1 l), readProducts n (l.drop 17) with
  | some fam, some ps =>
    some ⟨fieldAt 0 6 l, fam, fieldAt 7 3 l, signed32 (fieldAt 10 4 l), fieldAt 14 2 l, ps,
      fieldAt (17 + 14 * n) 2 l⟩
  | _, _ => none

/-- The computed snapshot check: the bytes from offset 0 up to the check itself (R9). -/
def snapshotSum (n : Nat) (l : List Byte) : Nat := byteSum (l.take (17 + 14 * n))

/-- A card event record of 20 bytes; none when its kind code names none of the five kinds (R10). -/
def readEvent (l : List Byte) : Option CardEvent :=
  (eventKindOf (fieldAt 9 1 l)).map fun k =>
    ⟨fieldAt 0 6 l, fieldAt 6 3 l, k, fieldAt 10 3 l, fieldAt 13 1 l, fieldAt 14 2 l, fieldAt 16 2 l,
      fieldAt 18 2 l⟩

/-- The first `n` records of 20 bytes each. -/
def eventRecords : Nat → List Byte → List (List Byte)
  | 0, _ => []
  | n + 1, l => l.take 20 :: eventRecords n (l.drop 20)

/-- Rights: OPEN 1, APPROVE 2, FEED 4, ADMIN 8, GRANT 16; the three highest bits are 0 (R189). -/
def readRights (n : Nat) : Option Rights :=
  if 32 ≤ n then none
  else some ⟨n.testBit 0, n.testBit 1, n.testBit 2, n.testBit 3, n.testBit 4⟩

end Sys2Proof.Machine
end

