-- ==== Sys2Proof/Machine/Operands.lean ====
section
/-! DEFINITION. Requests: the body length of each kind (R190), the right each kind needs (R176), and the fields of
each request body under the encodings of R189, as raw numbers that the request's own checks range over. -/

namespace Sys2Proof.Machine

/-! ### Body lengths (R190) -/

/-- CASE OPEN: 19 + 14 × (product count) + 1 + 20 × (opening event count), the counts at their places in the body; a
body too short to hold the count fields has the wrong length (R190). -/
def caseOpenLengthOk (body : List Byte) : Bool :=
  let n := fieldAt 16 1 body
  let m := fieldAt (19 + 14 * n) 1 body
  decide (20 ≤ body.length ∧ 20 + 14 * n ≤ body.length ∧ body.length = 19 + 14 * n + 1 + 20 * m)

/-- BATCH RECORDS: 2 + 20 × (record count). -/
def batchRecordsLengthOk (body : List Byte) : Bool :=
  decide (2 ≤ body.length ∧ body.length = 2 + 20 * fieldAt 1 1 body)

/-- The fixed body lengths: the sums of the field encodings of R189. The fields of a body that its rule gives in prose stand in the
order of that prose (log entry 29). -/
def fixedLength : Kind → Nat
  | .caseOpen | .batchRecords => 0
  | .caseIssue => 6
  | .caseRecover => 5
  | .caseCancel | .caseSettle | .issueAbort => 4
  | .caseTransfer => 5
  | .caseQuery => 6
  | .caseList => 6
  | .caseResolve => 8
  | .concessionSet => 10
  | .concessionRead | .hotlistCut | .reportFetch | .timeRead | .deviceStatus | .deviceReset | .deviceErase => 0
  | .hotlistRead => 3
  | .zoneConfigure => 4
  | .zoneRelease | .zoneHold | .zoneResync | .zoneRemove | .zoneClear | .zoneStatus => 1
  | .batchHeader => 13
  | .batchEnd => 5
  | .portConfigure => 9
  | .portUnfence | .portStatus => 1
  | .linkCreate => 5
  | .linkDelete => 2
  | .linkMove => 4
  | .linkSuspend | .linkResume | .linkRead => 1
  | .timeSet => 4
  | .settingsSet => 6

/-- The body has the length R190 gives for the kind. -/
def bodyLengthOk (k : Kind) (body : List Byte) : Bool :=
  match k with
  | .caseOpen => caseOpenLengthOk body
  | .batchRecords => batchRecordsLengthOk body
  | k => decide (body.length = fixedLength k)

/-! ### Rights (R176) -/

/-- Whether a set of rights holds the right the request kind needs (R176). -/
def hasRight (k : Kind) (r : Rights) : Bool :=
  match k with
  | .caseOpen => r.opens
  | .caseIssue | .caseRecover | .caseCancel | .issueAbort => r.opens || r.approve
  | .caseSettle | .caseTransfer | .caseResolve => r.approve
  | .batchHeader | .batchRecords | .batchEnd => r.feed
  | .concessionSet | .hotlistCut | .zoneConfigure | .zoneRelease | .zoneHold | .zoneResync | .zoneRemove
  | .zoneClear | .portConfigure | .portUnfence | .timeSet | .settingsSet | .deviceReset | .deviceErase => r.admin
  | .linkCreate | .linkDelete | .linkMove | .linkSuspend | .linkResume => r.grants
  | .caseQuery | .caseList | .concessionRead | .hotlistRead | .zoneStatus | .portStatus | .linkRead
  | .reportFetch | .timeRead | .deviceStatus => true

/-! ### Places in numbered tables -/

/-- The link a number 1 to 32 names. -/
def linkOf (n : Nat) : Option LinkId :=
  if h : 1 ≤ n ∧ n ≤ 32 then some ⟨n - 1, by omega⟩ else none

/-- The number of a link. -/
def linkNumber (l : LinkId) : Nat := l.val + 1

/-- The zone a number 1 to 12 names. -/
def zoneOf (n : Nat) : Option ZoneId :=
  if h : 1 ≤ n ∧ n ≤ 12 then some ⟨n - 1, by omega⟩ else none

/-- The number of a zone. -/
def zoneNumber (z : ZoneId) : Nat := z.val + 1

/-- The channel a number 0 to 3 names. -/
def channelOf (n : Nat) : Option (Fin 4) := if h : n < 4 then some ⟨n, h⟩ else none

/-- A one-byte mark, 0 or 1 (R189). -/
def markOf : Nat → Option Bool
  | 0 => some false | 1 => some true | _ => none

/-- ROTATING 1, FIXED 2, by place in R165 (R189). -/
def arbModeOf : Nat → Option ArbMode
  | 1 => some .rotating | 2 => some .fixed | _ => none

/-- FIELD 1, PACKED 2, by place in R115 (R189). -/
def sumMethodOf : Nat → Option SumMethod
  | 1 => some .field | 2 => some .packed | _ => none

/-- BURST 1, CAREFUL 2, by place in R139 (R189). -/
def writeModeOf : Nat → Option WriteMode
  | 1 => some .burst | 2 => some .careful | _ => none

/-! ### Bodies (R189) -/

/-- A case number alone: CASE CANCEL, CASE SETTLE, ISSUE ABORT; the first field of every request that names a case. -/
abbrev bodyCase (b : List Byte) : Nat := fieldAt 0 4 b

/-- The one-byte field at an offset: a port, zone, link, part, filter, mark or small number. -/
abbrev bodyByte (off : Nat) (b : List Byte) : Nat := fieldAt off 1 b

/-- The five terms of CONCESSION SET, as sent. -/
def bodyTerms (b : List Byte) : Terms :=
  ⟨fieldAt 1 3 b, fieldAt 4 1 b, fieldAt 5 1 b, fieldAt 6 3 b, fieldAt 9 1 b⟩

/-- The parts of CASE QUERY, by place in R41. -/
inductive CasePart where
  | summary | snapshot | chain | conflicts | issue | settlement
  deriving DecidableEq, Repr

/-- SUMMARY 1, SNAPSHOT 2, CHAIN 3, CONFLICTS 4, ISSUE 5, SETTLEMENT 6 (R189). -/
def casePartOf : Nat → Option CasePart
  | 1 => some .summary | 2 => some .snapshot | 3 => some .chain | 4 => some .conflicts | 5 => some .issue
  | 6 => some .settlement | _ => none

/-- The state filter of CASE LIST: ANY 1, WATCH 2, HOLDING 3, SETTLED 4; ANY is no state (R42, R189). -/
def stateFilterOf : Nat → Option (Option CaseState)
  | 1 => some none | 2 => some (some .watch) | 3 => some (some .holding) | 4 => some (some .settled)
  | _ => none

/-- The owner filter of CASE LIST: ANY 1, OWN 2; the answer is whether it is OWN (R42, R189). -/
def ownerFilterOf : Nat → Option Bool
  | 1 => some false | 2 => some true | _ => none

/-- The choice of CASE RESOLVE: KEEP 1, REPLACE 2; the answer is whether it is REPLACE (R57, R189). -/
def choiceOf : Nat → Option Bool
  | 1 => some false | 2 => some true | _ => none

/-- The part of HOTLIST READ: MASTER 1, PENDING 2; the answer is whether it is PENDING (R113, R189). -/
def hotlistPartOf : Nat → Option Bool
  | 1 => some false | 2 => some true | _ => none

/-- The fields of a batch header (section 11.4). -/
structure HeaderFields where
  sequence   : Nat
  generation : Nat
  day        : Nat
  sum        : Nat
  deriving DecidableEq, Repr

/-- The batch header of a BATCH HEADER body, after its zone. -/
def bodyHeader (b : List Byte) : HeaderFields :=
  ⟨fieldAt 1 4 b, fieldAt 5 4 b, fieldAt 9 2 b, fieldAt 11 2 b⟩

/-- The numeric settings of PORT CONFIGURE, as sent: retry limit, fence threshold, response timeout, re-presentation
window (R140). -/
structure PortNumbers where
  retryLimit     : Nat
  fenceThreshold : Nat
  timeout        : Nat
  window         : Nat
  deriving DecidableEq, Repr

/-- The numeric settings of a PORT CONFIGURE body. -/
def bodyPortNumbers (b : List Byte) : PortNumbers :=
  ⟨fieldAt 3 1 b, fieldAt 4 1 b, fieldAt 5 2 b, fieldAt 7 2 b⟩

end Sys2Proof.Machine
end

