-- ==== Sys2Proof/Machine/Flags.lean ====
section
/-! DEFINITION. The flags and derived marks of the K-430: a zone's error flags (R115), the configured zones (R115),
the ATTN output (R183), the marks a request's clamped values carry (R66, R118, R140, R193), and the questions the
other chapters ask of a state: the current service day, whether a port is in service, whether a retention is reached. -/

namespace Sys2Proof.Machine

/-- The value of one of a zone's error counts. -/
def getCount (c : ErrorCount) (n : ErrorCounts) : Nat :=
  match c with
  | .badSum => n.badSum
  | .gap => n.gap
  | .unknownKind => n.unknownKind
  | .malformed => n.malformed

/-- One error count raised by one, saturating at 255 (R135). -/
def raiseCount (c : ErrorCount) (n : ErrorCounts) : ErrorCounts :=
  match c with
  | .badSum => { n with badSum := satSucc 255 n.badSum }
  | .gap => { n with gap := satSucc 255 n.gap }
  | .unknownKind => { n with unknownKind := satSucc 255 n.unknownKind }
  | .malformed => { n with malformed := satSucc 255 n.malformed }

/-- An error count's flag: set while the count is at or above the zone's error threshold (R115). -/
def countFlag (z : Zone) (c : ErrorCount) : Bool := decide (z.threshold ≤ getCount c z.counts)

/-- The four flags, in the order bad-sum, gap, unknown-kind, malformed. -/
def zoneFlags (z : Zone) : Bool × Bool × Bool × Bool :=
  (countFlag z .badSum, countFlag z .gap, countFlag z .unknownKind, countFlag z .malformed)

/-- Any of the four flags is set (R194). -/
def anyFlag (z : Zone) : Bool :=
  countFlag z .badSum || countFlag z .gap || countFlag z .unknownKind || countFlag z .malformed

/-- A zone is fed: HUNT, OPEN_BATCH or ALIGNED (R116). -/
def isFed : ZoneState → Bool
  | .hunt | .openBatch | .aligned => true
  | .unused | .held => false

/-- The set holding one zone. -/
def zoneBit (z : ZoneId) : ZoneSet := BitVec.twoPow 12 z.val

/-- A zone is a member of a set. -/
def zoneIn (z : ZoneId) (s : ZoneSet) : Bool := s.getLsbD z.val

/-- The configured zones: those not UNUSED (R115). -/
def configuredZones (zs : Vector Zone 12) : ZoneSet :=
  (List.finRange 12).foldl (fun acc z => if zs[z].state = .unused then acc else acc ||| zoneBit z) 0

/-- At least one zone is configured and the set holds every configured zone (R24, R62). -/
def closedAll (zs : Vector Zone 12) (closed : ZoneSet) : Bool :=
  decide (configuredZones zs ≠ 0 ∧ configuredZones zs &&& ~~~closed = 0)

/-- The ATTN output: high while any of the four queues holds a report (R183). -/
def attn (s : State) : Bool :=
  !(s.channels[0].queue.isEmpty && s.channels[1].queue.isEmpty && s.channels[2].queue.isEmpty &&
    s.channels[3].queue.isEmpty)

/-- A clamped mark: the stored value differs from the value sent (R66). -/
def clampedMark (sent stored : Nat) : Bool := decide (sent ≠ stored)

/-- The current service day: the announced day, read as absent while the clock is unset (R191). -/
def dayOf (s : State) : Option Nat :=
  match s.clock.second with
  | none => none
  | some _ => some s.clock.announcedDay

/-- The computed day of second `t` with rollover minute `m` (R191). -/
def computedDay (t m : Nat) : Nat := if t < 60 * m then 0 else (t - 60 * m) / 86400

/-- A port in service is enabled and not fenced (R139). -/
def inService (p : PortRec) : Bool := p.enabled && !p.fenced

/-- Review is empty. -/
def reviewEmpty (r : Review) : Bool := !(r.conflict || r.chainFull || r.gapImplausible)

/-- A reason is in review. -/
def inReview (r : Review) : Reason → Bool
  | .conflict => r.conflict
  | .chainFull => r.chainFull
  | .gapImplausible => r.gapImplausible

/-- Review with a reason added. -/
def addReason (r : Review) : Reason → Review
  | .conflict => { r with conflict := true }
  | .chainFull => { r with chainFull := true }
  | .gapImplausible => { r with gapImplausible := true }

/-- The gap count G = Cmax − S − (number of events in the chain), derived whenever it is read (R45). -/
def gapCount (c : Case) : Nat := c.cmax - c.snapshot.counter - c.chain.length

/-- A SETTLED case has reached retention on day `day` (R37). -/
def retentionReached (retentionDays day : Nat) (c : Case) : Bool :=
  match c.settlement with
  | none => false
  | some f => decide (c.state = .settled ∧ f.day + retentionDays ≤ day)

/-- The statement pending mark (R17). -/
def statementPending (c : Case) : Bool :=
  match c.settlement with
  | none => false
  | some f => f.statementPending

end Sys2Proof.Machine
end

