-- ==== Sys2Proof/Machine/Ops.lean ====
section
/-! DEFINITION. The named operations over the state that every command shares: the updates of its parts, the order the
spec leaves open, the report channels (R182, R183), the time floor (R191) and the lookups. -/

namespace Sys2Proof.Machine

/-! ### Updates of the state's parts -/

def State.modTerminal (f : Terminal → Terminal) (s : State) : State := { s with terminal := f s.terminal }

def State.modHotlist (f : Hotlist → Hotlist) (s : State) : State := { s with hotlist := f s.hotlist }

def State.modSigning (f : Signing → Signing) (s : State) : State := { s with signing := f s.signing }

def State.modClock (f : Clock → Clock) (s : State) : State := { s with clock := f s.clock }

def State.setLink (l : LinkId) (r : Link) (s : State) : State := { s with links := s.links.set l r }

def State.setChannel (c : Fin 4) (ch : Channel) (s : State) : State :=
  { s with channels := s.channels.set c ch }

def State.setZone (z : ZoneId) (r : Zone) (s : State) : State := { s with zones := s.zones.set z r }

def State.modZone (z : ZoneId) (f : Zone → Zone) (s : State) : State := s.setZone z (f s.zones[z])

/-- The record of a port. -/
def Ports.get (ps : Ports) : Port → PortRec
  | .A => ps.a
  | .B => ps.b
  | .C => ps.c
  | .D => ps.d

/-- The port records with one replaced. -/
def Ports.set (ps : Ports) (p : Port) (r : PortRec) : Ports :=
  match p with
  | .A => { ps with a := r }
  | .B => { ps with b := r }
  | .C => { ps with c := r }
  | .D => { ps with d := r }

def State.port (s : State) (p : Port) : PortRec := s.ports.get p

def State.setPort (p : Port) (r : PortRec) (s : State) : State := { s with ports := s.ports.set p r }

def State.modPort (p : Port) (f : PortRec → PortRec) (s : State) : State := s.setPort p (f (s.port p))

/-- A change of the job on a port; nothing where the port has none. -/
def State.modJob (p : Port) (f : Job → Job) (s : State) : State :=
  s.modPort p fun r => { r with job := r.job.map f }

/-- The live case of a number (R16). -/
def State.findCase (s : State) (n : Nat) : Option Case := s.cases.find? fun c => c.number = n

/-- A change of the live case of a number. -/
def State.modCase (n : Nat) (f : Case → Case) (s : State) : State :=
  { s with cases := s.cases.map fun c => if c.number = n then f c else c }

/-- The four ports, in order. -/
def allPorts : List Port := [.A, .B, .C, .D]

/-- The twelve zones, in ascending number. -/
def allZones : List ZoneId := List.finRange 12

/-! ### Orders the spec leaves open (log entry 2) -/

/-- A list in an order that free choices decide, `k` numbering the first of them; nothing is chosen for a list of
at most one entry. -/
def freeOrder {α : Type} : Nat → Nat → List α → List α
  | 0, _, l => l
  | _ + 1, _, [] => []
  | _ + 1, _, [x] => [x]
  | fuel + 1, k, l =>
    let i := Config.freeChoice k % l.length
    (l.drop i).take 1 ++ freeOrder fuel (k + 1) (l.eraseIdx i)

/-- The list in its free order. -/
def State.ordered {α : Type} (s : State) (l : List α) : List α := freeOrder l.length s.choices l

/-- The choices an ordering of `n` entries takes are used up. -/
def State.useChoices (n : Nat) (s : State) : State := { s with choices := s.choices + n }

/-- Run tasks in an order the spec leaves open. -/
def State.runFree {α : Type} (tasks : List α) (run : α → State → State) (s : State) : State :=
  (s.ordered tasks).foldl (fun acc t => run t acc) (s.useChoices tasks.length)

/-! ### Reports (R182, R183) -/

/-- A report joins the tail of a channel's queue, or is discarded and counted when the queue holds 16 (R183). -/
def pushReport (r : Report) (ch : Channel) : Channel :=
  if ch.queue.length < 16 then { ch with queue := ch.queue ++ [r] }
  else { ch with dropped := satSucc 255 ch.dropped }

/-- A report is queued on a channel (R183). -/
def State.queueReport (c : Fin 4) (r : Report) (s : State) : State := s.setChannel c (pushReport r s.channels[c])

/-- A system report goes to channel 0, with link 0 and station code 0 (R182). -/
def State.systemReport (b : ReportBody) (s : State) : State := s.queueReport 0 ⟨none, 0, b⟩

/-- A case report goes to the channel of the case's owner link, with its number and station code, as the link record
stands at the moment (R182). -/
def State.caseReport (owner : LinkId) (b : ReportBody) (s : State) : State :=
  s.queueReport s.links[owner].channel ⟨some owner, s.links[owner].station, b⟩

/-! ### The time floor (R191) -/

/-- A case as the store keeps it: all of it except the job field (R17). -/
def storedCase (c : Case) : Case := { c with job := none }

/-- The time floor becomes the clock's current second at every change of the store that alters a case (R191). -/
def stampFloor (before s : State) : State :=
  match s.clock.second with
  | none => s
  | some t =>
    if before.cases.map storedCase = s.cases.map storedCase then s
    else s.modClock fun c => { c with floor := t, floorAge := 0 }

end Sys2Proof.Machine
end

