-- ==== Sys2Proof/Machine/Products.lean ====
section
/-! DEFINITION. Cards and products (01_cards_products_and_card_events.md): the family table, the ranges of
products, snapshots and events, the state of a product on a day, and the segments of a card. -/

namespace Sys2Proof.Machine

/-- Product slots of a family (R1). -/
def slotCount : Family → Nat
  | .narrow => 2 | .standard => 4 | .extended => 8

/-- Purse maximum of a family in cents (R1). -/
def purseMax : Family → Nat
  | .narrow => 50000 | .standard => 200000 | .extended => 2000000

/-- Carnet trip maximum of a family (R1). -/
def tripMax : Family → Nat
  | .narrow => 20 | .standard => 50 | .extended => 255

/-- Whether an issue job writes cards of the family (R1). -/
def issuable : Family → Bool
  | .narrow => false | _ => true

/-- The kind of a product. -/
def kindName : ProductFields → KindName
  | .periodDays .. => .periodDays
  | .periodRange .. => .periodRange
  | .carnet .. => .carnet
  | .concession .. => .concession

/-- The product kinds a family holds (R1). -/
def holdsKind : Family → KindName → Bool
  | .narrow, .periodDays | .narrow, .carnet => true
  | .narrow, _ => false
  | .standard, .periodDays => false
  | .standard, _ => true
  | .extended, _ => true

/-- The ranges of the fields of each kind (R3). -/
def fieldsInRange : ProductFields → Bool
  | .periodDays len start susp =>
    decide (1 ≤ len ∧ len ≤ 366) &&
    (match start with
      | none => susp.isNone
      | some d => decide (d ≤ 65535 ∧ d + len - 1 ≤ 65535)) &&
    (match susp with
      | none => true
      | some r => decide (1 ≤ r ∧ r ≤ len))
  | .periodRange a b => decide (a ≤ 65535 ∧ b ≤ 65535 ∧ a ≤ b ∧ b - a + 1 ≤ 366)
  | .carnet purchased remaining =>
    decide (1 ≤ purchased ∧ purchased ≤ 255 ∧ 0 ≤ remaining ∧ remaining ≤ purchased)
  | .concession cls expiry => decide (cls ≤ 15 ∧ expiry ≤ 65535)

/-- The ranges of a product record (R2, R3). -/
def productInRange (p : Product) : Bool :=
  decide (p.slot ≤ 7 ∧ p.price ≤ 500000 ∧ p.zones ≠ 0) && fieldsInRange p.fields

/-- Items 3 to 5 of R4 for one product: the family holds its kind, it is suspended only on Extended, and a
carnet's trips purchased are at most the family's trip maximum. -/
def productFits (fam : Family) (p : Product) : Bool :=
  holdsKind fam (kindName p.fields) &&
  (match p.fields with
    | .periodDays _ _ (some _) => decide (fam = .extended)
    | .carnet purchased _ => decide (purchased ≤ tripMax fam)
    | _ => true)

/-- The slot indices ascend strictly from `lo` (R4 item 2). -/
def slotsAscend (lo : Nat) : List Product → Bool
  | [] => true
  | p :: rest => decide (lo ≤ p.slot) && slotsAscend (p.slot + 1) rest

/-- A product list fits a family (R4). -/
def listFits (fam : Family) (l : List Product) : Bool :=
  decide (l.length ≤ slotCount fam) && slotsAscend 0 l &&
  l.all fun p => decide (p.slot < slotCount fam) && productFits fam p

/-- The ranges of a snapshot's fields, its products within R2 and R3 (R7). -/
def snapshotInRange (today : Nat) (s : Snapshot) : Bool :=
  decide (s.cardNo ≤ 99999999999999 ∧ s.counter ≤ 16777215 ∧ -5000 ≤ s.purse ∧ s.purse ≤ 2000000
    ∧ s.day ≤ today ∧ s.products.length ≤ 8) && s.products.all productInRange

/-- The family rules of a snapshot (R8). -/
def snapshotFits (s : Snapshot) : Bool :=
  listFits s.family s.products && decide (s.purse ≤ (purseMax s.family : Int)) &&
  s.products.all fun p =>
    match p.fields with
    | .periodDays _ (some d) _ => decide (d ≤ s.day)
    | _ => true

/-- The amount range of each event kind (R10). -/
def amountInRange : EventKind → Nat → Bool
  | .paid, n => decide (n ≤ 100000)
  | .topup, n => decide (1 ≤ n ∧ n ≤ 50000)
  | _, n => decide (n = 0)

/-- Every field of a card event is within its range (R10). -/
def eventInRange (e : CardEvent) : Bool :=
  decide (e.cardNo ≤ 99999999999999 ∧ e.counter ≤ 16777215 ∧ e.slot ≤ 7 ∧ e.day ≤ 65535 ∧ e.minute ≤ 1439
    ∧ e.device ≤ 65535) && amountInRange e.kind e.amount

/-- The state of a product on day `d`: the first condition that holds (R5). -/
def productState (d : Nat) : ProductFields → ProductState
  | .periodDays _ none _ => .notStarted
  | .periodDays _ (some _) (some _) => .suspended
  | .periodDays len (some s) none => if s + len - 1 < d then .expired else .active
  | .periodRange a b => if d < a then .notStarted else if b < d then .expired else .active
  | .carnet _ remaining => if remaining ≤ 0 then .depleted else .active
  | .concession _ expiry => if expiry < d then .expired else .active

/-- The end day of a product (R6). -/
def endDay (f : ProductFields) : Option Nat :=
  match f with
  | .periodDays len (some s) none => some (s + len - 1)
  | .periodDays .. => none
  | .periodRange _ b => some b
  | .concession _ expiry => some expiry
  | .carnet .. => none

/-- The remaining days of a pass on day `d` (R6). -/
def remainingDays (d : Nat) (f : ProductFields) : Nat :=
  match f with
  | .periodDays len none _ => len
  | .periodDays _ (some _) (some r) => r
  | .periodDays len (some s) none => if s + len - 1 < d then 0 else s + len - 1 - d + 1
  | .periodRange a b => if d < a then b - a + 1 else if b < d then 0 else b - d + 1
  | _ => 0

/-- The concession class of a new case: that of the ACTIVE CONCESSION in the lowest slot, else 0 (R15). The list is
in slot order (R4). -/
def concessionClass (d : Nat) : List Product → Nat
  | [] => 0
  | p :: rest =>
    match p.fields with
    | .concession cls expiry => if d ≤ expiry then cls else concessionClass d rest
    | _ => concessionClass d rest

/-! ### Segments (R12) -/

/-- The purse segment's number, n + 1. -/
def purseSegment (fam : Family) : Nat := slotCount fam + 1

/-- The activation segment's number, n + 2. -/
def activationSegment (fam : Family) : Nat := slotCount fam + 2

/-- The block mark's number. -/
def markSegment : Nat := 15

/-- A case number on a card is optional and, when present, within its range (R12, R17). -/
def caseNoInRange : Option Nat → Bool
  | none => true
  | some n => decide (1 ≤ n ∧ n ≤ max32)

/-- Whether content read from segment `seg` of a card of family `fam` is content of that segment within the ranges of
chapter 1; any other content is a data error (R12, R141). Content of another segment's kind, and a product record for
another slot, break the segment's contents (DEDUCED, log entry 12). -/
def contentOk (fam : Family) (seg : Nat) : Option Segment → Bool
  | none => true
  | some (.header cardNo f issueDay caseNo) =>
    decide (seg = 0 ∧ f = fam ∧ cardNo ≤ 99999999999999 ∧ issueDay ≤ 65535) && caseNoInRange caseNo
  | some (.product p) =>
    decide (1 ≤ seg ∧ seg ≤ slotCount fam ∧ p.slot = seg - 1) && productInRange p && productFits fam p
  | some (.purse balance counter) =>
    decide (seg = purseSegment fam ∧ -5000 ≤ balance ∧ balance ≤ (purseMax fam : Int) ∧ counter ≤ 16777215)
  | some (.activation caseNo issueDay) =>
    decide (seg = activationSegment fam ∧ issueDay ≤ 65535) && caseNoInRange caseNo
  | some (.blockMark counter) => decide (seg = markSegment ∧ counter ≤ 16777215)

/-- The reissue number of a case: 99 000 000 000 000 plus the case number (R13). -/
def reissueNumber (caseNo : Nat) : Nat := 99000000000000 + caseNo

/-- The content an issue job writes into segment `seg`, from the case's last issue figures (R13). -/
def issueContent (caseNo : Nat) (fig : IssueFigures) (seg : Nat) : Option Segment :=
  let n := slotCount fig.family
  if seg = 0 then some (.header (reissueNumber caseNo) fig.family fig.day (some caseNo))
  else if seg ≤ n then (fig.written.find? fun p => p.slot = seg - 1).map .product
  else if seg = n + 1 then some (.purse fig.purse 0)
  else some (.activation (some caseNo) fig.day)

end Sys2Proof.Machine
end

