-- ==== Sys2Proof/Machine/Conversion.lean ====
section
/-! DEFINITION. The conversion unit (05_product_conversion.md): the matrix, the written products, the placement order,
the value of products that are not written, and the result list. -/

namespace Sys2Proof.Machine

/-- Round half up of p / q (00_scope.md section 5). -/
def roundHalfUp (p q : Nat) : Nat := (2 * p + q) / (2 * q)

/-- An old product as the arithmetic hands it over: with chain effects applied, and for a CARNET the given trips T_w
and the trip value tv (R86). -/
structure OldProduct where
  product : Product
  given   : Nat
  value   : Nat
  deriving DecidableEq, Repr

/-- The matrix outcome of an old product (R87). -/
def matrixOutcome (target : Family) (d : Nat) (o : OldProduct) : MatrixOutcome :=
  match o.product.fields, productState d o.product.fields with
  | .carnet .., _ =>
    if o.given = 0 then .drop else if tripMax target < o.given then .clampTrips else .copy
  | _, .expired => .drop
  | .periodDays .., .active => if target = .extended then .copy else .rangeFromDays
  | .periodDays .., .notStarted => if target = .extended then .copy else .startToday
  | .periodDays .., .suspended => if target = .extended then .copy else .prorate
  | _, _ => .copy

/-- The outcomes that write a product (R87, R94). -/
def writes : MatrixOutcome → Bool
  | .copy | .rangeFromDays | .startToday | .clampTrips => true
  | .prorate | .drop => false

/-- The last day of the day range, the last day START_TODAY writes (R90). -/
def lastDay : Nat := 65535

/-- The fields of the product written for an old product (R88 to R91). -/
def writtenFields (target : Family) (d : Nat) (o : OldProduct) : ProductFields :=
  match matrixOutcome target d o, o.product.fields with
  | .rangeFromDays, .periodDays len (some e) _ => .periodRange e (e + len - 1)
  | .startToday, .periodDays len _ _ =>
    if lastDay < d + len - 1 then .periodRange (lastDay + 1 - len) lastDay
    else .periodRange d (d + len - 1)
  | .clampTrips, .carnet .. => .carnet (tripMax target) (tripMax target)
  | .copy, .carnet purchased _ => .carnet (max o.given (min purchased (tripMax target))) o.given
  | _, f => f

/-- The placement group of an old product (R94). -/
def placementGroup (d : Nat) (o : OldProduct) : Nat :=
  match o.product.fields, productState d o.product.fields with
  | .concession .., _ => 1
  | .carnet .., _ => 4
  | _, .active => 2
  | _, _ => 3

/-- Within a group: later end day first in group 2, greater T_w first in group 4, then ascending old slot (R94). -/
def withinGroup (d : Nat) (a b : OldProduct) : Bool :=
  let rank (o : OldProduct) : Nat :=
    match placementGroup d o with
    | 2 => (endDay o.product.fields).getD 0
    | 4 => o.given
    | _ => 0
  decide (rank b < rank a ∨ (rank a = rank b ∧ a.product.slot < b.product.slot))

/-- One product stands before another in the placement order (R94). -/
def placedBefore (d : Nat) (a b : OldProduct) : Bool :=
  decide (placementGroup d a < placementGroup d b) ||
  (decide (placementGroup d a = placementGroup d b) && withinGroup d a b)

/-- Insertion into a list kept in the placement order. -/
def insertPlaced (d : Nat) (o : OldProduct) : List OldProduct → List OldProduct
  | [] => [o]
  | x :: xs => if placedBefore d o x then o :: x :: xs else x :: insertPlaced d o xs

/-- The placement order of the products with a written outcome (R94). -/
def placementOrder (target : Family) (d : Nat) (olds : List OldProduct) : List OldProduct :=
  (olds.filter fun o => writes (matrixOutcome target d o)).foldr (insertPlaced d) []

/-- The old products that are placed: the first k of the order, k the target family's slot count (R95). -/
def placedProducts (target : Family) (d : Nat) (olds : List OldProduct) : List OldProduct :=
  (placementOrder target d olds).take (slotCount target)

/-- The written product list: the placed products numbered from new slot 0 upward; each keeps the price paid and the
zone set of its old product (R95, section 5.3). -/
def writtenList (target : Family) (d : Nat) (olds : List OldProduct) : List Product :=
  (placedProducts target d olds).zipIdx.map fun (o, i) =>
    ⟨i, o.product.price, o.product.zones, writtenFields target d o⟩

/-- The days a pass is valued over: its length, or end − start + 1 (R92). -/
def passLength : ProductFields → Nat
  | .periodDays len _ _ => len
  | .periodRange a b => b - a + 1
  | _ => 1

/-- PRORATE: round half up of (price × remaining days) / length, limited to the price (R92). -/
def prorateValue (d : Nat) (p : Product) : Nat :=
  min p.price (roundHalfUp (p.price * remainingDays d p.fields) (passLength p.fields))

/-- The value of an unplaced product (R96). -/
def unplacedValue (d : Nat) (o : OldProduct) : Nat :=
  match o.product.fields, productState d o.product.fields with
  | .concession .., _ => 0
  | .carnet .., _ => o.given * o.value
  | _, .notStarted => o.product.price
  | _, _ => prorateValue d o.product

/-- The value of an entry: the PRORATE value, the CLAMP_TRIPS surplus, the unplaced value, or 0; held at 500 000
(R91, R92, R96, R97). -/
def entryValue (target : Family) (d : Nat) (placed : Bool) (o : OldProduct) : Nat :=
  min 500000 <|
    match matrixOutcome target d o with
    | .prorate => prorateValue d o.product
    | .drop => 0
    | .clampTrips => if placed then (o.given - tripMax target) * o.value else unplacedValue d o
    | _ => if placed then 0 else unplacedValue d o

/-- The trips remaining of a written carnet (R97). -/
def writtenTripsOf (f : ProductFields) : Option Nat :=
  match f with
  | .carnet _ remaining => some remaining.toNat
  | _ => none

/-- The result entry of an old product (R97). -/
def resultEntry (target : Family) (d : Nat) (placed : List OldProduct) (o : OldProduct) : ResultEntry :=
  let outcome := matrixOutcome target d o
  let newSlot := placed.findIdx? fun x => x.product.slot = o.product.slot
  let isCarnet := decide (kindName o.product.fields = .carnet)
  { slot := o.product.slot
    kind := kindName o.product.fields
    state := productState d o.product.fields
    outcome := outcome
    newSlot := newSlot
    unplaced := writes outcome && newSlot.isNone
    writtenTrips := if newSlot.isSome then writtenTripsOf (writtenFields target d o) else none
    givenTrips := if isCarnet then some o.given else none
    tripValue := if isCarnet then some o.value else none
    value := entryValue target d newSlot.isSome o }

/-- The conversion result list, in ascending old slot order (R97). -/
def resultList (target : Family) (d : Nat) (olds : List OldProduct) : List ResultEntry :=
  olds.map (resultEntry target d (placedProducts target d olds))

/-- The pro-rated value P: the sum of the values of all entries (R74, R97). -/
def proratedValue (results : List ResultEntry) : Nat := (results.map fun e => e.value).sum

end Sys2Proof.Machine
end

