-- ==== Sys2Proof/Machine/Arithmetic.lean ====
section
/-! DEFINITION. The restoration arithmetic (04_restoration_arithmetic.md) and the known values it reads (R53 to R55): the
figures at card check, the settlement figures, the residue, the adjustments and the inputs of a statement. -/

namespace Sys2Proof.Machine

/-! ### Known values (R53 to R55, R68) -/

/-- The sum of the amounts of the chain's events of one kind. -/
def chainSum (k : EventKind) (chain : List CardEvent) : Nat :=
  ((chain.filter fun e => e.kind = k).map fun e => e.amount).sum

/-- The known purse K = B0 + TOPUP amounts − PAID amounts (R68). -/
def knownPurse (c : Case) : Int :=
  c.snapshot.purse + chainSum .topup c.chain - chainSum .paid c.chain

/-- The number of CARNET events in the chain that name a slot. -/
def carnetEvents (slot : Nat) (chain : List CardEvent) : Nat :=
  (chain.filter fun e => e.kind = .carnet ∧ e.slot = slot).length

/-- The days of the PASS events in the chain that name a slot. -/
def passDays (slot : Nat) (chain : List CardEvent) : List Nat :=
  (chain.filter fun e => e.kind = .pass ∧ e.slot = slot).map fun e => e.day

/-- The least of a list of days. -/
def leastDay : List Nat → Option Nat
  | [] => none
  | d :: ds => some (ds.foldl min d)

/-- The known start day of an unstarted PERIOD_DAYS: the earliest PASS day naming its slot, moved back so that the end
day stays within the day range (R55). -/
def knownStart (slot length : Nat) (chain : List CardEvent) : Option Nat :=
  (leastDay (passDays slot chain)).map fun e => if lastDay < e + length - 1 then lastDay + 1 - length else e

/-- A product with chain effects applied (R53, R54). -/
def knownProduct (chain : List CardEvent) (p : Product) : Product :=
  match p.fields with
  | .carnet purchased remaining =>
    { p with fields := .carnet purchased (remaining - carnetEvents p.slot chain) }
  | .periodDays len none susp => { p with fields := .periodDays len (knownStart p.slot len chain) susp }
  | _ => p

/-- The products of the lost card with chain effects applied (R53). -/
def knownProducts (c : Case) : List Product := c.snapshot.products.map (knownProduct c.chain)

/-- The trip value tv of a carnet: round half up of price / trips purchased (R69). -/
def tripValue (price purchased : Nat) : Nat := roundHalfUp price purchased

/-- The trip value of the carnet the snapshot holds in a slot; 0 when it holds none there (R83). -/
def slotTripValue (c : Case) (slot : Nat) : Nat :=
  match c.snapshot.products.find? fun p => p.slot = slot with
  | some ⟨_, price, _, .carnet purchased _⟩ => tripValue price purchased
  | _ => 0

/-- The carnets of the snapshot with their known trips T_k, in old slot order (R68). -/
def knownTrips (c : Case) : List FinalTrips :=
  (knownProducts c).filterMap fun p =>
    match p.fields with
    | .carnet _ remaining => some ⟨p.slot, remaining⟩
    | _ => none

/-! ### Figures at card check (R70 to R76) -/

/-- The exposure E (R71). -/
def exposure (t : Terms) : Nat := min (t.dailyCap * t.exposureDays) 500000

/-- The holdback H = min(max(K, 0), E) (R71). -/
def holdback (c : Case) : Nat := min (knownPurse c).toNat (exposure c.terms)

/-- The advance A (R72). A settled case reads its stored K_f and its adjustment total. -/
def advance (c : Case) : Nat :=
  match c.settlement with
  | some f => if c.state = .settled then (f.kf + c.adjustment).toNat else (knownPurse c).toNat - holdback c
  | none => (knownPurse c).toNat - holdback c

/-- The final trips stored for a slot. -/
def finalTrips (trips : List FinalTrips) (slot : Nat) : Int :=
  match trips.find? fun t => t.slot = slot with
  | some t => t.final
  | none => 0

/-- The given trips T_w of a carnet in `slot` with known trips `known` (R73). -/
def givenTrips (c : Case) (slot : Nat) (known : Int) : Nat :=
  match c.settlement with
  | some f =>
    if c.state = .settled then (finalTrips f.trips slot).toNat
    else (known - c.terms.holdbackTrips).toNat
  | none => (known - c.terms.holdbackTrips).toNat

/-- What the arithmetic hands the conversion unit for one old product (R86). -/
def oldProduct (c : Case) (p : Product) : OldProduct :=
  match p.fields with
  | .carnet purchased remaining => ⟨p, givenTrips c p.slot remaining, tripValue p.price purchased⟩
  | _ => ⟨p, 0, 0⟩

/-- The old products of a case at card check (R86). -/
def oldProducts (c : Case) : List OldProduct := (knownProducts c).map (oldProduct c)

/-- The given trips and trip value of each carnet (R76). -/
def tripFigures (olds : List OldProduct) : List TripFigure :=
  olds.filterMap fun o =>
    match o.product.fields with
    | .carnet .. => some ⟨o.product.slot, o.given, o.value⟩
    | _ => none

/-- The issue figures of a case at card check, computed once in the order of R70 (R70 to R76). -/
def issueFigures (target : Family) (serial : Serial) (d : Nat) (c : Case) : IssueFigures :=
  let olds := oldProducts c
  let results := resultList target d olds
  let p := proratedValue results
  let a := advance c
  let purse := min (purseMax target) (a + p)
  { serial := serial
    family := target
    advance := a
    prorated := p
    purse := purse
    unplaced := a + p - purse
    written := writtenList target d olds
    trips := tripFigures olds
    results := results
    day := d
    caseState := c.state }

/-! ### Settlement figures (R77 to R81) -/

/-- The passes behind L: PERIOD_DAYS whose outcome treated them as NOT_STARTED, placed or not (R78, R97). -/
def treatedUnstarted (e : ResultEntry) : Bool :=
  decide (e.kind = .periodDays ∧ (e.outcome = .startToday ∨ (e.outcome = .copy ∧ e.state = .notStarted)))

/-- The charge of one pass of length `n` and price `p`, issued on day `d`, with known start day `e` (R78). -/
def passCharge (n p d : Nat) : Option Nat → Nat
  | none => 0
  | some e => roundHalfUp (p * min n (d - e)) n

/-- The late-activation charge L, with the start day of the pass in each slot given by `start` (R78, R80). -/
def lateCharge (c : Case) (fig : IssueFigures) (start : Nat → Nat → Option Nat) : Nat :=
  ((fig.results.filter treatedUnstarted).map fun e =>
    match c.snapshot.products.find? fun p => p.slot = e.slot with
    | some ⟨_, price, _, .periodDays len _ _⟩ => passCharge len price fig.day (start e.slot len)
    | _ => 0).sum

/-- The start day of the pass in a slot at settlement from the chain (R78, R55): that of the product with chain effects
applied. -/
def chainStart (c : Case) (slot _length : Nat) : Option Nat :=
  match (knownProducts c).find? fun p => p.slot = slot with
  | some ⟨_, _, _, .periodDays _ start _⟩ => start
  | _ => none

/-- The start day of the pass in a slot as read from the card (R80). -/
def cardStart (r : ReadContents) (slot _length : Nat) : Option Nat :=
  match r.products.find? fun p => p.slot = slot with
  | some ⟨_, _, _, .periodDays _ start _⟩ => start
  | _ => none

/-- The trips remaining of the carnet read from the card in a slot; 0 when the slot reads empty or holds another kind
(R80). -/
def cardTrips (r : ReadContents) (slot : Nat) : Int :=
  match r.products.find? fun p => p.slot = slot with
  | some ⟨_, _, _, .carnet _ remaining⟩ => remaining
  | _ => 0

/-- The carnet term of the residue: the sum of (T_f − T_w) × tv over the carnets (R79). -/
def carnetTerm (trips : List FinalTrips) (fig : IssueFigures) : Int :=
  (trips.map fun t =>
    match fig.trips.find? fun g => g.slot = t.slot with
    | some g => (t.final - g.given) * g.value
    | none => 0).sum

/-- The residue Q of a case with a new card (R79). -/
def residueOf (kf : Int) (trips : List FinalTrips) (late : Nat) (fig : IssueFigures) : Int :=
  (kf - fig.advance) + carnetTerm trips fig + fig.unplaced - late

/-- The issue figures that count at settlement: those of a case with a new card (R79). -/
def activatedFigures (c : Case) : Option IssueFigures := if c.newCard.isSome then c.issue else none

/-- The settlement figures of kind EXACT, PRESUMED or FORCED on day `day` (R77). -/
def chainSettlement (kind : SettlementKind) (day : Nat) (c : Case) : Settlement :=
  let g := gapCount c
  let charge := min g 64 * c.terms.presumedFare
  let kf := knownPurse c - charge
  let trips := knownTrips c
  let late := match activatedFigures c with
    | some fig => lateCharge c fig (chainStart c)
    | none => 0
  { kind := kind
    day := day
    cmax := c.cmax
    kf := kf
    trips := trips
    gaps := g
    charge := charge
    late := late
    residue := (activatedFigures c).map (residueOf kf trips late)
    cardCounter := none
    hadCard := c.newCard.isSome
    statementPending := true
    code := none }

/-- The settlement figures of kind FROM_CARD, from the contents the recovery job read (R80). A job that ends in success has
read the purse segment, so its purse is present. -/
def cardSettlement (r : ReadContents) (day : Nat) (c : Case) : Settlement :=
  let kf : Int := match r.purse with
    | some (balance, _) => balance
    | none => 0
  let trips := (knownTrips c).map fun t => ⟨t.slot, cardTrips r t.slot⟩
  let late := match activatedFigures c with
    | some fig => lateCharge c fig (cardStart r)
    | none => 0
  { kind := .fromCard
    day := day
    cmax := c.cmax
    kf := kf
    trips := trips
    gaps := 0
    charge := 0
    late := late
    residue := (activatedFigures c).map (residueOf kf trips late)
    cardCounter := r.purse.map fun b => b.2
    hadCard := c.newCard.isSome
    statementPending := true
    code := none }

/-- The residue an issue after settlement makes present (R32, R81): X when the figures were frozen in SETTLED, and R79
over the stored settlement figures when they were frozen in WATCH. -/
def lateResidue (f : Settlement) (fig : IssueFigures) : Int :=
  if fig.caseState = .settled then fig.unplaced else residueOf f.kf f.trips f.late fig

/-! ### Reports and statements (R82, R171) -/

/-- The carnets of the snapshot in old slot order: tv, T_f, and T_w when the case had a new card at settlement (R82). -/
def carnetLines (c : Case) (f : Settlement) : List CarnetLine :=
  f.trips.map fun t =>
    ⟨t.slot, slotTripValue c t.slot, t.final,
      if f.hadCard then (c.issue.bind fun fig => fig.trips.find? fun g => g.slot = t.slot).map fun g => g.given
      else none⟩

/-- A and X from the last issue figures, present when the case had a new card at settlement (R82). -/
def settledAdvance (c : Case) (f : Settlement) : Option Nat :=
  if f.hadCard then c.issue.map fun fig => fig.advance else none

/-- X of the last issue figures, present when the case had a new card at settlement (R82). -/
def settledUnplaced (c : Case) (f : Settlement) : Option Nat :=
  if f.hadCard then c.issue.map fun fig => fig.unplaced else none

/-- The inputs of the statement code: the figures as stored at settlement, Q when present at settlement (R171). -/
def statementInputs (c : Case) (f : Settlement) : StatementInputs :=
  { caseNo := c.number
    kind := f.kind
    day := f.day
    cmax := f.cmax
    gaps := f.gaps
    charge := f.charge
    kf := f.kf
    carnets := carnetLines c f
    late := f.late
    advance := settledAdvance c f
    unplaced := settledUnplaced c f
    residue := if f.hadCard then f.residue else none
    cardCounter := f.cardCounter }

/-! ### Adjustments (R83) -/

/-- Where an event inserted into a SETTLED case lies (R83). -/
def placeOf (f : Settlement) (e : CardEvent) : Place :=
  if f.kind ≠ .fromCard ∧ e.counter ≤ f.cmax then .gap else .beyond

/-- The delta of an inserted event (R83). -/
def adjustmentDelta (c : Case) (f : Settlement) (e : CardEvent) : Int :=
  let fare : Int := if placeOf f e = .gap then c.terms.presumedFare else 0
  match e.kind with
  | .paid => fare - e.amount
  | .topup => fare + e.amount
  | .carnet => fare - slotTripValue c e.slot
  | .pass => fare
  | .blocked => fare

/-! ### Worked figures of a report -/

/-- The unclaimed value of a case that ends SETTLED without a new card (R38). -/
def unclaimedValue (c : Case) : Option Int :=
  match c.settlement with
  | some f => if c.state = .settled ∧ c.newCard.isNone then some (max 0 (f.kf + c.adjustment)) else none
  | none => none

end Sys2Proof.Machine
end

