-- ==== Sys2Proof/Machine/Signing.lean ====
section
/-! DEFINITION. The card line's commands (R141) and the signing unit (09_the_signing_unit.md): requests, grants, releases,
the pick and withdrawals. -/

namespace Sys2Proof.Machine

/-! ### Sending a command (R141) -/

/-- The port sends a command, which becomes outstanding with the moment and the response timeout of its sending. -/
def sendCommand (p : Port) (cmd : Command) (s : State) : State :=
  s.modPort p fun r => { r with outstanding := some ⟨cmd, s.clock.second, r.timeout⟩ }

/-- The outstanding command is dropped. -/
def dropCommand (p : Port) (s : State) : State := s.modPort p fun r => { r with outstanding := none }

/-- The port sends READ for a segment. -/
def sendRead (p : Port) (seg : Nat) (s : State) : State := sendCommand p (.read seg) s

/-- The write code for the serial in the card context, a segment number and a content (R169). -/
def writeCodeNow (s : State) (seg : Nat) (content : Option Segment) : Code :=
  Config.writeCode (s.signing.context.getD 0) seg content

/-- The port sends WRITE for the next segment of its ISSUE job, from the case's last issue figures (R147). -/
def sendWrite (p : Port) (s : State) : State :=
  match (s.port p).job with
  | none => s
  | some j =>
    match (s.findCase j.caseNo).bind fun c => c.issue with
    | none => s
    | some fig =>
      let content := issueContent j.caseNo fig j.nextSegment
      sendCommand p (.write j.nextSegment content (writeCodeNow s j.nextSegment content)) s

/-- The block mark content of a RECOVER job: the card counter read from the purse segment (R155). -/
def markContent (j : Job) : Option Segment :=
  (j.contents.bind fun r => r.purse).map fun b => .blockMark b.2

/-- The port sends MARK with the block mark write code (R155). -/
def sendMark (p : Port) (s : State) : State :=
  match (s.port p).job with
  | none => s
  | some j => sendCommand p (.mark (writeCodeNow s markSegment (markContent j))) s

/-! ### The waiting set (R165) -/

/-- A member is in the waiting set. -/
def isWaiting (w : Waiting) : Member → Bool
  | .port .A => w.a
  | .port .B => w.b
  | .port .C => w.c
  | .port .D => w.d
  | .hotlist => w.hotlist
  | .statement => w.statement

/-- The waiting set with one member's mark set or cleared. -/
def setWaiting (m : Member) (v : Bool) (w : Waiting) : Waiting :=
  match m with
  | .port .A => { w with a := v }
  | .port .B => { w with b := v }
  | .port .C => { w with c := v }
  | .port .D => { w with d := v }
  | .hotlist => { w with hotlist := v }
  | .statement => { w with statement := v }

/-- A first-level place waits when its port, or a member of group G, waits (R165). -/
def placeWaits (w : Waiting) : FirstPlace → Bool
  | .port p => isWaiting w (.port p)
  | .group => w.hotlist || w.statement

/-- The first-level place of a member. -/
def firstPlaceOf : Member → FirstPlace
  | .port p => .port p
  | .hotlist | .statement => .group

/-- The first-level ring in the order A, B, C, D, G, starting after a place (R167). -/
def ringAfter : FirstPlace → List FirstPlace
  | .group => [.port .A, .port .B, .port .C, .port .D, .group]
  | .port .A => [.port .B, .port .C, .port .D, .group, .port .A]
  | .port .B => [.port .C, .port .D, .group, .port .A, .port .B]
  | .port .C => [.port .D, .group, .port .A, .port .B, .port .C]
  | .port .D => [.group, .port .A, .port .B, .port .C, .port .D]

/-- The group ring in the order hotlist, statement, starting after a place (R167). -/
def groupAfter : GroupPlace → List Member
  | .hotlist => [.statement, .hotlist]
  | .statement => [.hotlist, .statement]

/-- The orders in which the pick goes round the two rings, by the arbitration mode (R167, R168). -/
def ringOrders (mode : ArbMode) (u : Signing) : List FirstPlace × List Member :=
  match mode with
  | .rotating => (ringAfter u.lastFirst, groupAfter u.lastGroup)
  | .fixed => (ringAfter .group, groupAfter .statement)

/-- The next grantee among the waiting set (R167, R168). -/
def pick (mode : ArbMode) (u : Signing) : Option Member :=
  match (ringOrders mode u).1.find? (placeWaits u.waiting) with
  | none => none
  | some (.port p) => some (.port p)
  | some .group => (ringOrders mode u).2.find? (isWaiting u.waiting)

/-! ### Grants (R166 to R171) -/

/-- The member becomes the grantee and leaves the waiting set; the last-grantee items follow (R166, R167). -/
def takeGrant (m : Member) (u : Signing) : Signing :=
  { u with
    grantee := some m
    waiting := setWaiting m false u.waiting
    lastFirst := firstPlaceOf m
    lastGroup := match m with
      | .hotlist => .hotlist
      | .statement => .statement
      | .port _ => u.lastGroup }

/-- The package contents: the taken changes, in list order (R106). -/
def packageChanges (h : Hotlist) : List Change := h.pending.filter fun c => c.taken

/-- The inputs of the package code: the package and the generation it will bear (R170). -/
def packageInputs (h : Hotlist) : PackageInputs := ⟨packageChanges h, h.generation + 1⟩

/-- The inputs of the statement code of the case at the head of the statement queue (R171). -/
def headStatement (s : State) : Option Computation :=
  match s.signing.queue with
  | [] => none
  | n :: _ => (s.findCase n).bind fun c => c.settlement.map fun f => .statement (statementInputs c f)

/-- The grant begins: a port's loads the card context and sends its first command, the hotlist's and the statement
member's start a computation (R169, R170, R171). -/
def beginGrant (m : Member) (s : State) : State :=
  match m with
  | .port p =>
    let s := s.modSigning fun u => { u with context := (s.port p).job.bind fun j => j.target }
    let s := s.modJob p fun j => { j with grantCount := 0 }
    match (s.port p).job with
    | some j => if j.phase = .mark then sendMark p s else sendWrite p s
    | none => s
  | .hotlist => s.modSigning fun u => { u with computation := some (.package (packageInputs s.hotlist)) }
  | .statement => s.modSigning fun u => { u with computation := headStatement s }

/-- A member is granted (R166). -/
def grant (m : Member) (s : State) : State := beginGrant m (s.modSigning (takeGrant m))

/-- A member makes a request: granted at once when the unit is free, else it joins the waiting set (R166). -/
def requestGrant (m : Member) (s : State) : State :=
  match s.signing.grantee with
  | none => grant m s
  | some _ => s.modSigning fun u => { u with waiting := setWaiting m true u.waiting }

/-- The grant is released and the unit picks the next grantee by the arbitration mode (R167). -/
def releaseGrant (s : State) : State :=
  let s := s.modSigning fun u => { u with grantee := none, context := none, computation := none }
  match pick s.settings.mode s.signing with
  | none => s
  | some m => grant m s

/-- The member released makes a new request in the same event, which joins the waiting set before the pick (R167). -/
def releaseAndRequest (m : Member) (s : State) : State :=
  releaseGrant (s.modSigning fun u => { u with waiting := setWaiting m true u.waiting })

/-- A waiting member's request is withdrawn (R172). -/
def withdrawRequest (m : Member) (s : State) : State :=
  s.modSigning fun u => { u with waiting := setWaiting m false u.waiting }

/-- The port gives up its hold on the signing unit: it releases the grant it holds, or withdraws its request (R158). -/
def giveUpSigning (p : Port) (s : State) : State :=
  if s.signing.grantee = some (.port p) then releaseGrant s else withdrawRequest (.port p) s

/-- The statement member makes its request when the queue is not empty and it neither waits nor holds the grant
(R171). -/
def requestStatement (s : State) : State :=
  if s.signing.queue = [] ∨ s.signing.waiting.statement = true ∨ s.signing.grantee = some .statement then s
  else requestGrant .statement s

end Sys2Proof.Machine
end

