-- ==== Sys2Proof/Machine/Hotlist.lean ====
section
/-! DEFINITION. The hotlist unit (06_hotlist_and_generations.md): the master list, the pending change list, cuts and the
completion of a package. -/

namespace Sys2Proof.Machine

/-- The changes with the taken mark set on the oldest `n`. -/
def markTaken : Nat → List Change → List Change
  | 0, l => l
  | _ + 1, [] => []
  | n + 1, c :: rest => { c with taken := true } :: markTaken n rest

/-- A cut can start: the unit is in IDLE, changes are pending, and a further generation can be numbered (R106). -/
def canCut (h : Hotlist) : Bool := decide (h.packaging = .idle ∧ h.pending ≠ [] ∧ h.generation < max32)

/-- A cut start: up to 64 of the oldest changes are taken, the unit enters PACKAGING and the hotlist member makes its
request (R106). -/
def startCut (s : State) : State :=
  if canCut s.hotlist then
    requestGrant .hotlist
      (s.modHotlist fun h => { h with pending := markTaken 64 h.pending, packaging := .packaging })
  else s

/-- The automatic trigger: in IDLE, with the pending count at or above the auto-cut threshold, a cut starts (R107). -/
def autoCut (s : State) : State :=
  if s.hotlist.packaging = .idle ∧ s.settings.autoCut ≤ s.hotlist.pending.length then startCut s else s

/-- The rollover test: in IDLE with changes pending, a cut starts whatever the threshold (R108). -/
def rolloverCut (s : State) : State :=
  if s.hotlist.packaging = .idle ∧ 0 < s.hotlist.pending.length then startCut s else s

/-- Insertion of a master entry at its place in card number order (R101, R103). -/
def insertMaster (e : MasterEntry) : List MasterEntry → List MasterEntry
  | [] => [e]
  | x :: xs => if e.cardNo < x.cardNo then e :: x :: xs else x :: insertMaster e xs

/-- A change is appended at the tail, untaken, and the automatic trigger is tested (R103, R104, R107). -/
def appendChange (kind : ChangeKind) (cardNo caseNo : Nat) (s : State) : State :=
  autoCut (s.modHotlist fun h => { h with pending := h.pending ++ [⟨kind, cardNo, caseNo, false⟩] })

/-- A new case joins the hotlist: its master entry, and an untaken ADD (R103). -/
def hotlistAdd (cardNo caseNo : Nat) (s : State) : State :=
  appendChange .add cardNo caseNo
    (s.modHotlist fun h => { h with master := insertMaster ⟨cardNo, caseNo, none⟩ h.master })

/-- A change is an untaken ADD of a case (R104). -/
def untakenAdd (caseNo : Nat) (c : Change) : Bool :=
  decide (c.kind = .add ∧ c.caseNo = caseNo ∧ c.taken = false)

/-- An ended case is withdrawn: its master entry is deleted, and its untaken ADD is deleted (pair cancellation) or a REMOVE
is appended (R104). -/
def hotlistWithdraw (cardNo caseNo : Nat) (s : State) : State :=
  let s := s.modHotlist fun h => { h with master := h.master.filter fun e => e.caseNo ≠ caseNo }
  if s.hotlist.pending.any (untakenAdd caseNo) then
    s.modHotlist fun h => { h with pending := h.pending.eraseP (untakenAdd caseNo) }
  else appendChange .remove cardNo caseNo s

/-- The case a card number leads to in the master list (R101). -/
def masterCase (cardNo : Nat) (h : Hotlist) : Option Nat :=
  (h.master.find? fun e => e.cardNo = cardNo).map fun e => e.caseNo

/-- A master entry carries the card number and case number of an ADD of the package (R111). -/
def entryPublished (pkg : List Change) (e : MasterEntry) : Bool :=
  pkg.any fun c => decide (c.kind = .add ∧ c.cardNo = e.cardNo ∧ c.caseNo = e.caseNo)

/-- The number of ADD changes of the package whose case was no longer live (R112). -/
def endedAdds (pkg : List Change) (master : List MasterEntry) : Nat :=
  (pkg.filter fun c => c.kind = .add ∧
    !(master.any fun e => decide (e.cardNo = c.cardNo ∧ e.caseNo = c.caseNo))).length

/-- The number of changes of one kind. -/
def countKind (k : ChangeKind) (l : List Change) : Nat := (l.filter fun c => c.kind = k).length

/-- The changes of the store at a cut's completion: the generation rises, the master entries and the cases whose ADDs
the package holds take it, the taken changes are deleted, and the unit returns to IDLE (R111). -/
def completeCut (s : State) : State :=
  let pkg := packageChanges s.hotlist
  let gen := s.hotlist.generation + 1
  let published := (s.hotlist.master.filter (entryPublished pkg)).map fun e => e.caseNo
  let s := s.modHotlist fun h =>
    { master := h.master.map fun e => if entryPublished pkg e then { e with addGen := some gen } else e
      pending := h.pending.filter fun c => !c.taken
      generation := gen
      packaging := .idle }
  { s with cases := s.cases.map fun c => if c.number ∈ published then { c with generation := some gen } else c }

/-- The HOTLIST PACKAGE report of a completion (R112); `before` is the state at the completion. -/
def packageReport (code : Code) (before s : State) : ReportBody :=
  let pkg := packageChanges before.hotlist
  .hotlistPackage s.hotlist.generation pkg (countKind .add pkg) (countKind .remove pkg)
    (endedAdds pkg before.hotlist.master) s.hotlist.pending.length code

/-- What a restart does to the hotlist unit before its automatic trigger is tested: the cut is given up, and every
pending ADD whose case is no longer live is deleted with its REMOVE (R114). -/
def hotlistRestart (s : State) : State :=
  let live (n : Nat) : Bool := s.cases.any fun c => c.number = n
  let unpublished (n : Nat) : Bool :=
    s.hotlist.pending.any fun c => decide (c.kind = .add ∧ c.caseNo = n)
  s.modHotlist fun h =>
    { h with
      packaging := .idle
      pending := (h.pending.filter fun c => live c.caseNo || !unpublished c.caseNo).map fun c =>
        { c with taken := false } }

end Sys2Proof.Machine
end

