-- ==== Sys2Proof/Machine/Cases.lean ====
section
/-! DEFINITION. The case table's own work (02_the_case_table.md): settlement, triggers, the settle due mark, review, the
ends of a case, and the rollover pass. -/

namespace Sys2Proof.Machine

/-! ### Reports of a case (R38, R39, R82) -/

/-- The CASE REVIEW report, taken at the moment it is queued; no reason is a forced settlement's lapse (R39). -/
def reviewReport (c : Case) (reason : Option Reason) : ReportBody :=
  .caseReview c.number reason c.review (gapCount c) c.cmax c.chain.length c.conflicts.length c.conflictOverflow
    c.overflows c.duplicates

/-- The CASE CLOSED report (R38). -/
def closedReport (c : Case) (cancelled : Bool) (day : Option Nat) : ReportBody :=
  .caseClosed c.number cancelled c.snapshot.cardNo c.state day (c.newCard.map fun k => k.serial)
    (c.settlement.map fun f => f.kind) c.adjustment (unclaimedValue c)

/-- The SETTLEMENT report: the figures as stored, the residue as the case holds it (R82). -/
def settlementReport (c : Case) (f : Settlement) : ReportBody :=
  .settlement c.number f (carnetLines c f) (settledAdvance c f) (settledUnplaced c f)
    (match f.residue with
      | some q => decide (q < 0)
      | none => false)

/-- A report of a live case is queued on its owner link's channel (R182). -/
def reportOn (n : Nat) (body : Case → ReportBody) (s : State) : State :=
  match s.findCase n with
  | none => s
  | some c => s.caseReport c.owner (body c)

/-! ### Settlement (R22) -/

/-- A settling case: the settlement stored, the state SETTLED, review emptied and settle due cleared (R22). -/
def settledCase (f : Settlement) (c : Case) : Case :=
  { c with settlement := some f, state := .settled, review := {}, settleDue := none }

/-- The case number joins the tail of the statement queue, and the statement member requests (R22, R171). -/
def queueStatement (n : Nat) (s : State) : State :=
  requestStatement (s.modSigning fun u => { u with queue := u.queue ++ [n] })

/-- A case settles with the figures `figures` computes from it on the current service day (R22). -/
def settleWith (figures : Nat → Case → Settlement) (n : Nat) (s : State) : State :=
  queueStatement n (s.modCase n fun c => settledCase (figures s.clock.announcedDay c) c)

/-- A settlement of kind EXACT, PRESUMED or FORCED (R77). -/
def settle (kind : SettlementKind) (n : Nat) (s : State) : State := settleWith (chainSettlement kind) n s

/-- A settlement of kind FROM_CARD (R34, R80). -/
def settleFromCard (r : ReadContents) (n : Nat) (s : State) : State := settleWith (cardSettlement r) n s

/-! ### Review (R39, R52) -/

/-- A reason joins review, with a CASE REVIEW report when it newly joins (R39). -/
def raiseReview (reason : Reason) (n : Nat) (s : State) : State :=
  match s.findCase n with
  | none => s
  | some c =>
    if inReview c.review reason then s
    else reportOn n (fun c => reviewReport c (some reason))
      (s.modCase n fun c => { c with review := addReason c.review reason })

/-! ### Triggers (R24 to R26) -/

/-- The kind of an automatic settlement, by the state of the case when it settles (R26 step 5). -/
def automaticKind (s : State) (c : Case) : SettlementKind :=
  if closedAll s.zones c.zonesClosed ∧ gapCount c = 0 then .exact else .presumed

/-- An automatic trigger reaches a case (R26). -/
def automaticTrigger (n : Nat) (s : State) : State :=
  match s.findCase n with
  | none => s
  | some c =>
    if c.state = .settled then s
    else if s.clock.second = none then s
    else if c.job.isSome then
      s.modCase n fun c => { c with settleDue := some (if c.settleDue = some .forced then .forced else .automatic) }
    else if !reviewEmpty c.review then s
    else if 64 < gapCount c then raiseReview .gapImplausible n s
    else settle (automaticKind s c) n s

/-- The case is tested at once: trigger (b) reaches it from its quiet end day on, otherwise trigger (a) when every
configured zone is closed for it (R28, R35). -/
def testCase (n : Nat) (s : State) : State :=
  match s.findCase n with
  | none => s
  | some c =>
    if c.quietEnd ≤ s.clock.announcedDay ∨ closedAll s.zones c.zonesClosed then automaticTrigger n s else s

/-- The settle due mark of a case is taken (R35). -/
def takeDue (n : Nat) (s : State) : State :=
  match s.findCase n with
  | none => s
  | some c =>
    match c.settleDue with
    | none => s
    | some due =>
      if s.clock.second = none then s
      else
        let s := s.modCase n fun c => { c with settleDue := none }
        if c.state = .settled then s
        else match due with
          | .forced =>
            if c.conflicts = [] then settle .forced n s
            else reportOn n (fun c => reviewReport c none) s
          | .automatic => testCase n s

/-! ### The end of a case (R36 to R38) -/

/-- A case ends: its CASE CLOSED report is queued, its hotlist entry is withdrawn and its slot is freed (R36 to R38). -/
def endCase (cancelled : Bool) (n : Nat) (s : State) : State :=
  match s.findCase n with
  | none => s
  | some c =>
    let s := reportOn n (fun c => closedReport c cancelled (dayOf s)) s
    let s := hotlistWithdraw c.snapshot.cardNo n s
    { s with cases := s.cases.filter fun c => c.number ≠ n }

/-- The retention test: a SETTLED case that has reached retention, with no job and no pending statement, ends CLOSED;
while the clock is unset retention is not reached (R37). -/
def retentionTest (n : Nat) (s : State) : State :=
  match s.findCase n with
  | none => s
  | some c =>
    if s.clock.second ≠ none ∧ retentionReached s.settings.retentionDays s.clock.announcedDay c ∧ c.job = none
        ∧ statementPending c = false then
      endCase false n s
    else s

/-! ### The rollover pass (R25) -/

/-- One case at a day rollover event (R25). -/
def rolloverCase (n : Nat) (s : State) : State :=
  match s.findCase n with
  | none => s
  | some c =>
    if c.state = .settled then retentionTest n s
    else if c.job = none ∧ c.settleDue ≠ none then takeDue n s
    else testCase n s

/-- The case table goes through every live case in ascending case number (R25). -/
def rolloverCases (s : State) : State :=
  (s.cases.map fun c => c.number).foldl (fun acc n => rolloverCase n acc) s

/-! ### Statement completion (R23) -/

/-- The statement code of the head case is stored, its statement pending mark cleared, its number removed from the queue,
and the SETTLEMENT report queued; a case whose retention has been reached closes at once (R23, R171). -/
def completeStatement (code : Code) (s : State) : State :=
  match s.signing.queue with
  | [] => s
  | n :: rest =>
    let s := s.modSigning fun u => { u with queue := rest }
    let s := s.modCase n fun c =>
      { c with settlement := c.settlement.map fun f => { f with code := some code, statementPending := false } }
    let s := match s.findCase n with
      | some c => match c.settlement with
        | some f => reportOn n (fun c => settlementReport c f) s
        | none => s
      | none => s
    retentionTest n s

end Sys2Proof.Machine
end

