-- ==== Sys2Proof/Machine/Chains.lean ====
section
/-! DEFINITION. The chain unit (03_event_chains.md): the classification of arrivals and what each does to its case, conflict
rulings, and zone closure. -/

namespace Sys2Proof.Machine

/-! ### Arrivals (R46 to R52) -/

/-- The outcomes of the classification (R46). -/
inductive ArrivalClass where
  | stale | duplicate | conflict | inserted | overflow
  deriving DecidableEq, Repr

/-- The card counter read by the recovery of a case settled FROM_CARD (R46 test 2). -/
def recoveredCounter (c : Case) : Option Nat :=
  match c.settlement with
  | some f => if f.kind = .fromCard then f.cardCounter else none
  | none => none

/-- The arrival's counter is at or below the card counter read (R46 test 2). -/
def accountedFor (c : Case) (e : CardEvent) : Bool :=
  match recoveredCounter c with
  | some n => decide (e.counter ≤ n)
  | none => false

/-- The greatest number of events a chain holds (R44). -/
def chainMax : Nat := 64

/-- The greatest number of entries a conflict list holds (R44). -/
def conflictMax : Nat := 4

/-- The first test of the table that holds (R46). -/
def classify (c : Case) (e : CardEvent) : ArrivalClass :=
  if e.counter ≤ c.snapshot.counter then .stale
  else if accountedFor c e then .stale
  else if c.chain.contains e then .duplicate
  else if c.conflicts.contains e then .duplicate
  else if c.chain.any fun x => x.counter = e.counter then .conflict
  else if c.chain.length < chainMax then .inserted
  else .overflow

/-- Insertion between the events with the next lower and the next higher counters (R50). -/
def insertEvent (e : CardEvent) : List CardEvent → List CardEvent
  | [] => [e]
  | x :: xs => if e.counter < x.counter then e :: x :: xs else x :: insertEvent e xs

/-- A conflict arrival is listed, or counted when the list is full (R49). -/
def takeConflict (e : CardEvent) (c : Case) : Case :=
  if c.conflicts.length < conflictMax then { c with conflicts := c.conflicts ++ [e] }
  else { c with conflictOverflow := satSucc 255 c.conflictOverflow }

/-- What an arrival of each class does to the chain, Cmax and the counts (R47 to R51). -/
def takeArrival (k : ArrivalClass) (e : CardEvent) (c : Case) : Case :=
  match k with
  | .stale => c
  | .duplicate => { c with duplicates := satSucc 255 c.duplicates }
  | .conflict => takeConflict e c
  | .inserted => { c with chain := insertEvent e c.chain, cmax := max c.cmax e.counter }
  | .overflow => { c with overflows := satSucc 255 c.overflows, cmax := max c.cmax e.counter }

/-- A BLOCKED event sets blocked seen unless it is stale (R61 item 1). -/
def seeBlocked (k : ArrivalClass) (e : CardEvent) (c : Case) : Case :=
  if e.kind = .blocked ∧ k ≠ .stale then { c with blockedSeen := true } else c

/-- An event inserted into a SETTLED case adds its delta to the adjustment total, with one ADJUSTMENT report (R56, R83,
R84). -/
def adjust (n : Nat) (e : CardEvent) (s : State) : State :=
  match s.findCase n with
  | none => s
  | some c =>
    match c.settlement with
    | none => s
    | some f =>
      let delta := adjustmentDelta c f e
      let s := s.modCase n fun c => { c with adjustment := c.adjustment + delta }
      reportOn n (fun c => .adjustment n e (placeOf f e) delta c.adjustment f.cmax) s

/-- What follows an arrival beside the case's own record: a review reason for a case in WATCH or HOLDING (R52), an
adjustment for a SETTLED case (R56). -/
def afterArrival (k : ArrivalClass) (settled : Bool) (n : Nat) (e : CardEvent) (s : State) : State :=
  match k, settled with
  | .conflict, false => raiseReview .conflict n s
  | .overflow, false => raiseReview .chainFull n s
  | .inserted, true => adjust n e s
  | _, _ => s

/-- An arrival is taken whole against the case as it stands (R46). -/
def arrival (n : Nat) (e : CardEvent) (s : State) : State :=
  match s.findCase n with
  | none => s
  | some c =>
    let k := classify c e
    afterArrival k (decide (c.state = .settled)) n e
      (s.modCase n fun c => seeBlocked k e (takeArrival k e c))

/-- The zone of a batch is to close for a case: a BLOCKED depot record reaches it, not stale, in WATCH or HOLDING
(R61 item 2). -/
def blockedCloses (n : Nat) (e : CardEvent) (s : State) : Bool :=
  match s.findCase n with
  | none => false
  | some c => decide (e.kind = .blocked ∧ classify c e ≠ .stale ∧ c.state ≠ .settled)

/-! ### Conflict rulings (R57 to R59) -/

/-- The oldest conflict-list entry with a counter (R57). -/
def oldestConflict (c : Case) (counter : Nat) : Option CardEvent := c.conflicts.find? fun e => e.counter = counter

/-- The chain with the event of an entry's counter replaced by the entry (R58). -/
def replaceEvent (e : CardEvent) (chain : List CardEvent) : List CardEvent :=
  chain.map fun x => if x.counter = e.counter then e else x

/-- KEEP removes the entry; REPLACE also puts its event in the chain's place (R58). -/
def ruleConflict (replace : Bool) (e : CardEvent) (c : Case) : Case :=
  { c with
    conflicts := c.conflicts.erase e
    chain := if replace then replaceEvent e c.chain else c.chain }

/-- CONFLICT leaves the review of a case in WATCH or HOLDING when nothing is listed and none overflowed (R59). -/
def clearConflict (c : Case) : Case :=
  if c.state ≠ .settled ∧ c.conflicts = [] ∧ c.conflictOverflow = 0 then
    { c with review := { c.review with conflict := false } }
  else c

/-- After a ruling: CONFLICT is tested, and a case in WATCH or HOLDING whose review becomes empty this way is tested at once
(R28, R59). -/
def afterRuling (n : Nat) (s : State) : State :=
  match s.findCase n with
  | none => s
  | some c =>
    if c.state ≠ .settled ∧ c.review.conflict ∧ c.conflicts = [] ∧ c.conflictOverflow = 0 then
      let s := s.modCase n clearConflict
      if reviewEmpty (clearConflict c).review then testCase n s else s
    else s

/-! ### Zone closure (R60 to R63) -/

/-- A zone closes for a case in WATCH or HOLDING that does not hold it yet: by a BLOCKED record of the batch, or by a rise of
the zone's reached generation to the case's present case generation (R60, R61). -/
def closesNow (z : ZoneId) (byRecord : List Nat) (rise : Option Nat) (c : Case) : Bool :=
  decide (c.state ≠ .settled) && !zoneIn z c.zonesClosed &&
  (decide (c.number ∈ byRecord) ||
    match rise, c.generation with
    | some r, some g => decide (g ≤ r)
    | _, _ => false)

/-- The numbers of the cases for which a zone newly closes, ascending (R62). -/
def closingCases (z : ZoneId) (byRecord : List Nat) (rise : Option Nat) (s : State) : List Nat :=
  (s.cases.filter (closesNow z byRecord rise)).map fun c => c.number

/-- A case with a zone closed. -/
def closeZone (z : ZoneId) (c : Case) : Case := { c with zonesClosed := c.zonesClosed ||| zoneBit z }

/-- Trigger (a) reaches a case that holds every configured zone (R24, R62). -/
def triggerA (n : Nat) (s : State) : State :=
  match s.findCase n with
  | none => s
  | some c => if closedAll s.zones c.zonesClosed then automaticTrigger n s else s

/-- The closures of one commit are applied in one step, and the cases for which the zone newly closed are tested in
ascending case number (R62). -/
def applyClosures (z : ZoneId) (byRecord : List Nat) (rise : Option Nat) (s : State) : State :=
  let numbers := closingCases z byRecord rise s
  let s := { s with cases := s.cases.map fun c => if closesNow z byRecord rise c then closeZone z c else c }
  numbers.foldl (fun acc n => triggerA n acc) s

/-- ZONE REMOVE: every case in WATCH or HOLDING whose set did not hold the removed zone is tested (R63). -/
def testLacking (z : ZoneId) (s : State) : State :=
  ((s.cases.filter fun c => c.state ≠ .settled ∧ zoneIn z c.zonesClosed = false).map fun c => c.number).foldl
    (fun acc n => triggerA n acc) s

/-- ZONE CONFIGURE: the zone leaves the zones closed set of every case in WATCH or HOLDING (R63). -/
def reopenZone (z : ZoneId) (c : Case) : Case :=
  if c.state = .settled then c else { c with zonesClosed := c.zonesClosed &&& ~~~zoneBit z }

end Sys2Proof.Machine
end

