-- ==== Sys2Proof/Machine/Zones.lean ====
section
/-! DEFINITION. The zone feed unit's shared operations (07_zone_feeds.md): discards, error counts and the threshold, the
header sum, the taking of records, the commit, and dormancy. -/

namespace Sys2Proof.Machine

/-- The ZONE EVENT report, taken after the state change that caused it; no count is cause DORMANT (R137). -/
def zoneReport (z : ZoneId) (count : Option ErrorCount) (s : State) : ReportBody :=
  let r := s.zones[z]
  .zoneEvent z count r.state r.counts r.threshold r.expected r.reached r.lastCommit r.dormant (dayOf s)

/-- A zone's open batch is discarded and the zone goes to HUNT (R116, R135). -/
def discardToHunt (r : Zone) : Zone := { r with batch := none, state := .hunt }

/-- One error count is raised; at or above the threshold an open batch is discarded, the zone goes to HUNT and a ZONE EVENT
naming the count is queued (R135). -/
def raiseError (count : ErrorCount) (z : ZoneId) (s : State) : State :=
  let s := s.modZone z fun r => { r with counts := raiseCount count r.counts }
  if countFlag s.zones[z] count then
    let s := s.modZone z discardToHunt
    s.systemReport (zoneReport z (some count) s)
  else s

/-- The header sum under the FIELD method (R127). -/
def fieldSum (z : ZoneId) (h : HeaderFields) : Nat := (zoneNumber z + h.sequence + h.generation + h.day) % 65536

/-- The header sum a zone's method computes; PACKED sums the bytes of the header before the sum (R127, section 11.4). -/
def headerSum (r : Zone) (z : ZoneId) (h : HeaderFields) (body : List Byte) : Nat :=
  match r.method with
  | .field => fieldSum z h
  | .packed => byteSum (body.take 11)

/-- The open batch an accepted header makes (R126). -/
def openedBatch (h : HeaderFields) : OpenBatch := ⟨h.sequence, h.generation, h.day, [], 0⟩

/-- The greatest number of records a batch buffer holds (R115, R130). -/
def bufferMax : Nat := 256

/-- A record is stored at the tail of the buffer and its bytes are added to the running body sum (R129). -/
def storeRecord (bytes : List Byte) (rec : BatchRecord) (b : OpenBatch) : OpenBatch :=
  { b with buffer := b.buffer ++ [rec], bodySum := (b.bodySum + byteSum bytes) % 65536 }

/-- How a record is marked: not void, or void by unknown kind or by malformation (R129). -/
def recordMark (bytes : List Byte) : BatchRecord × Option ErrorCount :=
  match readEvent bytes with
  | none => (.void bytes, some .unknownKind)
  | some e => if eventInRange e then (.good e, none) else (.void bytes, some .malformed)

/-- A record joins a zone's open batch. -/
def storeInZone (bytes : List Byte) (rec : BatchRecord) (r : Zone) : Zone :=
  { r with batch := r.batch.map (storeRecord bytes rec) }

/-- The 257th record discards the open batch, raises the malformed count and sends the zone to HUNT (R130). -/
def overflowBatch (z : ZoneId) (s : State) : State := raiseError .malformed z (s.modZone z discardToHunt)

/-- One record of a BATCH RECORDS is taken (R129, R130). The answer says whether the batch is still open. -/
def takeRecord (z : ZoneId) (bytes : List Byte) (s : State) : State × Bool :=
  match s.zones[z].batch with
  | none => (s, false)
  | some b =>
    if bufferMax ≤ b.buffer.length then (overflowBatch z s, false)
    else
      let (rec, count) := recordMark bytes
      let s := s.modZone z (storeInZone bytes rec)
      match count with
      | none => (s, true)
      | some c =>
        let s := raiseError c z s
        (s, s.zones[z].batch.isSome)

/-- The records of a request are taken in order until the batch is discarded (R129, R130, R135). -/
def takeRecords (z : ZoneId) : List (List Byte) → State → State × Bool
  | [], s => (s, true)
  | r :: rest, s =>
    match takeRecord z r s with
    | (s, true) => takeRecords z rest s
    | (s, false) => (s, false)

/-- The number of void records. -/
def voidCount (l : List BatchRecord) : Nat :=
  (l.filter fun r => match r with
    | .void _ => true
    | .good _ => false).length

/-- The good records of a buffer, in order (R132). -/
def goodEvents (l : List BatchRecord) : List CardEvent :=
  l.filterMap fun r => match r with
    | .void _ => none
    | .good e => some e

/-- What the commit has counted so far: matched records and the cases whose BLOCKED records close the zone. -/
structure CommitCount where
  matched   : Nat
  unmatched : Nat
  blocked   : List Nat
  deriving DecidableEq, Repr

/-- One good record of a commit: handed to the case its card's master entry names, or unmatched (R132). -/
def commitRecord (e : CardEvent) (acc : State × CommitCount) : State × CommitCount :=
  let (s, n) := acc
  match masterCase e.cardNo s.hotlist with
  | none => (s, { n with unmatched := n.unmatched + 1 })
  | some c =>
    (arrival c e s,
      { n with
        matched := n.matched + 1
        blocked := if blockedCloses c e s then n.blocked ++ [c] else n.blocked })

/-- The good records of the buffer reach their cases in buffer order (R132). -/
def commitRecords (l : List CardEvent) (s : State) : State × CommitCount :=
  l.foldl (fun acc e => commitRecord e acc) (s, ⟨0, 0, []⟩)

/-- The expected sequence after a commit: the committed sequence plus one, unset after 4 294 967 295 (R128, R133). -/
def nextSequence (n : Nat) : Option Nat := if n = max32 then none else some (n + 1)

/-- The zone's record moves on at a commit: expected sequence, last commit day, dormant mark, reached generation and the
record counts (R132, R133 items 1 to 3). -/
def commitZone (b : OpenBatch) (n : CommitCount) (day : Option Nat) (r : Zone) : Zone :=
  { r with
    expected := nextSequence b.sequence
    lastCommit := day
    dormant := false
    reached := if voidCount b.buffer = 0 then max r.reached b.generation else r.reached
    committed := wrapAdd32 r.committed (goodEvents b.buffer).length
    matched := wrapAdd32 r.matched n.matched
    unmatched := wrapAdd32 r.unmatched n.unmatched }

/-- The open batch becomes absent and the zone goes to ALIGNED (R133 item 5). -/
def closeBatch (r : Zone) : Zone := { r with batch := none, state := .aligned }

/-- The rise of a zone's reached generation, when there is one (R133 items 3 and 4). -/
def riseOf (before after : Nat) : Option Nat := if before < after then some after else none

/-- A commit: the records, the zone's record, the closures, and ALIGNED, in the order of R132 and R133. The answer gives what
BATCH END reports. -/
def commitBatch (z : ZoneId) (b : OpenBatch) (s : State) : State × Fields :=
  let (s, n) := commitRecords (goodEvents b.buffer) s
  let before := s.zones[z].reached
  let s := s.modZone z (commitZone b n (dayOf s))
  let reached := s.zones[z].reached
  let rise := riseOf before reached
  let closed := (closingCases z n.blocked rise s).length
  let s := applyClosures z n.blocked rise s
  let s := s.modZone z closeBatch
  (s, .batchCommitted b.sequence (goodEvents b.buffer).length n.matched n.unmatched (voidCount b.buffer) reached
    (nextSequence b.sequence) closed)

/-- The dormancy test of one zone at a day rollover event (R136). -/
def dormancyTest (day : Nat) (z : ZoneId) (s : State) : State :=
  let r := s.zones[z]
  if isFed r.state then
    match r.lastCommit with
    | none => s.modZone z fun r => { r with lastCommit := some day }
    | some d =>
      if r.dormant = false ∧ d + r.dormancy ≤ day then
        let s := s.modZone z fun r => { r with dormant := true }
        s.systemReport (zoneReport z none s)
      else s
  else s

/-- The zone feed unit tests every fed zone at a day rollover event, in an order that R136 leaves open (log entry 2). -/
def rolloverZones (day : Nat) (s : State) : State := s.runFree allZones (dormancyTest day)

/-- What a restart does to a zone: fed zones go to HUNT, an open batch is discarded, and the counts become 0 (R138). -/
def restartZone (r : Zone) : Zone :=
  { r with
    state := if isFed r.state then .hunt else r.state
    batch := none
    counts := {}
    committed := 0
    matched := 0
    unmatched := 0 }

/-- The zone's record in ZONE STATUS; the running body sum, a field of R115 that R124 does not list for an open batch, is left
out (log entry 23). -/
def zoneStatusOf (z : ZoneId) (r : Zone) : ZoneReport :=
  { zone := z
    state := r.state
    method := r.method
    threshold := r.threshold
    dormancy := r.dormancy
    expected := r.expected
    reached := r.reached
    lastCommit := r.lastCommit
    dormant := r.dormant
    counts := r.counts
    flags := zoneFlags r
    committed := r.committed
    matched := r.matched
    unmatched := r.unmatched
    batch := r.batch.map fun b => (b.sequence, b.generation, b.day, b.buffer.length, voidCount b.buffer) }

end Sys2Proof.Machine
end

