-- ==== Sys2Proof/Machine/Jobs.lean ====
section
/-! DEFINITION. Card jobs and the coupler's messages (08_coupler_ports_and_card_jobs.md): phases, retries, tears, aborts,
outcomes, and the fence. -/

namespace Sys2Proof.Machine

/-! ### The end of a job (R158 to R160, R31 to R34) -/

/-- A job's name: ISSUE or RECOVER. -/
def jobName : JobKind → JobName
  | .issue _ => .issue
  | .recover => .recover

/-- An ISSUE job that ends with one of these has activated a new card (R32). -/
def issueSucceeded : JobOutcome → Bool
  | .issued | .issuedUnverified => true
  | _ => false

/-- A RECOVER job that ends with one of these has read the old card (R34). -/
def recoverySucceeded : JobOutcome → Bool
  | .recovered | .recoveredUnmarked => true
  | _ => false

/-- The issue figures an ISSUE DONE carries: those of a job that took a card check or completed from stored figures, which
is a job that accepted a card (R159, R146). -/
def reportedFigures (j : Job) (c : Case) : Option IssueFigures := if j.target.isSome then c.issue else none

/-- The residue an ISSUE DONE carries: the Q the case table then makes present (R159, R32). -/
def reportedResidue (o : JobOutcome) (c : Case) : Option Int :=
  match c.settlement, c.issue with
  | some f, some fig => if issueSucceeded o ∧ c.state = .settled then some (lateResidue f fig) else none
  | _, _ => none

/-- The mark status of a recovery (R160). -/
def markStatus (o : JobOutcome) (r : ReadContents) : MarkStatus :=
  match r.mark with
  | some (some _) => .alreadyPresent
  | _ => if o = .recovered then .written else .notWritten

/-- The ISSUE DONE or RECOVER DONE report (R159, R160). -/
def jobReport (p : Port) (o : JobOutcome) (j : Job) (c : Case) : ReportBody :=
  match j.kind with
  | .issue target =>
    .issueDone j.caseNo p o target j.target j.nextSegment c.attempts (reportedFigures j c) (reportedResidue o c)
  | .recover =>
    let contents := if recoverySucceeded o then j.contents else none
    .recoverDone j.caseNo p o j.target contents (contents.map (markStatus o))

/-- The case a successful issue leaves: the new card recorded; HOLDING from WATCH, or Q made present in SETTLED (R32). -/
def issuedCase (c : Case) : Case :=
  match c.issue with
  | none => c
  | some fig =>
    { c with
      newCard := some ⟨fig.serial, fig.family⟩
      state := if c.state = .watch then .holding else c.state
      settlement :=
        if c.state = .settled then c.settlement.map fun f => { f with residue := some (lateResidue f fig) }
        else c.settlement }

/-- The case table removes the job from the case and applies the outcome (R31 to R34). -/
def applyOutcome (o : JobOutcome) (j : Job) (s : State) : State :=
  let n := j.caseNo
  let s := s.modCase n fun c => { c with job := none }
  match j.kind with
  | .issue _ =>
    let s := if issueSucceeded o then s.modCase n issuedCase else s
    retentionTest n (takeDue n s)
  | .recover =>
    match recoverySucceeded o, j.contents with
    | true, some r => settleFromCard r n s
    | _, _ => takeDue n s

/-- A job ends with one outcome (R158). -/
def endJob (p : Port) (o : JobOutcome) (s : State) : State :=
  match (s.port p).job with
  | none => s
  | some j =>
    let s := giveUpSigning p s
    let s := s.modPort p fun r => { r with outstanding := none, job := none }
    let s := reportOn j.caseNo (jobReport p o j) s
    applyOutcome o j s

/-! ### Failures (R149) -/

/-- What the failure of a command ends a job with when its retries are spent (R149, R155). -/
def spentOutcome : Command → JobOutcome
  | .mark _ => .recoveredUnmarked
  | _ => .writeFailed

/-- The retry limit allows one more repeat (R149). -/
def mayRetry (limit : Nat) (j : Job) : Bool := decide (limit = 0 ∨ j.retries < limit)

/-- A failed command is repeated by `again` while the retries allow, else the job ends; with abort pending the job ends
ABORTED (R149, R157). -/
def failCommand (p : Port) (failed : Command) (again : State → State) (s : State) : State :=
  match (s.port p).job with
  | none => s
  | some j =>
    if j.abortPending then endJob p .aborted s
    else if mayRetry (s.port p).retryLimit j then
      again (s.modJob p fun j => { j with retries := satSucc 15 j.retries })
    else endJob p (spentOutcome failed) s

/-- A FAULT, timeout or data error: the same command is repeated (R149). -/
def retrySame (p : Port) (failed : Command) (s : State) : State := failCommand p failed (sendCommand p failed) s

/-! ### Phases (R144 to R148, R153 to R155) -/

/-- The job enters CHECK with the card in the field, and reads the header (R144, R145, R153). -/
def startCheck (p : Port) (mode : CheckMode) (s : State) : State :=
  sendRead p 0 (s.modJob p fun j => { j with phase := .check, mode := mode, reads := [], retries := 0, tearEnd := none })

/-- The job enters WRITE at a segment and the port makes its request (R146, R152). -/
def enterWrite (p : Port) (next : Nat) (s : State) : State :=
  requestGrant (.port p)
    (s.modJob p fun j => { j with phase := .write, nextSegment := next, grantCount := 0, retries := 0 })

/-- The results of the classification of a checked card (R145, R152, R153). -/
inductive CheckResult where
  | rejected
  | accept
  | completed
  | resume (next : Nat)
  deriving DecidableEq, Repr

/-- The case number in a header. -/
def headerCase : Option Segment → Option Nat
  | some (.header _ _ _ caseNo) => caseNo
  | _ => none

/-- The first row of the table that holds, for an ISSUE job in check mode FIRST (R145). -/
def classifyFirst (target : Family) (caseNo : Nat) (stored : Option Serial) (card : Card)
    (header activation mark : Option Segment) : CheckResult :=
  if mark.isSome then .rejected
  else if header = none ∧ activation = none ∧ card.family = target then .accept
  else if header = none then .rejected
  else if headerCase header ≠ some caseNo then .rejected
  else if activation = none ∧ card.family = target then .accept
  else if activation = none then .rejected
  else if stored = some card.serial then .completed
  else .rejected

/-- The classification of the target card brought back (R152). -/
def classifyReturn (caseNo next : Nat) (header activation mark : Option Segment) : CheckResult :=
  if mark.isSome then .rejected
  else if header = none ∧ activation = none then .resume 0
  else if headerCase header = some caseNo ∧ activation = none then .resume next
  else if headerCase header = some caseNo then .completed
  else .rejected

/-- Card check: the card's serial becomes the target serial, the issue figures are computed on the current service day and
stored, and the job enters WRITE at segment 0 (R146, R70, R76). -/
def cardCheck (p : Port) (target : Family) (card : Card) (caseNo : Nat) (s : State) : State :=
  let s := s.modJob p fun j => { j with target := some card.serial }
  let s := s.modCase caseNo fun c =>
    { c with issue := some (issueFigures target card.serial s.clock.announcedDay c) }
  enterWrite p 0 s

/-- What a classified card does to an ISSUE job (R145, R146, R152). -/
def takeCheckResult (p : Port) (target : Family) (card : Card) (caseNo : Nat) (r : CheckResult) (s : State) : State :=
  match r with
  | .rejected => endJob p .cardRejected s
  | .accept => cardCheck p target card caseNo s
  | .completed => endJob p .issuedUnverified (s.modJob p fun j => { j with target := some card.serial })
  | .resume next => enterWrite p next s

/-- The serial of the case's last issue figures. -/
def storedSerial (s : State) (caseNo : Nat) : Option Serial :=
  ((s.findCase caseNo).bind fun c => c.issue).map fun fig => fig.serial

/-- An ISSUE job has read a segment of the card to check: header, then activation, then block mark (R145). -/
def checkIssueRead (p : Port) (target : Family) (j : Job) (card : Card) (content : Option Segment) (s : State) : State :=
  let s := s.modJob p fun j => { j with reads := j.reads ++ [content], retries := 0 }
  match j.reads with
  | [] => sendRead p (activationSegment card.family) s
  | [_] => sendRead p markSegment s
  | header :: activation :: _ =>
    takeCheckResult p target card j.caseNo
      (match j.mode with
        | .first => classifyFirst target j.caseNo (storedSerial s j.caseNo) card header activation content
        | .afterTear => classifyReturn j.caseNo j.nextSegment header activation content) s

/-- The header a RECOVER job accepts: the snapshot's card number and old family (R153). -/
def recoverAccepts (c : Case) : Option Segment → Bool
  | some (.header cardNo fam _ _) => decide (cardNo = c.snapshot.cardNo ∧ fam = c.snapshot.family)
  | _ => false

/-- A RECOVER job has read the header: accepted, it enters READ with its read contents absent and reads the first product
segment (R153, R154). -/
def checkRecoverRead (p : Port) (j : Job) (card : Card) (content : Option Segment) (s : State) : State :=
  match s.findCase j.caseNo with
  | none => endJob p .cardRejected s
  | some c =>
    if recoverAccepts c content then
      sendRead p 1 (s.modJob p fun j =>
        { j with
          phase := .read
          target := if j.mode = .first then some card.serial else j.target
          contents := none
          retries := 0 })
    else endJob p .cardRejected s

/-- What a purse segment that reads empty stands for: a balance and a counter that the spec does not give, free within the
segment's ranges (log entry 26). -/
def emptyPurse (caseNo : Nat) (card : Card) (second : Option Nat) : Int × Nat :=
  (max (-5000) (min (purseMax card.family) (Config.emptyBalance caseNo card.serial second)),
    Config.emptyCounter caseNo card.serial second % 16777216)

/-- Each DATA is kept in the read contents (R154). `empty` is what an empty purse segment, number `purseSeg`, stands for. -/
def keepRead (content : Option Segment) (seg purseSeg : Nat) (empty : Int × Nat) (r : ReadContents) : ReadContents :=
  if seg = markSegment then
    { r with mark := some (match content with
      | some (.blockMark n) => some n
      | _ => none) }
  else
    match content with
    | some (.product q) => { r with products := r.products ++ [q] }
    | some (.purse b n) => { r with purse := some (b, n) }
    | _ => if seg = purseSeg then { r with purse := some empty } else r

/-- A RECOVER job in READ has read a segment: products, then the purse, then the block mark; then it ends RECOVERED, or enters
MARK and requests (R154). -/
def recoverRead (p : Port) (seg : Nat) (card : Card) (content : Option Segment) (s : State) : State :=
  let s := s.modJob p fun j =>
    { j with
      contents := some (keepRead content seg (purseSegment card.family) (emptyPurse j.caseNo card s.clock.second)
        (j.contents.getD ⟨[], none, none⟩))
      retries := 0 }
  if seg = markSegment then
    match content with
    | some _ => endJob p .recovered s
    | none => requestGrant (.port p) (s.modJob p fun j => { j with phase := .mark })
  else if seg = purseSegment card.family then sendRead p markSegment s
  else sendRead p (seg + 1) s

/-- A confirmed segment of an ISSUE job (R147, R148). -/
def confirmSegment (p : Port) (s : State) : State :=
  s.modJob p fun j =>
    { j with nextSegment := j.nextSegment + 1, grantCount := j.grantCount + 1, retries := 0 }

/-- The activation is the last segment an ISSUE job writes (R13). -/
def isActivation (target : Family) (seg : Nat) : Bool := decide (seg = activationSegment target)

/-- What follows the confirmation of segment `seg`: ABORTED with abort pending (R157), success at the activation (R150), a
release with a new request at the end of the grant (R147, R148), or the next WRITE. -/
def afterConfirm (p : Port) (target : Family) (seg : Nat) (s : State) : State :=
  match (s.port p).job with
  | none => s
  | some j =>
    if j.abortPending then endJob p .aborted s
    else if isActivation target seg then endJob p .issued s
    else if (s.port p).mode = .careful ∨ j.grantCount = 4 then
      releaseAndRequest (.port p) (s.modJob p fun j => { j with phase := .write })
    else sendWrite p s

/-- A WRITE is answered DONE: BURST confirms the segment; CAREFUL reads it back, and a WRITE repeated after a mismatch keeps the
retries it has used (R147 to R149). -/
def writeDone (p : Port) (target : Family) (seg : Nat) (j : Job) (s : State) : State :=
  if j.phase = .verify then
    if j.abortPending then endJob p .aborted s else sendRead p seg s
  else if (s.port p).mode = .burst then afterConfirm p target seg (confirmSegment p s)
  else if j.abortPending then endJob p .aborted s
  else sendRead p seg (s.modJob p fun j => { j with phase := .verify, retries := 0 })

/-- A DATA in VERIFY: a match confirms the segment, a mismatch writes it again (R148, R149). -/
def verifyRead (p : Port) (target : Family) (seg : Nat) (j : Job) (content : Option Segment) (s : State) : State :=
  let written := ((s.findCase j.caseNo).bind fun c => c.issue).map fun fig => issueContent j.caseNo fig seg
  if written = some content then afterConfirm p target seg (confirmSegment p s)
  else failCommand p (.read seg) (sendWrite p) s

/-- A DATA answering the outstanding READ of `seg`, its content within its ranges, is taken by the job's phase. -/
def takeRead (p : Port) (seg : Nat) (content : Option Segment) (s : State) : State :=
  match (s.port p).job, (s.port p).card with
  | some j, some card =>
    match j.phase, j.kind with
    | .check, .issue target => checkIssueRead p target j card content s
    | .check, .recover => checkRecoverRead p j card content s
    | .read, .recover => recoverRead p seg card content s
    | .verify, .issue target => verifyRead p target seg j content s
    | _, _ => s
  | _, _ => s

/-! ### Departures and tears (R151, R152, R156) -/

/-- A job enters TORN: its command is dropped, its hold on the signing unit given up, and the tear window starts (R151). -/
def enterTorn (p : Port) (s : State) : State :=
  let s := giveUpSigning p (dropCommand p s)
  s.modJob p fun j =>
    { j with
      phase := .torn
      retries := 0
      grantCount := 0
      tearEnd := s.clock.second.map fun t => min max32 (t + (s.port p).window) }

/-- A departure reaches the job of a port, by kind and phase; abort pending takes precedence (R151, R156). R151's table
goes by phase; that its row for the VERIFY of the activation holds also while the WRITE that repeats a mismatch there is
outstanding is the model's choice (log entry 27). -/
def departure (p : Port) (s : State) : State :=
  match (s.port p).job with
  | none => s
  | some j =>
    if j.abortPending then endJob p .aborted s
    else match j.kind, j.phase with
      | _, .waitingCard => s
      | _, .torn => s
      | _, .check =>
        if j.mode = .first then
          (dropCommand p s).modJob p fun j => { j with phase := .waitingCard, retries := 0, reads := [] }
        else enterTorn p s
      | .issue target, .verify =>
        if isActivation target j.nextSegment then endJob p .issuedUnverified s else enterTorn p s
      | .issue _, _ => enterTorn p s
      | .recover, .mark => endJob p .recoveredUnmarked s
      | .recover, _ => (enterTorn p s).modJob p fun j => { j with contents := none }

/-- A card arrives at a port's job: it is checked in WAITING_CARD, and in TORN when it is the target card (R144, R152). -/
def cardToJob (p : Port) (j : Job) (serial : Serial) (s : State) : State :=
  match j.phase with
  | .waitingCard => startCheck p .first s
  | .torn => if j.target = some serial then startCheck p .afterTear s else s
  | _ => s

/-! ### The coupler's messages (R141 to R143) -/

/-- Any message taken by a port in service sets the consecutive timeout count to 0 (R142). -/
def clearTimeouts (p : Port) (s : State) : State := s.modPort p fun r => { r with timeouts := 0 }

/-- The card leaves: any outstanding command ends unanswered, the mark becomes absent, and the job takes the departure or a
PORT EVENT is queued (R141, R143). -/
def cardLeaves (p : Port) (s : State) : State :=
  let r := s.port p
  let s := s.modPort p fun r => { r with outstanding := none, card := none }
  match r.job, r.card with
  | some _, _ => departure p s
  | none, some card => s.systemReport (.portLeft p card (s.port p).timeouts s.clock.second)
  | none, none => s

/-- A card enters a field that holds none: the mark is set, and the job takes the card or a PORT EVENT is queued (R143). -/
def cardEnters (p : Port) (card : Card) (s : State) : State :=
  let s := s.modPort p fun r => { r with card := some card }
  match (s.port p).job with
  | some j => cardToJob p j card.serial s
  | none => s.systemReport (.portArrived p card (s.port p).timeouts s.clock.second)

/-- The outstanding command of a port, without the moment it was sent. -/
def outstandingCommand (r : PortRec) : Option Command := r.outstanding.map fun o => o.command

/-- An outstanding SENSE is answered. -/
def answerSense (p : Port) (s : State) : State :=
  s.modPort p fun r =>
    { r with outstanding := if outstandingCommand r = some .sense then none else r.outstanding }

/-- ARRIVED at a port in service: another serial than the present one is a LEFT followed by the ARRIVED, and the present one
changes nothing (R143). -/
def takeArrived (p : Port) (card : Card) (s : State) : State :=
  let s := answerSense p (clearTimeouts p s)
  match (s.port p).card with
  | none => cardEnters p card s
  | some present =>
    if present.serial = card.serial then s else cardEnters p card (cardLeaves p s)

/-- DATA at a port in service: it answers an outstanding READ; content that breaks its ranges is a FAULT of the READ (R141). -/
def takeData (p : Port) (content : Option Segment) (s : State) : State :=
  let s := clearTimeouts p s
  match outstandingCommand (s.port p), (s.port p).card with
  | some (.read seg), some card =>
    let t := dropCommand p s
    if contentOk card.family seg content then takeRead p seg content t else retrySame p (.read seg) t
  | _, _ => s

/-- DONE at a port in service: it answers an outstanding WRITE or MARK (R141). -/
def takeDone (p : Port) (s : State) : State :=
  let s := clearTimeouts p s
  match outstandingCommand (s.port p), (s.port p).job with
  | some (.write seg _ _), some j =>
    match j.kind with
    | .issue target => writeDone p target seg j (dropCommand p s)
    | .recover => s
  | some (.mark _), some _ => endJob p .recovered (dropCommand p s)
  | _, _ => s

/-- FAULT at a port in service: it answers any outstanding command; a SENSE is not repeated (R141, R149). -/
def takeFault (p : Port) (s : State) : State :=
  let s := clearTimeouts p s
  match outstandingCommand (s.port p) with
  | none => s
  | some .sense => dropCommand p s
  | some cmd => retrySame p cmd (dropCommand p s)

/-- The port is fenced (R142). -/
def fencePort (p : Port) (s : State) : State :=
  let job := (s.port p).job
  let s := s.modPort p fun r => { r with fenced := true, card := none, outstanding := none }
  let s := endJob p .portFenced s
  s.systemReport (.portFenced p (job.map fun j => j.caseNo) (s.port p).timeouts s.clock.second)

/-- A timeout of the outstanding command: the count rises; at the fence threshold the port is fenced, below it the command is
retried, and a SENSE is not repeated (R142). -/
def takeTimeout (p : Port) (s : State) : State :=
  match outstandingCommand (s.port p) with
  | none => s
  | some cmd =>
    let s := s.modPort p fun r => { r with timeouts := satSucc 15 r.timeouts }
    if (s.port p).fenceThreshold ≤ (s.port p).timeouts then fencePort p s
    else
      let s := dropCommand p s
      if cmd = .sense then s else retrySame p cmd s

/-- The tear window of the port's TORN job has run out: the clock has reached its end (R152). -/
def windowPassed (s : State) (p : Port) : Bool :=
  match (s.port p).job, s.clock.second with
  | some j, some t =>
    match j.tearEnd with
    | some e => decide (j.phase = .torn ∧ e ≤ t)
    | none => false
  | _, _ => false

/-- A passed tear window ends the job TORN_TIMEOUT (R152). -/
def expireWindow (p : Port) (s : State) : State := if windowPassed s p then endJob p .tornTimeout s else s

/-! ### Creating and aborting jobs (R144, R157) -/

/-- The job record a CASE ISSUE or CASE RECOVER creates (R144). -/
def newJob (kind : JobKind) (caseNo : Nat) : Job :=
  ⟨kind, caseNo, .waitingCard, .first, none, 0, 0, 0, false, none, none, []⟩

/-- The port creates the job; a card already present is taken at once as the card to check (R144). -/
def createJob (p : Port) (kind : JobKind) (caseNo : Nat) (s : State) : State :=
  let s := s.modPort p fun r => { r with job := some (newJob kind caseNo) }
  if (s.port p).card.isSome then startCheck p .first s else s

/-- What an ISSUE ABORT does (R157). -/
inductive AbortResult where
  | atOnce | marked | alreadyMarked | tooLate
  deriving DecidableEq, Repr

/-- The decision of an ISSUE ABORT by the job's kind and phase and whether the port holds the grant (R157). -/
def abortDecision (holds : Bool) (j : Job) : AbortResult :=
  if j.abortPending then .alreadyMarked
  else match j.kind, j.phase with
    | _, .waitingCard | _, .check | _, .torn => .atOnce
    | .issue target, .verify => if isActivation target j.nextSegment then .tooLate else .marked
    | .issue target, _ =>
      if !holds then .atOnce else if isActivation target j.nextSegment then .tooLate else .marked
    | .recover, .mark => if holds then .tooLate else .atOnce
    | .recover, _ => .atOnce

/-- What a restart does to a port: the job, the outstanding command and the card mark go, the count becomes 0, and a port in
service sends SENSE (R164). -/
def restartPort (clock : Option Nat) (r : PortRec) : PortRec :=
  { r with
    timeouts := 0
    card := none
    job := none
    outstanding := if inService r then some ⟨.sense, clock, r.timeout⟩ else none }

end Sys2Proof.Machine
end

