-- ==== Sys2Proof/Machine/Time.lean ====
section
/-! DEFINITION. The clock, the day rollover and the restarts (12_clock_settings_and_restart.md). -/

namespace Sys2Proof.Machine

/-! ### Day rollover (R191) -/

/-- The computed day of the clock's current second exceeds the announced day (R191). -/
def rolloverDue (s : State) : Bool :=
  match s.clock.second with
  | none => false
  | some t => decide (s.clock.announcedDay < computedDay t s.settings.rolloverMinute)

/-- The three blocks a day rollover event is delivered to (R191). -/
inductive RolloverBlock where
  | cases | hotlist | zones
  deriving DecidableEq, Repr

/-- One block takes the day rollover event (R25, R108, R136). -/
def deliverRollover (b : RolloverBlock) (s : State) : State :=
  match b with
  | .cases => rolloverCases s
  | .hotlist => rolloverCut s
  | .zones => rolloverZones s.clock.announcedDay s

/-- The announced day becomes the computed day. -/
def announceDay (s : State) : State :=
  match s.clock.second with
  | none => s
  | some t => s.modClock fun c => { c with announcedDay := computedDay t s.settings.rolloverMinute }

/-- The announced day moves on when a rollover is due (R191). -/
def moveDay (s : State) : State := if rolloverDue s then announceDay s else s

/-- The blocks that a rollover is due at. -/
def dueBlocks (s : State) : List RolloverBlock := if rolloverDue s then [.cases, .hotlist, .zones] else []

/-- The rollover test: the announced day moves on and the three blocks take the event, in no fixed order (R191). -/
def rolloverTest (s : State) : State := (moveDay s).runFree (dueBlocks s) deliverRollover

/-! ### Setting the clock (R192, R152) -/

/-- What a moved clock brings to a block: a day rollover event, and the end of a tear window. -/
inductive TimeTask where
  | rollover (b : RolloverBlock)
  | window (p : Port)
  deriving DecidableEq, Repr

/-- One of them is taken. -/
def runTimeTask (t : TimeTask) (s : State) : State :=
  match t with
  | .rollover b => deliverRollover b s
  | .window p => expireWindow p s

/-- The tasks that a moved clock makes due. -/
def dueTimeTasks (s : State) : List TimeTask :=
  (dueBlocks s).map .rollover ++ ((allPorts.filter (windowPassed s)).map .window)

/-- The clock and the floor become second `t` (R192). -/
def takeSecond (t : Nat) (s : State) : State :=
  s.modClock fun c => { c with second := some t, floor := t, floorAge := 0 }

/-- The clock moves to second `t` and the announced day moves on; the blocks take the rollover event and the passed tear windows
end, in no fixed order, and find the same day in every order (R191, R192, R152). -/
def moveClock (t : Nat) (s : State) : State :=
  let s := takeSecond t s
  (moveDay s).runFree (dueTimeTasks s) runTimeTask

/-- A floor write is due: ten minutes of running since the clock was set or the floor last written (R191). -/
def floorDue (c : Clock) : Bool := decide (c.second.isSome ∧ 600 ≤ c.floorAge)

/-- The floor becomes the clock's current second when the write is due (R191). -/
def writeFloor (c : Clock) : Clock :=
  if floorDue c then { c with floor := c.second.getD c.floor, floorAge := 0 } else c

/-- One second of running (R191). -/
def tickClock (c : Clock) : Clock :=
  { c with second := c.second.map fun t => min max32 (t + 1), floorAge := c.floorAge + 1 }

/-! ### Restart (R196) -/

/-- The store's erased contents, as one change (R196 item 2, R16, R65, R114, R138, R139, R173, R175, R193). -/
def eraseStore (s : State) : State :=
  { s with
    links := erasedLinks
    cases := []
    nextCase := some 1
    concession := Vector.replicate 16 Terms.default
    hotlist := ⟨[], [], 0, .idle⟩
    zones := Vector.replicate 12 Zone.erased
    ports := ⟨PortRec.erased, PortRec.erased, PortRec.erased, PortRec.erased⟩
    signing := Signing.fresh
    clock := ⟨none, 0, 0, 0⟩
    settings := Settings.default }

/-- The clock after a restart of each kind (R191, R196 items 1 and 2). -/
def restartClock (kind : RestartKind) (s : State) : State :=
  match kind with
  | .powerOn => s.modClock fun c => { c with second := none, floorAge := 0 }
  | .deviceReset => s
  | .deviceErase => eraseStore s

/-- What the blocks keep only while power lasts is given up, and each block takes up the stored state (R196 item 3, R43,
R138, R164, R173, R187); the channels are emptied (R185). -/
def takeUpStore (s : State) : State :=
  hotlistRestart
    { s with
      terminal := ⟨[], false, 0, 0, none⟩
      channels := Vector.replicate 4 Channel.empty
      cases := s.cases.map fun c => { c with job := none }
      zones := Vector.ofFn fun z => restartZone s.zones[z]
      ports :=
        ⟨restartPort s.clock.second s.ports.a, restartPort s.clock.second s.ports.b,
          restartPort s.clock.second s.ports.c, restartPort s.clock.second s.ports.d⟩
      signing := { Signing.fresh with queue := s.signing.queue } }

/-- What follows the RESTARTED report: the statement member's request (R173 item 4), the automatic cut trigger (R114 item 4)
and the settle due marks (R43). -/
inductive RestartTask where
  | statement
  | cut
  | due (caseNo : Nat)
  deriving DecidableEq, Repr

/-- One of them is taken. -/
def runRestartTask (t : RestartTask) (s : State) : State :=
  match t with
  | .statement => requestStatement s
  | .cut => autoCut s
  | .due n => takeDue n s

/-- The tasks of a restart. -/
def restartTasks (s : State) : List RestartTask :=
  (if s.signing.queue = [] then [] else [.statement]) ++
  (if s.settings.autoCut ≤ s.hotlist.pending.length then [.cut] else []) ++
  ((s.cases.filter fun c => c.settleDue.isSome).map fun c => .due c.number)

/-- The RESTARTED report (R185). -/
def restartedReport (kind : RestartKind) (s : State) : ReportBody := .restarted kind s.clock.second

/-- A restart up to the RESTARTED report (R196, R185). -/
def restartBase (kind : RestartKind) (s : State) : State :=
  let s := takeUpStore (restartClock kind s)
  s.systemReport (restartedReport kind s)

/-- A restart (R196). The order of its last tasks is open (log entry 2). -/
def restartDevice (kind : RestartKind) (s : State) : State :=
  let s := restartBase kind s
  s.runFree (restartTasks s) runRestartTask

end Sys2Proof.Machine
end

