-- ==== Sys2Proof/Machine/Terminal.lean ====
section
/-! DEFINITION. The terminal port (11_terminal_port_and_record_layouts.md): the receive buffer, the frame checks (R188), the
link checks (R176), and the taking of a request and the forming of its answer. -/

namespace Sys2Proof.Machine

/-- A request refused with a status and no fields. -/
def refuse (st : Status) (s : State) : State × Reply := (s, ⟨st, .none⟩)

/-- A request answered DONE with its fields. -/
def answer (f : Fields) (s : State) : State × Reply := (s, ⟨.done, f⟩)

/-- A request's own checks and effect: its link, its body, the state. -/
abbrev Handler := LinkId → List Byte → State → State × Reply

/-- The frame checks of R188 on a request whose kind is known. -/
def frameStatus (k : Kind) (r : Request) : Option Status :=
  if bodyLengthOk k r.body = false then some .frameLength
  else if r.flags ≠ 0 then some .badField
  else none

/-- The link checks of R176 on a link number from 1 to 32. -/
def linkStatus (k : Kind) (l : LinkId) (s : State) : Option Status :=
  match s.links[l].state with
  | .free => some .noLink
  | .suspended => some .linkSuspended
  | .active => if hasRight k s.links[l].rights then none else some .noRight

/-- A request is checked, and handled when every check has passed (R188, R176). -/
def handle (k : Kind) (h : Handler) (r : Request) (s : State) : State × Reply :=
  match frameStatus k r with
  | some st => refuse st s
  | none =>
    match linkOf r.link.toNat with
    | none => refuse .noLink s
    | some l =>
      match linkStatus k l s with
      | some st => refuse st s
      | none => h l r.body s

/-- The frame is next to be taken from the receive buffer, and the places behind it: it stands at the head, not taken yet, or
the buffer is empty and the frame arrives as it is taken. None while an answer is being sent, another frame stands at the
head, or a restart is due (R187, log entry 4). -/
def behindFrame (f : Frame) (t : Terminal) : Option (List BufferPlace) :=
  if t.restartDue.isSome then none
  else
    match t.buffer with
    | [] => some []
    | ⟨g, none⟩ :: rest => if g = f then some rest else none
    | ⟨_, some _⟩ :: _ => none

/-- The answer to a frame, formed after the request's effects (R188). -/
def formAnswer (f : Frame) (reply : Reply) (s : State) : Answer :=
  ⟨f.link, f.kind, f.tag, s.terminal.overrunFlag, attn s, reply⟩

/-- The answer takes the head place with its frame, and the overrun flag goes with it (R187, log entry 7). -/
def placeAnswer (f : Frame) (rest : List BufferPlace) (reply : Reply) (s : State) : State :=
  s.modTerminal fun t =>
    { t with buffer := ⟨f, some (formAnswer f reply s)⟩ :: rest, overrunFlag := false }

/-- A frame is taken: its work is done, the time floor follows a changed case, and the answer is formed (R187, R188, R191). -/
def takeFrame (f : Frame) (work : State → State × Reply) (s : State) : State :=
  match behindFrame f s.terminal with
  | none => s
  | some rest => placeAnswer f rest (work s).2 (stampFloor s (work s).1)

/-- A request of a known kind is taken. -/
def take (k : Kind) (h : Handler) (r : Request) (s : State) : State :=
  takeFrame (r.frame (kindByte k)) (handle k h r) s

/-- A well-formed frame takes a free place of the two, or is dropped as an overrun (R187). -/
def bufferFrame (f : Frame) (t : Terminal) : Terminal :=
  if t.buffer.length < 2 then { t with buffer := t.buffer ++ [⟨f, none⟩] }
  else { t with overruns := satSucc 65535 t.overruns, overrunFlag := true }

/-- A frame ends as an error (R186). -/
def countFrameError (t : Terminal) : Terminal := { t with frameErrors := satSucc 65535 t.frameErrors }

/-- The restart that the answer to a DEVICE RESET or DEVICE ERASE calls for (R196). -/
def restartOf (a : Answer) : Option RestartKind :=
  if a.reply.status = .done then
    if a.kind = kindByte .deviceReset then some .deviceReset
    else if a.kind = kindByte .deviceErase then some .deviceErase
    else none
  else none

/-- The last byte of the answer at the head has been sent, and its place is free (R187, R196). -/
def finishAnswer (t : Terminal) : Terminal :=
  match t.buffer with
  | ⟨_, some a⟩ :: rest => { t with buffer := rest, restartDue := restartOf a }
  | _ => t

end Sys2Proof.Machine
end

