-- ==== Sys2Proof/Machine/CaseRequests.lean ====
section
/-! DEFINITION. The requests of 02_the_case_table.md, CASE RESOLVE (R57) and ISSUE ABORT (R157). -/

namespace Sys2Proof.Machine

/-! ### Lookups (R21) -/

/-- The case lookup of R21. -/
def withCase (b : List Byte) (s : State) (work : Case → State × Reply) : State × Reply :=
  match s.findCase (bodyCase b) with
  | none => refuse .notFound s
  | some c => work c

/-- The owner test: a link without APPROVE acts on its own cases only (R21). -/
def ownerMay (l : LinkId) (c : Case) (s : State) : Bool := s.links[l].rights.approve || decide (c.owner = l)

/-- The case lookup and the owner test (R21). -/
def withOwnCase (l : LinkId) (b : List Byte) (s : State) (work : Case → State × Reply) : State × Reply :=
  withCase b s fun c => if ownerMay l c s then work c else refuse .noRight s

/-! ### CASE OPEN (R19, R20) -/

/-- What a CASE OPEN body holds: the snapshot, the sum computed over its bytes (R9), and the opening events. -/
structure OpenBody where
  snapshot : Snapshot
  sum      : Nat
  events   : List CardEvent
  deriving DecidableEq, Repr

/-- An opening event is valid for its snapshot (R19 check 2). -/
def openingEventOk (snap : Snapshot) (e : CardEvent) : Bool :=
  eventInRange e && decide (e.cardNo = snap.cardNo ∧ snap.counter < e.counter)

/-- The opening events, when every kind code is known. -/
def readEvents (l : List (List Byte)) : Option (List CardEvent) := l.mapM readEvent

/-- The body of CASE OPEN when it passes check 2 of R19 on service day `today`. -/
def readOpen (today : Nat) (b : List Byte) : Option OpenBody :=
  let n := fieldAt 16 1 b
  let m := fieldAt (19 + 14 * n) 1 b
  match readSnapshot n b, readEvents (eventRecords m (b.drop (20 + 14 * n))) with
  | some snap, some events =>
    if snapshotInRange today snap && decide (m ≤ 8) && events.all (openingEventOk snap) then
      some ⟨snap, snapshotSum n b, events⟩
    else none
  | _, _ => none

/-- The new case of R20. -/
def newCase (n : Nat) (owner : LinkId) (today cls : Nat) (terms : Terms) (snap : Snapshot) : Case where
  number           := n
  owner            := owner
  state            := .watch
  openDay          := today
  cls              := cls
  terms            := terms
  quietEnd         := today + terms.quietDays
  snapshot         := snap
  chain            := []
  cmax             := snap.counter
  duplicates       := 0
  overflows        := 0
  conflicts        := []
  conflictOverflow := 0
  generation       := none
  zonesClosed      := 0
  review           := {}
  job              := none
  settleDue        := none
  issue            := none
  newCard          := none
  attempts         := 0
  settlement       := none
  adjustment       := 0
  blockedSeen      := false

/-- The row of the concession table of a class (R65). -/
def termsOf (cls : Nat) (s : State) : Terms := s.concession.getD cls Terms.default

/-- The counter after it has given number `n` (R16). -/
def nextCaseNumber (n : Nat) : Option Nat := if n < max32 then some (n + 1) else none

/-- The case is built, joins the hotlist and takes its opening events (R20). -/
def openCase (n : Nat) (c : Case) (events : List CardEvent) (s : State) : State :=
  let s := { s with cases := s.cases ++ [c], nextCase := nextCaseNumber n }
  let s := hotlistAdd c.snapshot.cardNo n s
  events.foldl (fun acc e => arrival n e acc) s

/-- Checks 4 to 8 of R19, then R20. -/
def openChecked (l : LinkId) (today : Nat) (o : OpenBody) (s : State) : State × Reply :=
  if o.snapshot.check ≠ o.sum then refuse .sumMismatch s
  else if s.cases.any fun c => c.snapshot.cardNo = o.snapshot.cardNo then refuse .duplicateCard s
  else if 256 ≤ s.cases.length then refuse .tableFull s
  else
    match s.nextCase with
    | none => refuse .tableFull s
    | some n =>
      if 510 < s.hotlist.pending.length + s.hotlist.master.length then refuse .tableFull s
      else
        let cls := concessionClass today o.snapshot.products
        let c := newCase n l today cls (termsOf cls s) o.snapshot
        answer (.caseOpened n cls c.quietEnd) (openCase n c o.events s)

/-- CASE OPEN (R19, R20). -/
def handleCaseOpen : Handler := fun l b s =>
  match dayOf s with
  | none => refuse .noTime s
  | some today =>
    match readOpen today b with
    | none => refuse .badField s
    | some o => if snapshotFits o.snapshot then openChecked l today o s else refuse .badField s

def execCaseOpen (r : Request) (s : State) : Host.Outcome State Fault Refusal :=
  .next (take .caseOpen handleCaseOpen r s)

/-! ### CASE ISSUE and CASE RECOVER (R29, R30) -/

/-- Checks 4 to 6 of R29. -/
def portStatus (r : PortRec) : Option Status :=
  if r.enabled = false then some .portDisabled
  else if r.fenced then some .portFenced
  else if r.job.isSome then some .portBusy
  else none

/-- The target families of an issue (R29 check 1). -/
def targetOf (n : Nat) : Option Family :=
  match familyOf n with
  | some fam => if issuable fam then some fam else none
  | none => none

/-- A case that CASE ISSUE accepts (R29 check 3). -/
def mayIssue (c : Case) : Bool :=
  decide (c.job = none ∧ (c.state = .watch ∨ (c.state = .settled ∧ c.newCard = none)))

/-- A case that CASE RECOVER accepts (R30). -/
def mayRecover (c : Case) : Bool := decide (c.job = none ∧ (c.state = .watch ∨ c.state = .holding))

/-- An accepted CASE ISSUE (R29, R144). -/
def acceptIssue (p : Port) (target : Family) (n : Nat) (s : State) : State :=
  createJob p (.issue target) n
    (s.modCase n fun c => { c with job := some (.issue, p), attempts := satSucc 255 c.attempts })

/-- An accepted CASE RECOVER (R30, R144). -/
def acceptRecover (p : Port) (n : Nat) (s : State) : State :=
  createJob p .recover n (s.modCase n fun c => { c with job := some (.recover, p) })

/-- CASE ISSUE (R29). -/
def handleCaseIssue : Handler := fun l b s =>
  withOwnCase l b s fun c =>
    match portOf (bodyByte 4 b), targetOf (bodyByte 5 b) with
    | some p, some target =>
      if s.clock.second = none then refuse .noTime s
      else if mayIssue c then
        match portStatus (s.port p) with
        | some st => refuse st s
        | none => answer .none (acceptIssue p target c.number s)
      else refuse .wrongState s
    | _, _ => refuse .badField s

def execCaseIssue (r : Request) (s : State) : Host.Outcome State Fault Refusal :=
  .next (take .caseIssue handleCaseIssue r s)

/-- CASE RECOVER (R30). -/
def handleCaseRecover : Handler := fun l b s =>
  withOwnCase l b s fun c =>
    match portOf (bodyByte 4 b) with
    | some p =>
      if s.clock.second = none then refuse .noTime s
      else if mayRecover c then
        match portStatus (s.port p) with
        | some st => refuse st s
        | none => answer .none (acceptRecover p c.number s)
      else refuse .wrongState s
    | none => refuse .badField s

def execCaseRecover (r : Request) (s : State) : Host.Outcome State Fault Refusal :=
  .next (take .caseRecover handleCaseRecover r s)

/-! ### CASE CANCEL (R36) -/

/-- The refusal of a cancel by the case's condition (R36). -/
def cancelStatus (c : Case) : Option Status :=
  if c.job.isSome then some .wrongState
  else if c.state = .holding ∨ (c.state = .settled ∧ c.newCard.isSome) then some .wrongState
  else if c.state = .settled ∧ statementPending c then some .busy
  else if c.state = .watch ∧ c.blockedSeen then some .cardMarked
  else none

/-- CASE CANCEL (R36). -/
def handleCaseCancel : Handler := fun l b s =>
  withOwnCase l b s fun c =>
    match cancelStatus c with
    | some st => refuse st s
    | none => answer .none (endCase true c.number s)

def execCaseCancel (r : Request) (s : State) : Host.Outcome State Fault Refusal :=
  .next (take .caseCancel handleCaseCancel r s)

/-! ### CASE SETTLE (R27) -/

/-- An accepted CASE SETTLE (R27). -/
def forceSettle (c : Case) (s : State) : State :=
  if c.job.isSome then s.modCase c.number fun c => { c with settleDue := some .forced }
  else settle .forced c.number s

/-- CASE SETTLE (R27). -/
def handleCaseSettle : Handler := fun _ b s =>
  withCase b s fun c =>
    if s.clock.second = none then refuse .noTime s
    else if c.state = .settled then refuse .wrongState s
    else if c.conflicts ≠ [] then refuse .conflictsOpen s
    else answer .none (forceSettle c s)

def execCaseSettle (r : Request) (s : State) : Host.Outcome State Fault Refusal :=
  .next (take .caseSettle handleCaseSettle r s)

/-! ### CASE TRANSFER (R40) -/

/-- The new-owner checks of R40 after the number's range. -/
def newOwnerStatus (r : Link) : Option Status :=
  match r.state with
  | .free => some .notFound
  | .suspended => some .linkSuspended
  | .active => if r.rights.opens then none else some .noRight

/-- CASE TRANSFER (R40). -/
def handleCaseTransfer : Handler := fun _ b s =>
  withCase b s fun c =>
    match linkOf (bodyByte 4 b) with
    | none => refuse .badField s
    | some l =>
      match newOwnerStatus s.links[l] with
      | some st => refuse st s
      | none => answer .none (s.modCase c.number fun c => { c with owner := l })

def execCaseTransfer (r : Request) (s : State) : Host.Outcome State Fault Refusal :=
  .next (take .caseTransfer handleCaseTransfer r s)

/-! ### CASE QUERY (R41) -/

/-- The SUMMARY part (R41). What "the chain counts" are is the model's choice (log entry 23): the duplicate count, the overflow
count, the conflict list length and the conflict overflow count. -/
def summaryOf (c : Case) : CaseSummary where
  number           := c.number
  owner            := c.owner
  state            := c.state
  openDay          := c.openDay
  cls              := c.cls
  terms            := c.terms
  quietEnd         := c.quietEnd
  generation       := c.generation
  zonesClosed      := c.zonesClosed
  review           := c.review
  job              := c.job
  settleDue        := c.settleDue
  attempts         := c.attempts
  newCard          := c.newCard
  adjustment       := c.adjustment
  blockedSeen      := c.blockedSeen
  cmax             := c.cmax
  gaps             := gapCount c
  chainLength      := c.chain.length
  duplicates       := c.duplicates
  overflows        := c.overflows
  conflictLength   := c.conflicts.length
  conflictOverflow := c.conflictOverflow

/-- One part of a case record (R41). R53 says that the known values can be read in CASE QUERY, and no part of R41 lists one; that
they are read there as the snapshot and the chain they derive from, and not sent as fields, is the model's choice (log entry 23). -/
def partOf (part : CasePart) (start : Nat) (c : Case) : Fields :=
  match part with
  | .summary => .caseSummary (summaryOf c)
  | .snapshot => .caseSnapshot c.snapshot
  | .chain => .caseChain ((c.chain.drop start).take 16) c.chain.length
  | .conflicts => .caseConflicts c.conflicts c.conflictOverflow
  | .issue => .caseIssueFigures c.issue
  | .settlement =>
    .caseSettlement c.settlement (match c.settlement with
      | some f => carnetLines c f
      | none => [])

/-- CASE QUERY (R41). -/
def handleCaseQuery : Handler := fun _ b s =>
  withCase b s fun c =>
    match casePartOf (bodyByte 4 b) with
    | none => refuse .badField s
    | some part =>
      if 63 < bodyByte 5 b then refuse .badField s else answer (partOf part (bodyByte 5 b) c) s

def execCaseQuery (r : Request) (s : State) : Host.Outcome State Fault Refusal :=
  .next (take .caseQuery handleCaseQuery r s)

/-! ### CASE LIST (R42) -/

/-- The live cases at or above a start number that pass the filters, ascending (R42). -/
def listedCases (start : Nat) (state : Option CaseState) (own : Bool) (l : LinkId) (s : State) : List Case :=
  s.cases.filter fun c =>
    decide (start ≤ c.number) && (match state with
      | none => true
      | some st => decide (c.state = st)) && (!own || decide (c.owner = l))

/-- CASE LIST (R42). -/
def handleCaseList : Handler := fun l b s =>
  match stateFilterOf (bodyByte 4 b), ownerFilterOf (bodyByte 5 b) with
  | some st, some own =>
    if bodyCase b = 0 then refuse .badField s
    else
      let found := listedCases (bodyCase b) st own l s
      answer (.caseList ((found.take 16).map fun c => ⟨c.number, c.state, c.owner⟩) (decide (16 < found.length))) s
  | _, _ => refuse .badField s

def execCaseList (r : Request) (s : State) : Host.Outcome State Fault Refusal :=
  .next (take .caseList handleCaseList r s)

/-! ### CASE RESOLVE (R57 to R59) -/

/-- The fields of the answer to CASE RESOLVE, after the ruling (R57). -/
def resolvedFields (counter : Nat) (c : Case) : Fields :=
  .resolved c.number c.state c.review c.conflicts.length
    (c.conflicts.filter fun e => e.counter = counter).length c.conflictOverflow

/-- An accepted CASE RESOLVE: the ruling and what follows it (R58, R59). -/
def rule (replace : Bool) (e : CardEvent) (n : Nat) (s : State) : State :=
  afterRuling n (s.modCase n (ruleConflict replace e))

/-- CASE RESOLVE (R57). -/
def handleCaseResolve : Handler := fun _ b s =>
  withCase b s fun c =>
    match choiceOf (bodyByte 7 b) with
    | none => refuse .badField s
    | some replace =>
      match oldestConflict c (fieldAt 4 3 b) with
      | none => refuse .notFound s
      | some e =>
        if replace ∧ c.state = .settled then refuse .wrongState s
        else
          let t := rule replace e c.number s
          answer (resolvedFields (fieldAt 4 3 b) ((t.findCase c.number).getD c)) t

def execCaseResolve (r : Request) (s : State) : Host.Outcome State Fault Refusal :=
  .next (take .caseResolve handleCaseResolve r s)

/-! ### ISSUE ABORT (R157) -/

/-- What an abort's decision does (R157). The rule names the pending mark for a pending abort alone; that the answer to an abort taken
at once carries it too, clear, is the model's choice (log entry 23). -/
def applyAbort (p : Port) (d : AbortResult) (s : State) : State × Reply :=
  match d with
  | .atOnce => answer (.abort false) (endJob p .aborted s)
  | .marked => answer (.abort true) (s.modJob p fun j => { j with abortPending := true })
  | .alreadyMarked => answer (.abort true) s
  | .tooLate => refuse .tooLate s

/-- ISSUE ABORT (R157). -/
def handleIssueAbort : Handler := fun l b s =>
  withOwnCase l b s fun c =>
    match c.job with
    | none => refuse .wrongState s
    | some (_, p) =>
      match (s.port p).job with
      | none => refuse .wrongState s
      | some j => applyAbort p (abortDecision (decide (s.signing.grantee = some (.port p))) j) s

def execIssueAbort (r : Request) (s : State) : Host.Outcome State Fault Refusal :=
  .next (take .issueAbort handleIssueAbort r s)

end Sys2Proof.Machine
end

