-- ==== Sys2Proof/Machine/Events.lean ====
section
/-! DEFINITION. The events that are not requests: frames and answers on the terminal line, restarts, the clock, the couplers'
messages, and the two completions of the signing unit. An event that cannot arise in a state leaves it unchanged (log
entry 5). -/

namespace Sys2Proof.Machine

/-- An event's work, after which the time floor follows a changed case (R191). -/
def during (work : State → State) (s : State) : State := stampFloor s (work s)

/-! ### The terminal line (R186, R187, R196) -/

/-- What the receiver makes of a frame reaches the buffer or the frame error count (R186, R187). -/
def takeReception (r : Reception) (t : Terminal) : Terminal :=
  match r with
  | .incomplete => t
  | .error => countFrameError t
  | .frame f => bufferFrame f t

def execFrameReceived (line : List Byte) (s : State) : Host.Outcome State Fault Refusal :=
  .next (s.modTerminal (takeReception (receive line)))

/-- FRAME_ERROR: the three causes have one effect (R186). -/
def execFrameError (_cause : FrameErrorCause) (s : State) : Host.Outcome State Fault Refusal :=
  .next (s.modTerminal countFrameError)

def execInterByteTimeout (s : State) : Host.Outcome State Fault Refusal := .next (s.modTerminal countFrameError)

def execAnswerSent (s : State) : Host.Outcome State Fault Refusal := .next (s.modTerminal finishAnswer)

/-! ### Restarts (R196) -/

/-- The restart of DEVICE RESET or DEVICE ERASE, once its answer has been sent (R196). -/
def dueRestart (s : State) : State :=
  match s.terminal.restartDue with
  | none => s
  | some kind => during (restartDevice kind) s

def execRestart (s : State) : Host.Outcome State Fault Refusal := .next (dueRestart s)

def execPowerOn (s : State) : Host.Outcome State Fault Refusal := .next (during (restartDevice .powerOn) s)

/-- NRST restarts the part as power-on does (R196; 00_scope.md section 8: "equivalent to power-on"). -/
def execNrstRelease (s : State) : Host.Outcome State Fault Refusal := .next (during (restartDevice .powerOn) s)

/-! ### The clock (R191) -/

/-- One second of a running clock: a due floor write, the second, the rollover test (R191, log entry 8). -/
def tick (s : State) : State :=
  match s.clock.second with
  | none => s
  | some _ => during rolloverTest (s.modClock fun c => tickClock (writeFloor c))

def execClockTick (s : State) : Host.Outcome State Fault Refusal := .next (tick s)

def execTimeFloorWrite (s : State) : Host.Outcome State Fault Refusal := .next (s.modClock writeFloor)

/-! ### The couplers (R139, R141 to R143) -/

/-- A message of a coupler is taken by a port in service, and discarded by any other (R139). -/
def coupler (p : Port) (work : State → State) (s : State) : State :=
  if inService (s.port p) then during work s else s

def execArrived (p : Port) (serial : Serial) (family : Family) (s : State) : Host.Outcome State Fault Refusal :=
  .next (coupler p (takeArrived p ⟨serial, family⟩) s)

/-- LEFT at a port in service (R142, R143). -/
def takeLeft (p : Port) (s : State) : State := cardLeaves p (clearTimeouts p s)

def execLeft (p : Port) (s : State) : Host.Outcome State Fault Refusal := .next (coupler p (takeLeft p) s)

def execData (p : Port) (content : Option Segment) (s : State) : Host.Outcome State Fault Refusal :=
  .next (coupler p (takeData p content) s)

def execDone (p : Port) (s : State) : Host.Outcome State Fault Refusal := .next (coupler p (takeDone p) s)

/-- FAULT: the two causes have one effect (R141, R149). -/
def execFault (p : Port) (_cause : FaultCause) (s : State) : Host.Outcome State Fault Refusal :=
  .next (coupler p (takeFault p) s)

def execResponseTimeout (p : Port) (s : State) : Host.Outcome State Fault Refusal :=
  .next (coupler p (takeTimeout p) s)

def execTearWindowExpiry (p : Port) (s : State) : Host.Outcome State Fault Refusal :=
  .next (during (expireWindow p) s)

/-! ### Completions of the signing unit (R170, R171) -/

/-- A package code completes: the cut completes with its report, the automatic trigger is tested, and the grant is released
(R111, R112, R170). -/
def completePackage (code : Code) (s : State) : State :=
  let t := completeCut s
  releaseGrant (autoCut (t.systemReport (packageReport code s t)))

/-- HOTLIST_GRANT_COMPLETION: it arises while the hotlist member's package code is in computation (R170). -/
def packageCompletion (s : State) : State :=
  match s.signing.grantee, s.signing.computation with
  | some .hotlist, some (.package i) => completePackage (Config.packageCode i) s
  | _, _ => s

def execHotlistGrantCompletion (s : State) : Host.Outcome State Fault Refusal :=
  .next (during packageCompletion s)

/-- The statement member asks again when the queue is still not empty, before the pick (R171, R167). -/
def releaseStatement (s : State) : State :=
  if s.signing.queue = [] then releaseGrant s else releaseAndRequest .statement s

/-- STATEMENT_GRANT_COMPLETION: it arises while the statement code of the head case is in computation (R171). -/
def statementCompletion (s : State) : State :=
  match s.signing.grantee, s.signing.computation with
  | some .statement, some (.statement i) => releaseStatement (completeStatement (Config.statementCode i) s)
  | _, _ => s

def execStatementGrantCompletion (s : State) : Host.Outcome State Fault Refusal :=
  .next (during statementCompletion s)

end Sys2Proof.Machine
end

