-- ==== Sys2Proof/Machine/LinkRequests.lean ====
section
/-! DEFINITION. The link requests and REPORT FETCH (10_links_rights_and_report_channels.md). -/

namespace Sys2Proof.Machine

/-- Link 1. -/
def rootLink : LinkId := 0

/-- Every right of `r` is held in `held` (R177 check 2). -/
def rightsWithin (r held : Rights) : Bool :=
  (!r.opens || held.opens) && (!r.approve || held.approve) && (!r.feed || held.feed) && (!r.admin || held.admin) &&
    (!r.grants || held.grants)

/-! ### LINK CREATE (R177) -/

/-- The lowest-numbered FREE record from 2 to 32 (R177). -/
def lowestFree (s : State) : Option LinkId :=
  (List.finRange 32).find? fun l => decide (l ≠ rootLink) && decide (s.links[l].state = .free)

/-- The record of a new link (R177): the body past its rights is channel, bound zone and station code. -/
def linkFields (rights : Rights) (creator : LinkId) (b : List Byte) : Option Link :=
  match channelOf (bodyByte 1 b), bodyByte 2 b with
  | some ch, 0 => some ⟨.active, rights, ch, some creator, none, fieldAt 3 2 b⟩
  | some ch, z =>
    match zoneOf z, rights.feed with
    | some zone, true => some ⟨.active, rights, ch, some creator, some zone, fieldAt 3 2 b⟩
    | _, _ => none
  | none, _ => none

/-- The body of LINK CREATE when it passes check 1 of R177. -/
def readLink (creator : LinkId) (b : List Byte) : Option Link :=
  (readRights (bodyByte 0 b)).bind fun rights => linkFields rights creator b

/-- LINK CREATE (R177). -/
def handleLinkCreate : Handler := fun l b s =>
  match readLink l b with
  | none => refuse .badField s
  | some rec =>
    if rightsWithin rec.rights s.links[l].rights then
      match lowestFree s with
      | none => refuse .tableFull s
      | some n => answer (.linkCreated n) (s.setLink n rec)
    else refuse .noRight s

def execLinkCreate (r : Request) (s : State) : Host.Outcome State Fault Refusal :=
  .next (take .linkCreate handleLinkCreate r s)

/-! ### The target of a management request (R178) -/

/-- Checks 2 to 4 of R178. -/
def targetStatus (l target : LinkId) (s : State) : Option Status :=
  if s.links[target].state = .free then some .notFound
  else if target = rootLink then some .wrongState
  else if s.links[target].creator = some l ∨ l = rootLink then none
  else some .noRight

/-- The checks of R178. -/
def withTarget (l : LinkId) (b : List Byte) (s : State) (work : LinkId → State × Reply) : State × Reply :=
  match linkOf (bodyByte 0 b) with
  | none => refuse .badField s
  | some target =>
    match targetStatus l target s with
    | some st => refuse st s
    | none => work target

/-- A change of one link record. -/
def State.modLink (l : LinkId) (f : Link → Link) (s : State) : State := s.setLink l (f s.links[l])

/-- LINK MOVE (R178). -/
def handleLinkMove : Handler := fun l b s =>
  withTarget l b s fun target =>
    match channelOf (bodyByte 1 b) with
    | none => refuse .badField s
    | some ch => answer .none (s.modLink target fun r => { r with channel := ch, station := fieldAt 2 2 b })

def execLinkMove (r : Request) (s : State) : Host.Outcome State Fault Refusal :=
  .next (take .linkMove handleLinkMove r s)

/-- LINK SUSPEND (R179). -/
def handleLinkSuspend : Handler := fun l b s =>
  withTarget l b s fun target => answer .none (s.modLink target fun r => { r with state := .suspended })

def execLinkSuspend (r : Request) (s : State) : Host.Outcome State Fault Refusal :=
  .next (take .linkSuspend handleLinkSuspend r s)

/-- LINK RESUME (R179). -/
def handleLinkResume : Handler := fun l b s =>
  withTarget l b s fun target => answer .none (s.modLink target fun r => { r with state := .active })

def execLinkResume (r : Request) (s : State) : Host.Outcome State Fault Refusal :=
  .next (take .linkResume handleLinkResume r s)

/-! ### LINK DELETE (R180) -/

/-- The children of a link: the live links whose creator it is (R174). -/
def childrenOf (l : LinkId) (s : State) : List LinkId :=
  (List.finRange 32).filter fun c => decide (s.links[c].state ≠ .free) && decide (s.links[c].creator = some l)

/-- The live cases a link owns. -/
def ownedBy (l : LinkId) (s : State) : List Case := s.cases.filter fun c => c.owner = l

/-- Conditions 4 to 7 of R180: the recipient of a transfer, or the refusal. -/
def recipientOf (target : LinkId) (n : Nat) (s : State) : Except Status LinkId :=
  match linkOf n with
  | none => .error .ownsCases
  | some l =>
    if l = target ∨ s.links[l].state = .free then .error .notFound
    else if s.links[l].state = .suspended then .error .linkSuspended
    else if s.links[l].rights.opens then .ok l
    else .error .noRight

/-- The target's cases go to the recipient as by CASE TRANSFER (R180, R40). -/
def transferCases (target recipient : LinkId) (s : State) : State :=
  { s with cases := s.cases.map fun c => if c.owner = target then { c with owner := recipient } else c }

/-- The target's record becomes FREE (R180, R174). -/
def freeLink (target : LinkId) (s : State) : State := s.setLink target Link.freeRecord

/-- LINK DELETE (R180). R180 has no field table for its body; that the target stands before the recipient, in the order of the
prose, is the model's choice (log entry 29). -/
def handleLinkDelete : Handler := fun l b s =>
  withTarget l b s fun target =>
    if 32 < bodyByte 1 b then refuse .badField s
    else if childrenOf target s ≠ [] then refuse .hasChildren s
    else if ownedBy target s = [] then answer (.linkDeleted 0) (freeLink target s)
    else
      match recipientOf target (bodyByte 1 b) s with
      | .error st => refuse st s
      | .ok recipient =>
        answer (.linkDeleted (ownedBy target s).length) (freeLink target (transferCases target recipient s))

def execLinkDelete (r : Request) (s : State) : Host.Outcome State Fault Refusal :=
  .next (take .linkDelete handleLinkDelete r s)

/-! ### LINK READ (R181) -/

/-- LINK READ (R181). -/
def handleLinkRead : Handler := fun _ b s =>
  match linkOf (bodyByte 0 b) with
  | none => refuse .badField s
  | some l => answer (.linkRead l s.links[l] (childrenOf l s).length (ownedBy l s).length) s

def execLinkRead (r : Request) (s : State) : Host.Outcome State Fault Refusal :=
  .next (take .linkRead handleLinkRead r s)

/-! ### REPORT FETCH (R184) -/

/-- The lowest-numbered channel whose queue is not empty (R184). -/
def firstChannel (s : State) : Option (Fin 4) :=
  (List.finRange 4).find? fun c => !s.channels[c].queue.isEmpty

/-- The number of reports in all four queues. -/
def waitingReports (s : State) : Nat :=
  s.channels[0].queue.length + s.channels[1].queue.length + s.channels[2].queue.length + s.channels[3].queue.length

/-- The head report of a channel is removed and returned, with the dropped count that then becomes 0 (R184). -/
def fetchFrom (c : Fin 4) (s : State) : State × Reply :=
  match s.channels[c].queue with
  | [] => answer .noReport s
  | r :: rest =>
    let t := s.setChannel c ⟨rest, 0⟩
    answer (.report c s.channels[c].dropped (waitingReports t) r) t

/-- REPORT FETCH (R184). -/
def handleReportFetch : Handler := fun _ _ s =>
  match firstChannel s with
  | none => answer .noReport s
  | some c => fetchFrom c s

def execReportFetch (r : Request) (s : State) : Host.Outcome State Fault Refusal :=
  .next (take .reportFetch handleReportFetch r s)

end Sys2Proof.Machine
end

