-- ==== Sys2Proof/Machine/PortRequests.lean ====
section
/-! DEFINITION. The port requests of 08_coupler_ports_and_card_jobs.md. -/

namespace Sys2Proof.Machine

/-- The port a request names (R140, R162, R163). -/
def withPort (b : List Byte) (s : State) (work : Port → State × Reply) : State × Reply :=
  match portOf (bodyByte 0 b) with
  | none => refuse .badField s
  | some p => work p

/-- The numeric settings clamped into the ranges of R139 (R140). -/
def clampNumbers (n : PortNumbers) : PortNumbers :=
  ⟨clampTo 0 15 n.retryLimit, clampTo 1 15 n.fenceThreshold, clampTo 50 2000 n.timeout, clampTo 10 600 n.window⟩

/-- The clamped marks of the four numeric settings (R140). -/
def numberMarks (n : PortNumbers) : List Bool :=
  let c := clampNumbers n
  [clampedMark n.retryLimit c.retryLimit, clampedMark n.fenceThreshold c.fenceThreshold,
    clampedMark n.timeout c.timeout, clampedMark n.window c.window]

/-- A port record with new settings; a port disabled by them drops its SENSE and its card (R140). -/
def configuredPort (enabled : Bool) (mode : WriteMode) (n : PortNumbers) (r : PortRec) : PortRec :=
  { r with
    enabled := enabled
    mode := mode
    retryLimit := n.retryLimit
    fenceThreshold := n.fenceThreshold
    timeout := n.timeout
    window := n.window
    timeouts := 0
    outstanding := if enabled then r.outstanding else none
    card := if enabled then r.card else none }

/-- An accepted PORT CONFIGURE: the settings, and SENSE on a port that comes into service (R140, R141). -/
def configurePort (p : Port) (enabled : Bool) (mode : WriteMode) (n : PortNumbers) (s : State) : State :=
  let before := s.port p
  let s := s.modPort p (configuredPort enabled mode n)
  if enabled ∧ before.enabled = false ∧ before.fenced = false then sendCommand p .sense s else s

/-- PORT CONFIGURE (R140). -/
def handlePortConfigure : Handler := fun _ b s =>
  withPort b s fun p =>
    match markOf (bodyByte 1 b), writeModeOf (bodyByte 2 b) with
    | some enabled, some mode =>
      if (s.port p).job.isSome then refuse .portBusy s
      else
        let n := clampNumbers (bodyPortNumbers b)
        answer (.portConfigured ⟨enabled, mode, n.retryLimit, n.fenceThreshold, n.timeout, n.window⟩
            (numberMarks (bodyPortNumbers b)))
          (configurePort p enabled mode n s)
    | _, _ => refuse .badField s

def execPortConfigure (r : Request) (s : State) : Host.Outcome State Fault Refusal :=
  .next (take .portConfigure handlePortConfigure r s)

/-- An accepted PORT UNFENCE (R162). -/
def unfencePort (p : Port) (s : State) : State :=
  let before := s.port p
  let s := s.modPort p fun r => { r with fenced := false, timeouts := 0 }
  if before.enabled ∧ before.fenced then sendCommand p .sense s else s

/-- PORT UNFENCE (R162). -/
def handlePortUnfence : Handler := fun _ b s =>
  withPort b s fun p => answer (.portUnfenced (s.port p).timeouts) (unfencePort p s)

def execPortUnfence (r : Request) (s : State) : Host.Outcome State Fault Refusal :=
  .next (take .portUnfence handlePortUnfence r s)

/-- The job of a port as PORT STATUS gives it (R163). -/
def jobReportOf (p : Port) (j : Job) (s : State) : JobReport where
  name         := jobName j.kind
  caseNo       := j.caseNo
  phase        := j.phase
  mode         := j.mode
  target       := j.target
  nextSegment  := j.nextSegment
  retries      := j.retries
  abortPending := j.abortPending
  tearEnd      := j.tearEnd
  holdsGrant   := decide (s.signing.grantee = some (.port p))
  waits        := isWaiting s.signing.waiting (.port p)

/-- The port record as PORT STATUS gives it (R163). -/
def portReportOf (p : Port) (s : State) : PortReport :=
  let r := s.port p
  { port := p
    enabled := r.enabled
    mode := r.mode
    retryLimit := r.retryLimit
    fenceThreshold := r.fenceThreshold
    timeout := r.timeout
    window := r.window
    fenced := r.fenced
    timeouts := r.timeouts
    card := r.card
    command := outstandingCommand r
    job := r.job.map fun j => jobReportOf p j s }

/-- PORT STATUS (R163). -/
def handlePortStatus : Handler := fun _ b s =>
  withPort b s fun p => answer (.portStatus (portReportOf p s)) s

def execPortStatus (r : Request) (s : State) : Host.Outcome State Fault Refusal :=
  .next (take .portStatus handlePortStatus r s)

end Sys2Proof.Machine
end

