-- ==== Sys2Proof/WellFormed.lean ====
section
/-! DEFINITION. Which commands the outside can send at all. A request body longer than 508 bytes fits no frame
(R186: a request length is 4 to 512, from link through body); a command of an unknown kind carries a code that
section 11.4 gives no request; the bytes of a frame begin with the start marker and hold its length, 4 to 512
bytes and the CRC. exec is total and gives ill-formed commands a meaning as well. -/

namespace Sys2Proof

/-- The body fits a frame (R186). -/
def Request.fits (r : Request) : Bool := decide (r.body.length ≤ 508)

/-- The code names no request (R188, section 11.4: the request kind codes are 1 to 40). -/
def codeUnknown (kind : Byte) : Bool := decide (kind.toNat = 0 ∨ 40 < kind.toNat)

/-- The bytes have the outer form of one frame (R186). -/
def lineFits (line : List Byte) : Bool :=
  decide (line.head? = some 0xA5#8 ∧ 9 ≤ line.length ∧ line.length ≤ 517)

/-- The well-formed commands. -/
def Instr.wf : Instr → Bool
  | .caseOpen r | .caseIssue r | .caseRecover r | .caseCancel r | .caseSettle r | .caseTransfer r
  | .caseQuery r | .caseList r | .caseResolve r | .issueAbort r | .concessionSet r | .concessionRead r
  | .hotlistCut r | .hotlistRead r | .zoneConfigure r | .zoneRelease r | .zoneHold r | .zoneResync r
  | .zoneRemove r | .zoneClear r | .zoneStatus r | .batchHeader r | .batchRecords r | .batchEnd r
  | .portConfigure r | .portUnfence r | .portStatus r | .linkCreate r | .linkDelete r | .linkMove r
  | .linkSuspend r | .linkResume r | .linkRead r | .reportFetch r | .timeSet r | .timeRead r
  | .settingsSet r | .deviceStatus r | .deviceReset r | .deviceErase r => r.fits
  | .unknownKind k r => codeUnknown k && r.fits
  | .frameReceived line => lineFits line
  | .frameError _ | .interByteTimeout | .answerSent | .restart | .powerOn | .nrstRelease | .clockTick
  | .timeFloorWrite | .arrived _ _ _ | .left _ | .data _ _ | .done _ | .fault _ _ | .responseTimeout _
  | .tearWindowExpiry _ | .hotlistGrantCompletion | .statementGrantCompletion => true

end Sys2Proof
end

