-- ==== Sys2Proof/Machine/SystemRequests.lean ====
section
/-! DEFINITION. The requests on the concession table (R66, R67), the hotlist (R109, R113), the clock, the settings and the
part as a whole (R192 to R194, R196), and the refusal of an unknown kind (R188). -/

namespace Sys2Proof.Machine

/-! ### Concession table (R66, R67) -/

/-- The terms clamped into the ranges of R65 (R66). -/
def clampTerms (t : Terms) : Terms :=
  ⟨clampTo 0 100000 t.dailyCap, clampTo 1 7 t.exposureDays, clampTo 1 14 t.quietDays, clampTo 0 20000 t.presumedFare,
    clampTo 0 4 t.holdbackTrips⟩

/-- The clamped marks of the five terms (R66). -/
def termMarks (t : Terms) : List Bool :=
  let c := clampTerms t
  [clampedMark t.dailyCap c.dailyCap, clampedMark t.exposureDays c.exposureDays, clampedMark t.quietDays c.quietDays,
    clampedMark t.presumedFare c.presumedFare, clampedMark t.holdbackTrips c.holdbackTrips]

/-- A row of the concession table is replaced (R66). -/
def State.setTerms (cls : Fin 16) (t : Terms) (s : State) : State := { s with concession := s.concession.set cls t }

/-- The row a class 0 to 15 names. -/
def classOf (n : Nat) : Option (Fin 16) := if h : n < 16 then some ⟨n, h⟩ else none

/-- CONCESSION SET (R66). -/
def handleConcessionSet : Handler := fun _ b s =>
  match classOf (bodyByte 0 b) with
  | none => refuse .badField s
  | some cls =>
    let t := clampTerms (bodyTerms b)
    answer (.concessionSet cls.val t (termMarks (bodyTerms b))) (s.setTerms cls t)

def execConcessionSet (r : Request) (s : State) : Host.Outcome State Fault Refusal :=
  .next (take .concessionSet handleConcessionSet r s)

/-- CONCESSION READ (R67). -/
def handleConcessionRead : Handler := fun _ _ s => answer (.concessionTable s.concession.toList) s

def execConcessionRead (r : Request) (s : State) : Host.Outcome State Fault Refusal :=
  .next (take .concessionRead handleConcessionRead r s)

/-! ### Hotlist (R109, R113) -/

/-- The refusal of a HOTLIST CUT (R109). -/
def cutStatus (h : Hotlist) : Option Status :=
  if h.packaging = .packaging then some .busy
  else if h.pending = [] then some .nothingPending
  else if max32 ≤ h.generation then some .tableFull
  else none

/-- The fields of a DONE answer to HOTLIST CUT: the package taken from the pending list (R109). -/
def cutFields (h : Hotlist) : Fields :=
  let pkg := h.pending.take 64
  .hotlistCut (h.generation + 1) (countKind .add pkg) (countKind .remove pkg) (h.pending.length - pkg.length)

/-- HOTLIST CUT (R109). -/
def handleHotlistCut : Handler := fun _ _ s =>
  match cutStatus s.hotlist with
  | some st => refuse st s
  | none => answer (cutFields s.hotlist) (startCut s)

def execHotlistCut (r : Request) (s : State) : Host.Outcome State Fault Refusal :=
  .next (take .hotlistCut handleHotlistCut r s)

/-- The published master entries (R113). -/
def publishedEntries (h : Hotlist) : List MasterEntry := h.master.filter fun e => e.addGen.isSome

/-- The hotlist unit's state as HOTLIST READ gives it (R113). -/
def hotlistSummary (h : Hotlist) : HotlistSummary where
  generation   := h.generation
  packaging    := h.packaging
  bears        := if h.packaging = .packaging then some (h.generation + 1) else none
  pendingCount := h.pending.length
  adds         := countKind .add h.pending
  removes      := countKind .remove h.pending
  taken        := (packageChanges h).length
  masterCount  := h.master.length
  published    := (publishedEntries h).length

/-- A page of up to 48 entries from a start index (R113). -/
def pageOf {α : Type} (start : Nat) (l : List α) : List α := (l.drop start).take 48

/-- Entries exist beyond the page's last; an empty page has the mark clear (R113). -/
def moreOf {α : Type} (start : Nat) (l : List α) : Bool := decide (start + 48 < l.length)

/-- HOTLIST READ (R113). -/
def handleHotlistRead : Handler := fun _ b s =>
  let start := fieldAt 1 2 b
  match hotlistPartOf (bodyByte 0 b) with
  | none => refuse .badField s
  | some false =>
    if 255 < start then refuse .badField s
    else
      let l := publishedEntries s.hotlist
      answer (.hotlistMaster (hotlistSummary s.hotlist) (pageOf start l) (moreOf start l)) s
  | some true =>
    if 511 < start then refuse .badField s
    else
      let l := s.hotlist.pending
      answer (.hotlistPending (hotlistSummary s.hotlist) (pageOf start l) (moreOf start l)) s

def execHotlistRead (r : Request) (s : State) : Host.Outcome State Fault Refusal :=
  .next (take .hotlistRead handleHotlistRead r s)

/-! ### Clock (R192) -/

/-- Second `t` lies below the time floor, or below the running clock (R192). -/
def timeBackward (t : Nat) (c : Clock) : Bool :=
  decide (t < c.floor) || (match c.second with
    | some now => decide (t < now)
    | none => false)

/-- An accepted TIME SET: a second equal to the running clock changes nothing (R192). -/
def setTime (t : Nat) (s : State) : State := if s.clock.second = some t then s else moveClock t s

/-- TIME SET delivers a rollover event (R192). -/
def deliversRollover (t : Nat) (s : State) : Bool :=
  decide (s.clock.second ≠ some t) && rolloverDue (takeSecond t s)

/-- TIME SET (R192). -/
def handleTimeSet : Handler := fun _ b s =>
  let t := fieldAt 0 4 b
  if timeBackward t s.clock then refuse .timeBackward s
  else answer (.timeSet t (setTime t s).clock.announcedDay (deliversRollover t s)) (setTime t s)

def execTimeSet (r : Request) (s : State) : Host.Outcome State Fault Refusal :=
  .next (take .timeSet handleTimeSet r s)

/-- TIME READ (R192). -/
def handleTimeRead : Handler := fun _ _ s =>
  answer (.timeRead s.clock.second (dayOf s) s.clock.floor s.settings.rolloverMinute) s

def execTimeRead (r : Request) (s : State) : Host.Outcome State Fault Refusal :=
  .next (take .timeRead handleTimeRead r s)

/-! ### Settings (R193) -/

/-- The settings a SETTINGS SET body stores, its numbers clamped (R193). -/
def clampSettings (b : List Byte) (mode : ArbMode) : Settings :=
  ⟨clampTo 0 1439 (fieldAt 0 2 b), clampTo 1 64 (bodyByte 2 b), clampTo 30 400 (fieldAt 3 2 b), mode⟩

/-- The clamped marks of the three numeric settings (R193). -/
def settingMarks (b : List Byte) (v : Settings) : List Bool :=
  [clampedMark (fieldAt 0 2 b) v.rolloverMinute, clampedMark (bodyByte 2 b) v.autoCut,
    clampedMark (fieldAt 3 2 b) v.retentionDays]

/-- An accepted SETTINGS SET: the store, the rollover test with the new minute, the automatic cut trigger (R193). -/
def storeSettings (v : Settings) (s : State) : State := autoCut (rolloverTest { s with settings := v })

/-- SETTINGS SET (R193). -/
def handleSettingsSet : Handler := fun _ b s =>
  match arbModeOf (bodyByte 5 b) with
  | none => refuse .badField s
  | some mode =>
    let v := clampSettings b mode
    answer (.settings v (settingMarks b v)) (storeSettings v s)

def execSettingsSet (r : Request) (s : State) : Host.Outcome State Fault Refusal :=
  .next (take .settingsSet handleSettingsSet r s)

/-! ### The part as a whole (R194, R196) -/

/-- A port's line in DEVICE STATUS (R194). -/
def portLineOf (r : PortRec) : PortLine :=
  ⟨r.enabled, r.fenced, r.card, r.job.map fun j => (jobName j.kind, j.caseNo, j.phase)⟩

/-- A zone's line in DEVICE STATUS (R194). -/
def zoneLineOf (r : Zone) : ZoneLine := ⟨r.state, r.reached, r.dormant, anyFlag r⟩

/-- DEVICE STATUS (R194). -/
def deviceReportOf (s : State) : DeviceReport where
  clock        := s.clock.second
  day          := dayOf s
  floor        := s.clock.floor
  settings     := s.settings
  liveCases    := s.cases.length
  nextCase     := s.nextCase
  generation   := s.hotlist.generation
  packaging    := s.hotlist.packaging
  pendingCount := s.hotlist.pending.length
  masterCount  := s.hotlist.master.length
  queueLength  := s.signing.queue.length
  frameErrors  := s.terminal.frameErrors
  overruns     := s.terminal.overruns
  ports        := allPorts.map fun p => portLineOf (s.port p)
  zones        := s.zones.toList.map zoneLineOf
  channels     := s.channels.toList.map fun c => (c.queue.length, c.dropped)

/-- DEVICE STATUS (R194). -/
def handleDeviceStatus : Handler := fun _ _ s => answer (.deviceStatus (deviceReportOf s)) s

def execDeviceStatus (r : Request) (s : State) : Host.Outcome State Fault Refusal :=
  .next (take .deviceStatus handleDeviceStatus r s)

/-- DEVICE RESET: DONE; the restart follows its answer (R196). -/
def handleDeviceReset : Handler := fun _ _ s => answer .none s

def execDeviceReset (r : Request) (s : State) : Host.Outcome State Fault Refusal :=
  .next (take .deviceReset handleDeviceReset r s)

/-- DEVICE ERASE: DONE; the restart follows its answer (R196). -/
def handleDeviceErase : Handler := fun _ _ s => answer .none s

def execDeviceErase (r : Request) (s : State) : Host.Outcome State Fault Refusal :=
  .next (take .deviceErase handleDeviceErase r s)

/-- A request of a kind code that names no request is refused UNKNOWN_KIND, before any other check (R188); a code that names one
is no such command (log entry 5). -/
def execUnknownKind (kind : Byte) (r : Request) (s : State) : Host.Outcome State Fault Refusal :=
  .next (if codeUnknown kind then takeFrame (r.frame kind) (refuse .unknownKind) s else s)

end Sys2Proof.Machine
end

