-- ==== Sys2Proof/Machine/ZoneRequests.lean ====
section
/-! DEFINITION. The control requests and the feed requests of 07_zone_feeds.md. -/

namespace Sys2Proof.Machine

/-- The zone a control request names (R117). -/
def withZone (b : List Byte) (s : State) (work : ZoneId → State × Reply) : State × Reply :=
  match zoneOf (bodyByte 0 b) with
  | none => refuse .badField s
  | some z => work z

/-! ### Control requests (R118 to R124) -/

/-- The zone record that ZONE CONFIGURE sets (R118). -/
def configuredZone (m : SumMethod) (threshold dormancy : Nat) : Zone :=
  ⟨.held, m, threshold, dormancy, none, 0, none, false, {}, none, 0, 0, 0⟩

/-- An accepted ZONE CONFIGURE: the record set afresh, and the zone taken out of the zones closed sets (R118, R63). -/
def configureZone (z : ZoneId) (m : SumMethod) (threshold dormancy : Nat) (s : State) : State :=
  let s := s.setZone z (configuredZone m threshold dormancy)
  { s with cases := s.cases.map (reopenZone z) }

/-- ZONE CONFIGURE (R118). -/
def handleZoneConfigure : Handler := fun _ b s =>
  withZone b s fun z =>
    match sumMethodOf (bodyByte 1 b) with
    | none => refuse .badField s
    | some m =>
      if isFed s.zones[z].state then refuse .wrongState s
      else
        let threshold := clampTo 1 255 (bodyByte 2 b)
        let dormancy := clampTo 1 7 (bodyByte 3 b)
        answer (.zoneConfigured m threshold dormancy
            [clampedMark (bodyByte 2 b) threshold, clampedMark (bodyByte 3 b) dormancy])
          (configureZone z m threshold dormancy s)

def execZoneConfigure (r : Request) (s : State) : Host.Outcome State Fault Refusal :=
  .next (take .zoneConfigure handleZoneConfigure r s)

/-- A released zone (R119). -/
def releasedZone (day : Option Nat) (r : Zone) : Zone := { r with state := .hunt, lastCommit := day, dormant := false }

/-- ZONE RELEASE (R119). -/
def handleZoneRelease : Handler := fun _ b s =>
  withZone b s fun z =>
    if s.zones[z].state = .held then answer .none (s.modZone z (releasedZone (dayOf s)))
    else refuse .wrongState s

def execZoneRelease (r : Request) (s : State) : Host.Outcome State Fault Refusal :=
  .next (take .zoneRelease handleZoneRelease r s)

/-- A held zone (R120). -/
def heldZone (r : Zone) : Zone := { r with state := .held, batch := none, dormant := false }

/-- ZONE HOLD (R120). -/
def handleZoneHold : Handler := fun _ b s =>
  withZone b s fun z =>
    match s.zones[z].state with
    | .unused => refuse .wrongState s
    | .held => answer .none s
    | .hunt | .openBatch | .aligned => answer .none (s.modZone z heldZone)

def execZoneHold (r : Request) (s : State) : Host.Outcome State Fault Refusal :=
  .next (take .zoneHold handleZoneHold r s)

/-- A resynchronised zone (R121). -/
def resyncedZone (r : Zone) : Zone := { r with state := .hunt, batch := none, expected := none }

/-- ZONE RESYNC (R121). -/
def handleZoneResync : Handler := fun _ b s =>
  withZone b s fun z =>
    if isFed s.zones[z].state then answer .none (s.modZone z resyncedZone) else refuse .wrongState s

def execZoneResync (r : Request) (s : State) : Host.Outcome State Fault Refusal :=
  .next (take .zoneResync handleZoneResync r s)

/-- A removed zone (R122). -/
def removedZone (r : Zone) : Zone := { r with state := .unused }

/-- ZONE REMOVE (R122, R63). -/
def handleZoneRemove : Handler := fun _ b s =>
  withZone b s fun z =>
    if s.zones[z].state = .held then answer .none (testLacking z (s.modZone z removedZone))
    else refuse .wrongState s

def execZoneRemove (r : Request) (s : State) : Host.Outcome State Fault Refusal :=
  .next (take .zoneRemove handleZoneRemove r s)

/-- A cleared zone (R123). -/
def clearedZone (r : Zone) : Zone := { r with counts := {}, committed := 0, matched := 0, unmatched := 0 }

/-- The counts as they stood before clearing (R123). -/
def clearedFields (r : Zone) : Fields := .zoneCleared r.counts r.committed r.matched r.unmatched

/-- ZONE CLEAR (R123). -/
def handleZoneClear : Handler := fun _ b s =>
  withZone b s fun z =>
    if s.zones[z].state = .unused then refuse .wrongState s
    else answer (clearedFields s.zones[z]) (s.modZone z clearedZone)

def execZoneClear (r : Request) (s : State) : Host.Outcome State Fault Refusal :=
  .next (take .zoneClear handleZoneClear r s)

/-- ZONE STATUS (R124). -/
def handleZoneStatus : Handler := fun _ b s =>
  withZone b s fun z => answer (.zoneStatus (zoneStatusOf z s.zones[z])) s

def execZoneStatus (r : Request) (s : State) : Host.Outcome State Fault Refusal :=
  .next (take .zoneStatus handleZoneStatus r s)

/-! ### Feed requests (R125 to R131) -/

/-- The refusal of a feed request by its zone's state (R125 checks 3 and 4). -/
def feedStatus (r : Zone) : Option Status :=
  match r.state with
  | .unused => some .zoneUnused
  | .held => some .zoneHeld
  | .hunt | .openBatch | .aligned => none

/-- The checks of R125. -/
def withFeed (l : LinkId) (b : List Byte) (s : State) (work : ZoneId → State × Reply) : State × Reply :=
  withZone b s fun z =>
    if s.links[l].zone ≠ some z then refuse .noRight s
    else
      match feedStatus s.zones[z] with
      | some st => refuse st s
      | none => work z

/-- Step 2 of R126: an open batch is discarded and the malformed count rises. -/
def discardForHeader (z : ZoneId) (s : State) : State :=
  if s.zones[z].state = .openBatch then raiseError .malformed z (s.modZone z discardToHunt) else s

/-- The zone with the batch an accepted header opens (R126). -/
def openZone (h : HeaderFields) (r : Zone) : Zone := { r with state := .openBatch, batch := some (openedBatch h) }

/-- Steps 5 to 7 of R126. -/
def sequenceChecked (z : ZoneId) (h : HeaderFields) (s : State) : State × Reply :=
  match s.zones[z].expected with
  | none => answer (.headerTaken h.sequence) (s.modZone z (openZone h))
  | some e =>
    if h.sequence < e then (s, ⟨.duplicateBatch, .expectedSequence e⟩)
    else if e < h.sequence then (raiseError .gap z s, ⟨.sequenceGap, .expectedSequence e⟩)
    else answer (.headerTaken h.sequence) (s.modZone z (openZone h))

/-- Steps 3 to 7 of R126. -/
def headerChecked (z : ZoneId) (h : HeaderFields) (b : List Byte) (s : State) : State × Reply :=
  if h.sum ≠ headerSum s.zones[z] z h b then refuse .sumMismatch (raiseError .badSum z s)
  else if h.sequence = 0 ∨ s.hotlist.generation < h.generation then refuse .badField (raiseError .malformed z s)
  else sequenceChecked z h s

/-- BATCH HEADER (R126). -/
def handleBatchHeader : Handler := fun l b s =>
  withFeed l b s fun z =>
    if s.clock.second = none then refuse .noTime s
    else headerChecked z (bodyHeader b) b (discardForHeader z s)

def execBatchHeader (r : Request) (s : State) : Host.Outcome State Fault Refusal :=
  .next (take .batchHeader handleBatchHeader r s)

/-- The number of records of a request that are void (R129). -/
def voidRecords (records : List (List Byte)) : Nat := (records.filter fun r => (recordMark r).2.isSome).length

/-- The answer of BATCH RECORDS: DONE with the counts while the batch is open, else BAD_FIELD (R129, R130). -/
def recordsReply (z : ZoneId) (records : List (List Byte)) (t : State × Bool) : State × Reply :=
  match t.1.zones[z].batch, t.2 with
  | some o, true => answer (.recordsTaken o.buffer.length (voidRecords records)) t.1
  | _, _ => refuse .badField t.1

/-- BATCH RECORDS (R129, R130). -/
def handleBatchRecords : Handler := fun l b s =>
  withFeed l b s fun z =>
    if s.zones[z].state ≠ .openBatch then refuse .noOpenBatch s
    else if bodyByte 1 b < 1 ∨ 16 < bodyByte 1 b then refuse .badField s
    else
      let records := eventRecords (bodyByte 1 b) (b.drop 2)
      recordsReply z records (takeRecords z records s)

def execBatchRecords (r : Request) (s : State) : Host.Outcome State Fault Refusal :=
  .next (take .batchRecords handleBatchRecords r s)

/-- The record count and the body sum of a BATCH END agree with the open batch (R131). -/
def endMatches (b : List Byte) (o : OpenBatch) : Bool :=
  decide (fieldAt 1 2 b = o.buffer.length ∧ fieldAt 3 2 b = o.bodySum)

/-- BATCH END (R131 to R133). -/
def handleBatchEnd : Handler := fun l b s =>
  withFeed l b s fun z =>
    if s.zones[z].state ≠ .openBatch then refuse .noOpenBatch s
    else
      match s.zones[z].batch with
      | none => refuse .noOpenBatch s
      | some o =>
        if endMatches b o then answer (commitBatch z o s).2 (commitBatch z o s).1
        else
          (raiseError .badSum z (s.modZone z discardToHunt),
            ⟨.sumMismatch, .batchMismatch o.buffer.length o.bodySum⟩)

def execBatchEnd (r : Request) (s : State) : Host.Outcome State Fault Refusal :=
  .next (take .batchEnd handleBatchEnd r s)

end Sys2Proof.Machine
end

