-- ==== Sys2Proof/Machine/Dispatch.lean ====
section
/-! DEFINITION. The command's effect on everything but the queue: one arm for each constructor of Instr. -/

namespace Sys2Proof.Machine

def exec (i : Instr) (s : State) : Host.Outcome State Fault Refusal :=
  match i with
  | .caseOpen r => Sys2Proof.Machine.execCaseOpen r s
  | .caseIssue r => Sys2Proof.Machine.execCaseIssue r s
  | .caseRecover r => Sys2Proof.Machine.execCaseRecover r s
  | .caseCancel r => Sys2Proof.Machine.execCaseCancel r s
  | .caseSettle r => Sys2Proof.Machine.execCaseSettle r s
  | .caseTransfer r => Sys2Proof.Machine.execCaseTransfer r s
  | .caseQuery r => Sys2Proof.Machine.execCaseQuery r s
  | .caseList r => Sys2Proof.Machine.execCaseList r s
  | .caseResolve r => Sys2Proof.Machine.execCaseResolve r s
  | .issueAbort r => Sys2Proof.Machine.execIssueAbort r s
  | .concessionSet r => Sys2Proof.Machine.execConcessionSet r s
  | .concessionRead r => Sys2Proof.Machine.execConcessionRead r s
  | .hotlistCut r => Sys2Proof.Machine.execHotlistCut r s
  | .hotlistRead r => Sys2Proof.Machine.execHotlistRead r s
  | .zoneConfigure r => Sys2Proof.Machine.execZoneConfigure r s
  | .zoneRelease r => Sys2Proof.Machine.execZoneRelease r s
  | .zoneHold r => Sys2Proof.Machine.execZoneHold r s
  | .zoneResync r => Sys2Proof.Machine.execZoneResync r s
  | .zoneRemove r => Sys2Proof.Machine.execZoneRemove r s
  | .zoneClear r => Sys2Proof.Machine.execZoneClear r s
  | .zoneStatus r => Sys2Proof.Machine.execZoneStatus r s
  | .batchHeader r => Sys2Proof.Machine.execBatchHeader r s
  | .batchRecords r => Sys2Proof.Machine.execBatchRecords r s
  | .batchEnd r => Sys2Proof.Machine.execBatchEnd r s
  | .portConfigure r => Sys2Proof.Machine.execPortConfigure r s
  | .portUnfence r => Sys2Proof.Machine.execPortUnfence r s
  | .portStatus r => Sys2Proof.Machine.execPortStatus r s
  | .linkCreate r => Sys2Proof.Machine.execLinkCreate r s
  | .linkDelete r => Sys2Proof.Machine.execLinkDelete r s
  | .linkMove r => Sys2Proof.Machine.execLinkMove r s
  | .linkSuspend r => Sys2Proof.Machine.execLinkSuspend r s
  | .linkResume r => Sys2Proof.Machine.execLinkResume r s
  | .linkRead r => Sys2Proof.Machine.execLinkRead r s
  | .reportFetch r => Sys2Proof.Machine.execReportFetch r s
  | .timeSet r => Sys2Proof.Machine.execTimeSet r s
  | .timeRead r => Sys2Proof.Machine.execTimeRead r s
  | .settingsSet r => Sys2Proof.Machine.execSettingsSet r s
  | .deviceStatus r => Sys2Proof.Machine.execDeviceStatus r s
  | .deviceReset r => Sys2Proof.Machine.execDeviceReset r s
  | .deviceErase r => Sys2Proof.Machine.execDeviceErase r s
  | .unknownKind kind r => Sys2Proof.Machine.execUnknownKind kind r s
  | .frameReceived line => Sys2Proof.Machine.execFrameReceived line s
  | .frameError cause => Sys2Proof.Machine.execFrameError cause s
  | .interByteTimeout => Sys2Proof.Machine.execInterByteTimeout s
  | .answerSent => Sys2Proof.Machine.execAnswerSent s
  | .restart => Sys2Proof.Machine.execRestart s
  | .powerOn => Sys2Proof.Machine.execPowerOn s
  | .nrstRelease => Sys2Proof.Machine.execNrstRelease s
  | .clockTick => Sys2Proof.Machine.execClockTick s
  | .timeFloorWrite => Sys2Proof.Machine.execTimeFloorWrite s
  | .arrived p serial family => Sys2Proof.Machine.execArrived p serial family s
  | .left p => Sys2Proof.Machine.execLeft p s
  | .data p content => Sys2Proof.Machine.execData p content s
  | .done p => Sys2Proof.Machine.execDone p s
  | .fault p cause => Sys2Proof.Machine.execFault p cause s
  | .responseTimeout p => Sys2Proof.Machine.execResponseTimeout p s
  | .tearWindowExpiry p => Sys2Proof.Machine.execTearWindowExpiry p s
  | .hotlistGrantCompletion => Sys2Proof.Machine.execHotlistGrantCompletion s
  | .statementGrantCompletion => Sys2Proof.Machine.execStatementGrantCompletion s

end Sys2Proof.Machine
end

