-- ==== Sys2Proof/Safety.lean ====
section
/-! DEFINITION. What counts as a sound state of the K-430, block by block, in the terms the statements use: each invariant is
one that a rule of the spec states of the machine at every moment. And the words in which a statement says that a request
reaches its own checks and how it was answered. -/

namespace Sys2Proof.Machine

/-! ### Requests -/

/-- The command that takes a request of each kind. -/
def requestCommand : Kind → Request → Instr
  | .caseOpen => .caseOpen
  | .caseIssue => .caseIssue
  | .caseRecover => .caseRecover
  | .caseCancel => .caseCancel
  | .caseSettle => .caseSettle
  | .caseTransfer => .caseTransfer
  | .caseQuery => .caseQuery
  | .caseList => .caseList
  | .caseResolve => .caseResolve
  | .issueAbort => .issueAbort
  | .concessionSet => .concessionSet
  | .concessionRead => .concessionRead
  | .hotlistCut => .hotlistCut
  | .hotlistRead => .hotlistRead
  | .zoneConfigure => .zoneConfigure
  | .zoneRelease => .zoneRelease
  | .zoneHold => .zoneHold
  | .zoneResync => .zoneResync
  | .zoneRemove => .zoneRemove
  | .zoneClear => .zoneClear
  | .zoneStatus => .zoneStatus
  | .batchHeader => .batchHeader
  | .batchRecords => .batchRecords
  | .batchEnd => .batchEnd
  | .portConfigure => .portConfigure
  | .portUnfence => .portUnfence
  | .portStatus => .portStatus
  | .linkCreate => .linkCreate
  | .linkDelete => .linkDelete
  | .linkMove => .linkMove
  | .linkSuspend => .linkSuspend
  | .linkResume => .linkResume
  | .linkRead => .linkRead
  | .reportFetch => .reportFetch
  | .timeSet => .timeSet
  | .timeRead => .timeRead
  | .settingsSet => .settingsSet
  | .deviceStatus => .deviceStatus
  | .deviceReset => .deviceReset
  | .deviceErase => .deviceErase

/-- A request of kind `k` is next to be taken, with the places `rest` of the buffer behind it, and passes the frame checks
(R187, R188). -/
abbrev FrameReady (k : Kind) (r : Request) (rest : List BufferPlace) (s : State) : Prop :=
  behindFrame (r.frame (kindByte k)) s.terminal = some rest ∧ bodyLengthOk k r.body = true ∧ r.flags = 0

/-- A request of kind `k` is next to be taken and passes the frame checks and the link checks, so that its own checks decide;
`l` is its link (R187, R188, R176). -/
abbrev Reaches (k : Kind) (r : Request) (l : LinkId) (rest : List BufferPlace) (s : State) : Prop :=
  FrameReady k r rest s ∧ linkOf r.link.toNat = some l ∧ s.links[l].state = .active ∧
    hasRight k s.links[l].rights = true

/-- The answer that a request of kind `k` taken in state `s` gets, formed in state `t` (R188). -/
def answerTo (k : Kind) (r : Request) (s t : State) (reply : Reply) : Answer :=
  ⟨r.link, kindByte k, r.tag, s.terminal.overrunFlag, attn t, reply⟩

/-- The terminal port after the request was answered: the head place holds it with its answer, and the overrun flag is cleared
(R187, R188). -/
def answeredTerminal (k : Kind) (r : Request) (rest : List BufferPlace) (s t : State) (reply : Reply) : Terminal :=
  { s.terminal with
    buffer := ⟨r.frame (kindByte k), some (answerTo k r s t reply)⟩ :: rest
    overrunFlag := false }

/-- The command takes the request and leaves the state `effect`, but for the answer in the terminal port. -/
def Completes (k : Kind) (r : Request) (rest : List BufferPlace) (s effect : State) (reply : Reply) : Prop :=
  exec (requestCommand k r) s =
    .next { effect with terminal := answeredTerminal k r rest s effect reply }

/-! ### Terminal port, channels, clock -/

/-- R187, R186: at most two places, an answer at the head alone, and counts that saturate; no answer waits to be sent while a
restart is due (R196). -/
def TerminalOk (s : State) : Prop :=
  s.terminal.buffer.length ≤ 2 ∧ (∀ pl ∈ s.terminal.buffer.tail, pl.answer = none) ∧
    (s.terminal.restartDue ≠ none → ∀ pl ∈ s.terminal.buffer, pl.answer = none) ∧
    s.terminal.frameErrors ≤ 65535 ∧ s.terminal.overruns ≤ 65535

/-- R183: a channel's capacity, and a dropped count above 0 goes with a queue that is not empty. -/
def ChannelOk (c : Channel) : Prop :=
  c.queue.length ≤ 16 ∧ c.dropped ≤ 255 ∧ (0 < c.dropped → c.queue ≠ [])

/-- R183 for the four channels. -/
def ChannelsOk (s : State) : Prop := ∀ c : Fin 4, ChannelOk s.channels[c]

/-- R191: a set clock lies in its range, not below the floor, at most ten minutes past it, and its computed day has been
announced. -/
def ClockOk (s : State) : Prop :=
  s.clock.floorAge ≤ 600 ∧
    ∀ t, s.clock.second = some t →
      t ≤ max32 ∧ s.clock.floor ≤ t ∧ t ≤ s.clock.floor + s.clock.floorAge ∧
        computedDay t s.settings.rolloverMinute ≤ s.clock.announcedDay

/-! ### Links -/

/-- R174, R175, R182: link 1 as it is kept, FREE records hold nothing, every other live link has a live creator that holds its
rights, and the owner link of a live case is not FREE. -/
def LinksOk (s : State) : Prop :=
  s.links[rootLink] = Link.root ∧
    (∀ l : LinkId, s.links[l].state = .free → s.links[l] = Link.freeRecord) ∧
    (∀ l : LinkId, l ≠ rootLink → s.links[l].state ≠ .free →
      ∃ c : LinkId, s.links[l].creator = some c ∧ s.links[c].state ≠ .free ∧
        rightsWithin s.links[l].rights s.links[c].rights = true) ∧
    ∀ c ∈ s.cases, s.links[c.owner].state ≠ .free

/-! ### Cases and hotlist -/

/-- The master entry of a live case (R101). -/
def entryOf (c : Case) : MasterEntry := ⟨c.snapshot.cardNo, c.number, c.generation⟩

/-- R16, R101, R102: the live cases in ascending number below the counter, no old card number twice, one master entry for each
live case in ascending card number, and room for every REMOVE. -/
def CaseTableOk (s : State) : Prop :=
  s.cases.Pairwise (fun a b => a.number < b.number) ∧
    s.cases.Pairwise (fun a b => a.snapshot.cardNo ≠ b.snapshot.cardNo) ∧
    (∀ c ∈ s.cases, 1 ≤ c.number ∧ c.number ≤ max32 ∧ ∀ n, s.nextCase = some n → c.number < n) ∧
    (∀ n, s.nextCase = some n → 1 ≤ n ∧ n ≤ max32) ∧
    s.cases.length ≤ 256 ∧
    s.hotlist.master.Pairwise (fun a b => a.cardNo < b.cardNo) ∧
    (∀ e ∈ s.hotlist.master, ∃ c ∈ s.cases, e = entryOf c) ∧
    (∀ c ∈ s.cases, entryOf c ∈ s.hotlist.master) ∧
    s.hotlist.pending.length + s.hotlist.master.length ≤ 512

/-- R18: the state, the new card and the settlement stand in one of the combinations of the table. -/
def CaseStateOk (c : Case) : Prop :=
  match c.state with
  | .watch => c.newCard = none ∧ c.settlement = none
  | .holding => c.newCard ≠ none ∧ c.settlement = none
  | .settled => c.settlement ≠ none

/-- R18 for every live case. -/
def CaseStatesOk (s : State) : Prop := ∀ c ∈ s.cases, CaseStateOk c

/-- R44, R45: at most 64 events of distinct counters in ascending order, each above S and at most Cmax; at most four conflict
entries; counts that saturate. -/
def ChainOk (c : Case) : Prop :=
  c.chain.Pairwise (fun a b => a.counter < b.counter) ∧ c.chain.length ≤ 64 ∧
    (∀ e ∈ c.chain, c.snapshot.counter < e.counter ∧ e.counter ≤ c.cmax) ∧ c.snapshot.counter ≤ c.cmax ∧
    c.conflicts.length ≤ 4 ∧ c.duplicates ≤ 255 ∧ c.overflows ≤ 255 ∧ c.conflictOverflow ≤ 255 ∧ c.attempts ≤ 255

/-- R44 for every live case. -/
def ChainsOk (s : State) : Prop := ∀ c ∈ s.cases, ChainOk c

/-- R105, R115: no add generation, case generation, reached generation or generation of an open batch passes the current
generation. -/
def GenerationsOk (s : State) : Prop :=
  (∀ e ∈ s.hotlist.master, ∀ g, e.addGen = some g → g ≤ s.hotlist.generation) ∧
    (∀ c ∈ s.cases, ∀ g, c.generation = some g → g ≤ s.hotlist.generation) ∧
    ∀ z : ZoneId, s.zones[z].reached ≤ s.hotlist.generation ∧
      ∀ b, s.zones[z].batch = some b → b.generation ≤ s.hotlist.generation

/-! ### Zones, ports, jobs, signing unit -/

/-- R115: the open batch is present exactly in OPEN_BATCH, its buffer holds at most 256 records, and the counts saturate. -/
def ZoneOk (r : Zone) : Prop :=
  (r.batch.isSome = true ↔ r.state = .openBatch) ∧ (∀ b, r.batch = some b → b.buffer.length ≤ 256) ∧
    r.counts.badSum ≤ 255 ∧ r.counts.gap ≤ 255 ∧ r.counts.unknownKind ≤ 255 ∧ r.counts.malformed ≤ 255

/-- R115 for the twelve zones. -/
def ZonesOk (s : State) : Prop := ∀ z : ZoneId, ZoneOk s.zones[z]

/-- R139: the settings within their ranges; a port out of service carries no job, has no command outstanding and no card. -/
def PortOk (r : PortRec) : Prop :=
  r.retryLimit ≤ 15 ∧ 1 ≤ r.fenceThreshold ∧ r.fenceThreshold ≤ 15 ∧ 50 ≤ r.timeout ∧ r.timeout ≤ 2000 ∧
    10 ≤ r.window ∧ r.window ≤ 600 ∧ r.timeouts ≤ 15 ∧
    (inService r = false → r.job = none ∧ r.outstanding = none ∧ r.card = none)

/-- R139 for the four ports. -/
def PortsOk (s : State) : Prop := ∀ p : Port, PortOk (s.port p)

/-- R31: a port's job and its case's job field name each other, and a case with a RECOVER job is not SETTLED. -/
def JobsOk (s : State) : Prop :=
  (∀ p j, (s.port p).job = some j →
    ∃ c ∈ s.cases, c.number = j.caseNo ∧ c.job = some (jobName j.kind, p) ∧ (j.kind = .recover → c.state ≠ .settled)) ∧
  ∀ c ∈ s.cases, ∀ k p, c.job = some (k, p) →
    ∃ j, (s.port p).job = some j ∧ j.caseNo = c.number ∧ jobName j.kind = k

/-- R165: a free signing unit has an empty waiting set. -/
def SigningOk (s : State) : Prop := s.signing.grantee = none → s.signing.waiting = {}

/-! ### Effects the statements name -/

/-- What one card event does to the record of its case: the arrival by its class, blocked seen, and the review reason of a case in
WATCH or HOLDING or the adjustment of a SETTLED one (R46 to R52, R56, R61). -/
def eventTaken (e : CardEvent) (c : Case) : Case :=
  let k := classify c e
  let d := seeBlocked k e (takeArrival k e c)
  if c.state = .settled then
    match c.settlement, k with
    | some f, .inserted => { d with adjustment := d.adjustment + adjustmentDelta d f e }
    | _, _ => d
  else
    match k with
    | .conflict => { d with review := { d.review with conflict := true } }
    | .overflow => { d with review := { d.review with chainFull := true } }
    | _ => d

/-- What a depot record does to a case: it is taken when the master list leads its card number to the case (R132). -/
def handedTo (h : Hotlist) (e : CardEvent) (c : Case) : Case :=
  if masterCase e.cardNo h = some c.number then eventTaken e c else c

/-- A report on the channel of a case's owner link, with the link and its station code (R182). -/
def toOwner (s : State) (c : Case) (body : ReportBody) : Fin 4 × Report :=
  (s.links[c.owner].channel, ⟨some c.owner, s.links[c.owner].station, body⟩)

/-- The CASE REVIEW report of a reason that joined the review, with the figures of the case after the change (R39). -/
def reasonAdded (reason : Reason) (d : Case) : ReportBody :=
  .caseReview d.number (some reason) d.review (gapCount d) d.cmax d.chain.length d.conflicts.length d.conflictOverflow
    d.overflows d.duplicates

/-- The report of one card event that its case takes: CASE REVIEW when CONFLICT or CHAIN_FULL newly joins the review of a case in
WATCH or HOLDING, ADJUSTMENT when the event is inserted into a SETTLED one (R39, R52, R56, R84). -/
def arrivalReport (e : CardEvent) (c : Case) : Option ReportBody :=
  let d := eventTaken e c
  match classify c e with
  | .conflict => if c.state ≠ .settled ∧ c.review.conflict = false then some (reasonAdded .conflict d) else none
  | .overflow => if c.state ≠ .settled ∧ c.review.chainFull = false then some (reasonAdded .chainFull d) else none
  | .inserted =>
    if c.state = .settled then
      c.settlement.map fun f => .adjustment c.number e (placeOf f e) (adjustmentDelta c f e) d.adjustment f.cmax
    else none
  | .stale | .duplicate => none

/-- The reports of some events that one case takes in order (R20, R46). -/
def arrivalReports (s : State) : List CardEvent → Case → List (Fin 4 × Report)
  | [], _ => []
  | e :: rest, c => ((arrivalReport e c).map (toOwner s c)).toList ++ arrivalReports s rest (eventTaken e c)

/-- The reports of some depot records, each taken in order by the case that the master list names for its card (R132). -/
def feedReports (s : State) : List CardEvent → List Case → List (Fin 4 × Report)
  | [], _ => []
  | e :: rest, cases =>
    (cases.filterMap fun c =>
      if masterCase e.cardNo s.hotlist = some c.number then (arrivalReport e c).map (toOwner s c) else none) ++
      feedReports s rest (cases.map (handedTo s.hotlist e))

/-- The hotlist unit after its automatic trigger was tested (R107, R106). -/
def cutIfDue (threshold : Nat) (h : Hotlist) : Hotlist :=
  if h.packaging = .idle ∧ threshold ≤ h.pending.length ∧ h.pending ≠ [] ∧ h.generation < max32 then
    { h with pending := markTaken 64 h.pending, packaging := .packaging }
  else h

/-- A port record with a job that CASE ISSUE or CASE RECOVER creates: with a card in the field its header is read at once
(R144, R145). -/
def jobStarted (j : Job) (clock : Option Nat) (r : PortRec) : PortRec :=
  match r.card with
  | none => { r with job := some j }
  | some _ => { r with job := some { j with phase := .check }, outstanding := some ⟨.read 0, clock, r.timeout⟩ }

/-- The signing unit after a request of the hotlist or statement member, whose grant would begin with computation `c`
(R166, R170, R171). -/
def asked (m : Member) (c : Option Computation) (u : Signing) : Signing :=
  if u.grantee = none then { takeGrant m u with computation := c }
  else { u with waiting := setWaiting m true u.waiting }

/-- The clock after a change of the store that alters a case (R191). -/
def stamped (c : Clock) : Clock :=
  match c.second with
  | none => c
  | some t => { c with floor := t, floorAge := 0 }

/-- A channel after a report was queued on it, in the list of the four (R183). -/
def withReport (ch : Fin 4) (r : Report) (v : Vector Channel 4) : Vector Channel 4 := v.set ch (pushReport r v[ch])

/-- The channels after some reports were queued, one after another (R183). -/
def withReports (l : List (Fin 4 × Report)) (v : Vector Channel 4) : Vector Channel 4 :=
  l.foldl (fun v x => withReport x.1 x.2 v) v

/-- The signing unit after some cases settled: their numbers join the statement queue in order, and the statement member asks unless
it waits or holds the grant; `c` is the computation of a grant at a free unit (R22, R171). -/
def statementsQueued (numbers : List Nat) (c : Option Computation) (u : Signing) : Signing :=
  let queued := { u with queue := u.queue ++ numbers }
  if numbers = [] ∨ u.waiting.statement = true ∨ u.grantee = some .statement then queued
  else asked .statement c queued

/-! ### The signing unit's pick and releases (R167, R168) -/

/-- The place of a member in the first-level ring A, B, C, D, G (R167). -/
def ringPlace : Member → Nat
  | .port .A => 0 | .port .B => 1 | .port .C => 2 | .port .D => 3
  | .hotlist | .statement => 4

/-- The place of a member of group G in the group ring hotlist, statement (R167). -/
def groupRingPlace : Member → Nat
  | .statement => 1
  | .hotlist | .port _ => 0

/-- The place of the last first-level grantee. -/
def lastRingPlace : FirstPlace → Nat
  | .port p => ringPlace (.port p)
  | .group => 4

/-- The place of the last group grantee. -/
def lastGroupPlace : GroupPlace → Nat
  | .hotlist => 0
  | .statement => 1

/-- How many places after the one right behind the last first-level grantee a member stands; under FIXED the ring starts at port A
(R167, R168). -/
def firstSteps (mode : ArbMode) (u : Signing) (m : Member) : Nat :=
  match mode with
  | .rotating => (ringPlace m + 4 - lastRingPlace u.lastFirst) % 5
  | .fixed => ringPlace m

/-- The same inside group G; under FIXED the hotlist comes first (R167, R168). -/
def groupSteps (mode : ArbMode) (u : Signing) (m : Member) : Nat :=
  match mode with
  | .rotating => (groupRingPlace m + 1 - lastGroupPlace u.lastGroup) % 2
  | .fixed => groupRingPlace m

/-- The member that a release grants: it waits, no waiting member stands before it in the first-level ring, and none of its place
before it in the group ring (R167, R168). -/
def IsNext (mode : ArbMode) (u : Signing) (m : Member) : Prop :=
  isWaiting u.waiting m = true ∧
    ∀ x, isWaiting u.waiting x = true →
      firstSteps mode u m ≤ firstSteps mode u x ∧
        (ringPlace x = ringPlace m → groupSteps mode u m ≤ groupSteps mode u x)

/-- `t` is `s` with its grant released: the unit is free when nobody waits, else the next member is granted (R167). -/
def Released (s t : State) : Prop :=
  let u := { s.signing with grantee := none, context := none, computation := none }
  (s.signing.waiting = {} → t = { s with signing := u }) ∧
    ∀ m, IsNext s.settings.mode s.signing m → t = grant m { s with signing := u }

/-- `t` is `s` after a port gave up its hold on the signing unit: it releases the grant it holds, or its request is withdrawn
(R158, R151, R172). -/
def GivesUp (p : Port) (s t : State) : Prop :=
  (s.signing.grantee = some (.port p) → Released s t) ∧
    (s.signing.grantee ≠ some (.port p) →
      t = { s with signing := { s.signing with waiting := setWaiting (.port p) false s.signing.waiting } })

/-- `t` is `s` after port `p` entered WRITE or MARK with job `k` and made its request: at a free unit it is granted, the context is
loaded with the target serial and its command `first` goes out, else it waits (R146, R152, R154, R166, R169). -/
def AsksForGrant (p : Port) (k : Job) (first : Command) (s t : State) : Prop :=
  (s.signing.grantee ≠ none →
    t = { s with
      ports := s.ports.set p { s.port p with job := some k }
      signing := { s.signing with waiting := setWaiting (.port p) true s.signing.waiting } }) ∧
    (s.signing.grantee = none →
      t = { s with
        ports := s.ports.set p
          { s.port p with
            job := some { k with grantCount := 0 }
            outstanding := some ⟨first, s.clock.second, (s.port p).timeout⟩ }
        signing := { takeGrant (.port p) s.signing with context := k.target } })

/-- The WRITE of a job's next segment from the figures `fig`, with the write code for a serial (R147, R169). -/
def writeOf (serial : Serial) (k : Job) (fig : IssueFigures) : Command :=
  let content := issueContent k.caseNo fig k.nextSegment
  .write k.nextSegment content (Config.writeCode serial k.nextSegment content)

/-- The MARK of a RECOVER job that read the contents `read`: the block mark holds the card counter read (R155, R169). -/
def markOfContents (serial : Serial) (read : ReadContents) : Command :=
  .mark (Config.writeCode serial 15 (read.purse.map fun b => .blockMark b.2))

/-! ### The ends of a job (R158 to R160, R31 to R35) -/

/-- The ISSUE DONE or RECOVER DONE report of a job that ends without success (R159, R160). -/
def failureReport (p : Port) (o : JobOutcome) (j : Job) (c : Case) : ReportBody :=
  match j.kind with
  | .issue target =>
    .issueDone j.caseNo p o target j.target j.nextSegment c.attempts (if j.target.isSome then c.issue else none) none
  | .recover => .recoverDone j.caseNo p o j.target none none

/-- Nothing waits for the end of the case's job: no settle due mark, and no retention that was reached (R35, R37). -/
def NothingDue (c : Case) (s : State) : Prop :=
  c.settleDue = none ∧
    ∀ f, c.state = .settled → c.settlement = some f → s.clock.second ≠ none →
      f.day + s.settings.retentionDays ≤ s.clock.announcedDay → f.statementPending = true

/-- `t` is `s` after the job `j` of case `c` on port `p` ended without success, before a settle due mark is taken: the hold on the
signing unit is given up, port and case lose the job, and its report is queued on the channel of the case's owner (R158, R33). -/
def JobFails (p : Port) (o : JobOutcome) (j : Job) (c : Case) (s t : State) : Prop :=
  ∃ u, GivesUp p s u ∧
    t = { u with
      ports := u.ports.set p { u.port p with job := none, outstanding := none }
      cases := s.cases.map fun d => if d.number = c.number then { d with job := none } else d
      channels := withReport s.links[c.owner].channel
        ⟨some c.owner, s.links[c.owner].station, failureReport p o j c⟩ s.channels }

/-- A case without its settle due mark, which is cleared before it is taken (R35). -/
def unmarked (n : Nat) (s : State) : State :=
  { s with cases := s.cases.map fun d => if d.number = n then { d with settleDue := none } else d }

/-- `t` is `s` after the ISSUE job `j` for family `target` activated a card with the figures `fig`: as a failed job, with the
figures in the report, and the case takes the new card; from WATCH it goes to HOLDING, in SETTLED its residue becomes present
(R158, R159, R32). -/
def JobIssues (p : Port) (o : JobOutcome) (target : Family) (j : Job) (c : Case) (fig : IssueFigures) (s t : State) : Prop :=
  ∃ u, GivesUp p s u ∧
    t = { u with
      ports := u.ports.set p { u.port p with job := none, outstanding := none }
      cases := s.cases.map fun d =>
        if d.number = c.number then
          { c with
            job := none, newCard := some ⟨fig.serial, fig.family⟩
            state := if c.state = .watch then .holding else c.state
            settlement :=
              if c.state = .settled then c.settlement.map fun f => { f with residue := some (lateResidue f fig) }
              else c.settlement }
        else d
      channels := withReport s.links[c.owner].channel
        ⟨some c.owner, s.links[c.owner].station,
          .issueDone j.caseNo p o target j.target j.nextSegment c.attempts (if j.target.isSome then some fig else none)
            (if c.state = .settled then c.settlement.map fun f => lateResidue f fig else none)⟩ s.channels
      clock := stamped s.clock }

/-- `t` is `s` after the RECOVER job `j` ended with its reads complete: as a failed job, with the contents read and the mark status
in the report, the case settles FROM_CARD, and its number joins the statement queue, for which the statement member asks unless it
waits or holds the grant (R158, R160, R34, R80, R171). -/
def JobRecovers (p : Port) (o : JobOutcome) (mark : MarkStatus) (j : Job) (c : Case) (read : ReadContents) (s t : State) : Prop :=
  ∃ u x, GivesUp p s u ∧
    let queued := { u.signing with queue := u.signing.queue ++ [c.number] }
    t = { u with
      ports := u.ports.set p { u.port p with job := none, outstanding := none }
      cases := s.cases.map fun d =>
        if d.number = c.number then
          { d with
            job := none, settlement := some (cardSettlement read s.clock.announcedDay { d with job := none })
            state := .settled, review := ⟨false, false, false⟩, settleDue := none }
        else d
      channels := withReport s.links[c.owner].channel
        ⟨some c.owner, s.links[c.owner].station, .recoverDone j.caseNo p o j.target (some read) (some mark)⟩ s.channels
      signing :=
        if u.signing.waiting.statement = true ∨ u.signing.grantee = some .statement then queued
        else asked .statement x queued
      clock := stamped s.clock }

/-! ### Triggers and feeds -/

/-- What an automatic trigger makes of a case in WATCH or HOLDING; `closed` says that every configured zone is closed for it
(R26). -/
def autoTriggered (closed : Bool) (s : State) (c : Case) : Case :=
  if s.clock.second = none then c
  else if c.job ≠ none then
    { c with settleDue := some (if c.settleDue = some .forced then .forced else .automatic) }
  else if c.review ≠ ⟨false, false, false⟩ then c
  else if 64 < gapCount c then { c with review := { c.review with gapImplausible := true } }
  else
    settledCase (chainSettlement (if closed = true ∧ gapCount c = 0 then .exact else .presumed) s.clock.announcedDay c) c

/-- The report of an automatic trigger: CASE REVIEW when it finds more than 64 gaps in a case that nothing else keeps from settling
(R26 step 4, R39). -/
def triggerReport (s : State) (c : Case) : Option (Fin 4 × Report) :=
  if s.clock.second ≠ none ∧ c.job = none ∧ c.review = ⟨false, false, false⟩ ∧ 64 < gapCount c then
    some (toOwner s c (reasonAdded .gapImplausible { c with review := { c.review with gapImplausible := true } }))
  else none

/-- `t` is `u` after trigger (a) reached the cases `tested`, in case order, of a command taken in state `s`: each becomes what the
trigger makes of it, the reports of GAP_IMPLAUSIBLE follow those queued before, and the numbers of the cases that settle join the
statement queue (R24, R26, R22); a free signing unit starts with the statement of the first of them. -/
def TriggerReaches (tested : Case → Bool) (s u t : State) : Prop :=
  let settling := u.cases.filter fun c => tested c && decide ((autoTriggered true s c).state = .settled)
  let cases := u.cases.map fun c => if tested c = true then autoTriggered true s c else c
  ∃ x,
    (∀ c rest, s.signing.queue = [] → settling = c :: rest →
      x = (autoTriggered true s c).settlement.map fun f => .statement (statementInputs (autoTriggered true s c) f)) ∧
    t = { u with
      cases := cases
      channels := withReports ((u.cases.filter tested).filterMap (triggerReport s)) u.channels
      signing := statementsQueued (settling.map fun c => c.number) x s.signing }

/-- The state with one error count of a zone's record raised; at the zone's threshold an open batch is discarded and the zone goes to
HUNT with a ZONE EVENT report (R135, R137). -/
def faultCounted (count : ErrorCount) (z : ZoneId) (record : Zone) (s : State) : State :=
  let raised := { record with counts := raiseCount count record.counts }
  if record.threshold ≤ getCount count raised.counts then
    { s with
      zones := s.zones.set z { raised with state := .hunt, batch := none }
      channels := withReport 0
        ⟨none, 0, .zoneEvent z (some count) .hunt raised.counts raised.threshold raised.expected raised.reached
          raised.lastCommit raised.dormant (s.clock.second.map fun _ => s.clock.announcedDay)⟩ s.channels }
  else { s with zones := s.zones.set z raised }

/-- What a header finds at step 3 of its checks: an open batch has been discarded and counted malformed (R126 step 2). -/
def headerReady (z : ZoneId) (s : State) : State :=
  if s.zones[z].state = .openBatch then faultCounted .malformed z { s.zones[z] with state := .hunt, batch := none } s else s

/-- The error counts after some records of a batch, each void one raising its count (R129). -/
def countsAfter (records : List (List Byte)) (n : ErrorCounts) : ErrorCounts :=
  ((records.map recordMark).filterMap fun m => m.2).foldl (fun n c => raiseCount c n) n

/-- A zone's record after some records joined its open batch: each stands in the buffer, a void one with its bytes, the bytes count
in the running body sum, and the void ones raise their counts (R129). -/
def recordsJoined (records : List (List Byte)) (o : OpenBatch) (record : Zone) : Zone :=
  { record with
    counts := countsAfter records record.counts
    batch := some { o with
      buffer := o.buffer ++ (records.map recordMark).map fun m => m.1
      bodySum := (o.bodySum + (records.flatten.map fun b => b.toNat).sum) % 65536 } }

/-- No void record among these brings its count to the zone's threshold (R129, R135). -/
def BelowThreshold (records : List (List Byte)) (record : Zone) : Prop :=
  ∀ c, some c ∈ (records.map recordMark).map (fun m => m.2) →
    getCount c (countsAfter records record.counts) < record.threshold

end Sys2Proof.Machine
end

