-- ==== Sys2Proof/Certificates/Slice0/Obligations.lean ====
section
/-! DEFINITION. The statements for the provers, from the spec's numbered rules: the step, the invariants that every step keeps, the
rules over all commands, and what each command does from which state it completes. A request's effect is stated as the state it
leaves beside its answer (`Completes`); that a command takes the frame which is next is log entry 4, and that the answer takes the
overrun flag, and clears it, at the step that forms it is log entry 7. Wherever a grant follows (`grant`, `Released`, `AsksForGrant`),
the code that its WRITE or MARK carries is that of log entry 1. Wherever a request's fields are read from its body, the order of
fields given in prose is that of log entry 29, and the codes of names without one in section 11.4 are those of log entry 16. -/

open Sys2Proof Sys2Proof.Machine

/-! ### The step and the reset state -/

/-- The step takes the command at the front of the queue and executes it with the queue's rest; on an empty queue the block idles
(log entry 6). -/
def Obligations.StepTakesTheFrontCommand : Prop :=
  (∀ (s : State) (c : Instr) (rest : List Instr), s.pending = c :: rest → step s = exec c { s with pending := rest }) ∧
    ∀ s : State, s.pending = [] → step s = .next s

/-- The reset state holds the values that the spec gives the erased part after power-on; that reset starts from an erased store is
the model's choice (log entry 3). -/
def Obligations.ResetIsTheErasedPartAfterPowerOn : Prop :=
  State.reset.links[rootLink] = ⟨.active, ⟨true, true, true, true, true⟩, 0, none, none, 0⟩ ∧
    (∀ l : LinkId, l ≠ rootLink → State.reset.links[l] = ⟨.free, ⟨false, false, false, false, false⟩, 0, none, none, 0⟩) ∧
    State.reset.cases = [] ∧ State.reset.nextCase = some 1 ∧
    (∀ k : Fin 16, State.reset.concession[k] = ⟨1500, 2, 5, 300, 1⟩) ∧
    State.reset.hotlist = ⟨[], [], 0, .idle⟩ ∧
    (∀ z : ZoneId, State.reset.zones[z].state = .unused ∧ State.reset.zones[z].expected = none ∧
      State.reset.zones[z].reached = 0 ∧ State.reset.zones[z].batch = none) ∧
    (∀ p : Port, State.reset.port p =
      ⟨true, .burst, 3, 5, 250, 120, false, 0, none, some ⟨.sense, none, 250⟩, none⟩) ∧
    State.reset.signing = ⟨none, ⟨false, false, false, false, false, false⟩, .group, .statement, none, none, []⟩ ∧
    State.reset.clock.second = none ∧ State.reset.clock.floor = 0 ∧ State.reset.clock.announcedDay = 0 ∧
    State.reset.settings = ⟨180, 16, 90, .rotating⟩ ∧ State.reset.terminal = ⟨[], false, 0, 0, none⟩ ∧
    State.reset.channels[(0 : Fin 4)] = ⟨[⟨none, 0, .restarted .powerOn none⟩], 0⟩ ∧
    ∀ c : Fin 4, c ≠ 0 → State.reset.channels[c] = ⟨[], 0⟩

/-- The reset state meets every invariant below. -/
def Obligations.ResetMeetsTheInvariants : Prop :=
  TerminalOk State.reset ∧ ChannelsOk State.reset ∧ ClockOk State.reset ∧ LinksOk State.reset ∧
    CaseTableOk State.reset ∧ CaseStatesOk State.reset ∧ ChainsOk State.reset ∧ GenerationsOk State.reset ∧
    ZonesOk State.reset ∧ PortsOk State.reset ∧ JobsOk State.reset ∧ SigningOk State.reset

/-- Every command of the table has a next state, in every state, and leaves the queue to the step: rows that cannot arise and rows
that are not next leave the state (log entries 5 and 4). -/
def Obligations.CommandsNeverStop : Prop := ∀ (c : Instr) (s : State), ∃ t, exec c s = .next t ∧ t.pending = s.pending

/-! ### Invariants -/

/-- R187, R186, R196, R183: the receive buffer holds two places at most and answers at its head alone; a report channel holds at most
16 reports, and no dropped count stands on an empty queue; every count keeps within its maximum. -/
def Obligations.TerminalAndChannelsStaySound : Prop :=
  ∀ s t : State, TerminalOk s → ChannelsOk s → step s = .next t → TerminalOk t ∧ ChannelsOk t

/-- R191: the set clock stays in its range, not below the floor and at most ten minutes past it, and no computed day passes the
announced day unannounced; the ten minutes are counted as log entry 8 has it. -/
def Obligations.ClockStaysSound : Prop := ∀ s t : State, ClockOk s → step s = .next t → ClockOk t

/-- R174, R175, R177, R180, R182: link 1 stays as it is, FREE records hold nothing, the creators of live links live and hold their
rights, and the owner of a live case is no FREE link. -/
def Obligations.LinksStaySound : Prop := ∀ s t : State, LinksOk s → step s = .next t → LinksOk t

/-- R16, R101, R102: the case table, the master list and the pending change list stay matched and within their bounds. -/
def Obligations.CaseTableStaysSound : Prop := ∀ s t : State, CaseTableOk s → step s = .next t → CaseTableOk t

/-- R18, R44, R45: the state, the new card and the settlement of every case stand in one of the combinations of the table, and every
chain stays in strictly ascending counter order between S and Cmax, within its bounds. -/
def Obligations.CaseRecordsStaySound : Prop :=
  ∀ s t : State, CaseTableOk s → CaseStatesOk s → ChainsOk s → step s = .next t → CaseStatesOk t ∧ ChainsOk t

/-- R105, R115, R126: no stored generation passes the current generation. -/
def Obligations.GenerationsStayBounded : Prop := ∀ s t : State, GenerationsOk s → step s = .next t → GenerationsOk t

/-- R115, R116, R130: a batch is open exactly in OPEN_BATCH and holds at most 256 records, and the error counts saturate. -/
def Obligations.ZonesStaySound : Prop := ∀ s t : State, ZonesOk s → step s = .next t → ZonesOk t

/-- R139: the port settings stay in their ranges, and a port out of service has no job, no command outstanding and no card. -/
def Obligations.PortsStaySound : Prop := ∀ s t : State, PortsOk s → step s = .next t → PortsOk t

/-- R31: a port's job and its case's job field name each other, and no RECOVER job belongs to a SETTLED case. -/
def Obligations.JobsStayMatched : Prop :=
  ∀ s t : State, CaseTableOk s → JobsOk s → step s = .next t → JobsOk t

/-- R166: a signing unit without a grantee keeps nobody waiting. -/
def Obligations.SigningStaysSound : Prop := ∀ s t : State, SigningOk s → step s = .next t → SigningOk t

/-! ### Rules over all commands -/

/-- R191: the set clock never falls, and becomes unset only by power-on, NRST or the restart of a DEVICE ERASE; but for that erase,
the floor and the announced day never fall, and a command after which the stored part of the case table differs leaves the floor
of a set clock at its second. -/
def Obligations.ClockAndFloorNeverFall : Prop :=
  ∀ (c : Instr) (s t : State), ClockOk s → exec c s = .next t →
    (∀ a b, s.clock.second = some a → t.clock.second = some b → a ≤ b) ∧
    (s.clock.second.isSome = true → t.clock.second = none →
      c = .powerOn ∨ c = .nrstRelease ∨ (c = .restart ∧ s.terminal.restartDue ≠ some .deviceReset)) ∧
    ((c = .restart ∧ s.terminal.restartDue = some .deviceErase) ∨
      (s.clock.floor ≤ t.clock.floor ∧ s.clock.announcedDay ≤ t.clock.announcedDay)) ∧
    ∀ now, t.clock.second = some now → s.cases.map storedCase ≠ t.cases.map storedCase →
      t.clock.floor = now ∧ t.clock.floorAge = 0

/-- R105, R16: but for the restart of a DEVICE ERASE, the generation rises by one at the completion of a package and at nothing else,
and the case counter moves to its next number at a CASE OPEN and at nothing else. -/
def Obligations.CountersOnlyRise : Prop :=
  ∀ (c : Instr) (s t : State), exec c s = .next t → ¬ (c = .restart ∧ s.terminal.restartDue = some .deviceErase) →
    (t.hotlist.generation = s.hotlist.generation ∨
      (c = .hotlistGrantCompletion ∧ t.hotlist.generation = s.hotlist.generation + 1)) ∧
    (t.nextCase = s.nextCase ∨
      ∃ r n, c = .caseOpen r ∧ s.nextCase = some n ∧ t.nextCase = if n < 4294967295 then some (n + 1) else none)

/-- R31: a case keeps its state while its job is present. -/
def Obligations.AJobKeepsTheState : Prop :=
  ∀ (i : Instr) (s t : State), CaseTableOk s → exec i s = .next t →
    ∀ c ∈ s.cases, c.job ≠ none → ∀ d ∈ t.cases, d.number = c.number → d.job ≠ none → d.state = c.state

/-- R22, R32, R56: the figures of a settlement never change once stored, but for the residue that an issue after settlement makes
present, the code and the pending mark. -/
def Obligations.SettledFiguresStayFixed : Prop :=
  ∀ (i : Instr) (s t : State), CaseTableOk s → JobsOk s → exec i s = .next t →
    ∀ c ∈ s.cases, ∀ f, c.state = .settled → c.settlement = some f →
      ∀ d ∈ t.cases, d.number = c.number → d.state = .settled ∧
        ∃ g, d.settlement = some g ∧
          { g with residue := f.residue, statementPending := f.statementPending, code := f.code } = f

/-- R187, R188: a request that is next gets exactly one answer, with its link, kind and tag, the overrun flag as it stood, which it
clears at this step (log entry 7), and ATTN as it stands when the answer is formed; a frame that is not next leaves the state as it
is (log entry 4). -/
def Obligations.EveryRequestGetsOneAnswer : Prop :=
  ∀ (k : Kind) (r : Request) (s : State),
    (behindFrame (r.frame (kindByte k)) s.terminal = none → exec (requestCommand k r) s = .next s) ∧
    ∀ rest, behindFrame (r.frame (kindByte k)) s.terminal = some rest →
      ∃ t reply, exec (requestCommand k r) s = .next t ∧
        t.terminal =
          { s.terminal with
            buffer :=
              ⟨⟨r.link, kindByte k, r.tag, r.flags, r.body⟩,
                some ⟨r.link, kindByte k, r.tag, s.terminal.overrunFlag, attn t, reply⟩⟩ :: rest
            overrunFlag := false }

/-- R188, R176: the frame checks and the link checks in their order; a request they refuse changes no state but for its answer. -/
def Obligations.FrameAndLinkChecksDecideInOrder : Prop :=
  (∀ (kind : Byte) (r : Request) (rest : List BufferPlace) (s : State), (kind = 0 ∨ 40 < kind.toNat) →
    behindFrame (r.frame kind) s.terminal = some rest →
    exec (.unknownKind kind r) s = .next
      { s with
        terminal :=
          { s.terminal with
            buffer := ⟨r.frame kind,
              some ⟨r.link, kind, r.tag, s.terminal.overrunFlag, attn s, ⟨.unknownKind, .none⟩⟩⟩ :: rest
            overrunFlag := false } }) ∧
  ∀ (k : Kind) (r : Request) (rest : List BufferPlace) (s : State),
    behindFrame (r.frame (kindByte k)) s.terminal = some rest →
    (bodyLengthOk k r.body = false → Completes k r rest s s ⟨.frameLength, .none⟩) ∧
    (bodyLengthOk k r.body = true → r.flags ≠ 0 → Completes k r rest s s ⟨.badField, .none⟩) ∧
    (bodyLengthOk k r.body = true → r.flags = 0 →
      (linkOf r.link.toNat = none → Completes k r rest s s ⟨.noLink, .none⟩) ∧
      ∀ l, linkOf r.link.toNat = some l →
        (s.links[l].state = .free → Completes k r rest s s ⟨.noLink, .none⟩) ∧
        (s.links[l].state = .suspended → Completes k r rest s s ⟨.linkSuspended, .none⟩) ∧
        (s.links[l].state = .active → hasRight k s.links[l].rights = false →
          Completes k r rest s s ⟨.noRight, .none⟩))

/-- R188 and the rules of the requests: a request that is not answered DONE leaves everything but the terminal port as it was; the
three feed requests count their faults in the zone record and are not meant here (R126, R129, R131). -/
def Obligations.RefusalsChangeNothing : Prop :=
  ∀ (k : Kind) (r : Request) (s t : State) (f : Frame) (a : Answer) (rest : List BufferPlace),
    k ≠ .batchHeader → k ≠ .batchRecords → k ≠ .batchEnd →
    behindFrame (r.frame (kindByte k)) s.terminal = some rest →
    exec (requestCommand k r) s = .next t → t.terminal.buffer = ⟨f, some a⟩ :: rest → a.reply.status ≠ .done →
    t = { s with terminal := t.terminal }

/-! ### Case requests -/

/-- R20, R103, R46: a CASE OPEN that passes R19 builds the case in WATCH, hands its events to it, adds its card to the hotlist and
tests the automatic cut, whose start asks the signing unit; a review reason that an opening event newly adds is reported on the owner's
channel (R52). The body's fields stand in the order of the rule's prose by the model's choice (log entry 29). -/
def Obligations.CaseOpenBuildsTheCase : Prop :=
  ∀ (r : Request) (l : LinkId) (rest : List BufferPlace) (s : State) (now n : Nat) (o : OpenBody),
    Reaches .caseOpen r l rest s → CaseTableOk s → s.clock.second = some now →
    readOpen s.clock.announcedDay r.body = some o → snapshotFits o.snapshot = true → o.snapshot.check = o.sum →
    (∀ c ∈ s.cases, c.snapshot.cardNo ≠ o.snapshot.cardNo) → s.cases.length < 256 → s.nextCase = some n →
    s.hotlist.pending.length + s.hotlist.master.length ≤ 510 →
    let today := s.clock.announcedDay
    let cls := concessionClass today o.snapshot.products
    let terms := termsOf cls s
    let opened : Case :=
      ⟨n, l, .watch, today, cls, terms, today + terms.quietDays, o.snapshot, [], o.snapshot.counter, 0, 0, [], 0, none, 0,
        ⟨false, false, false⟩, none, none, none, none, 0, none, 0, false⟩
    let done := o.events.foldl (fun c e => eventTaken e c) opened
    ∃ t : State,
      Completes .caseOpen r rest s t ⟨.done, .caseOpened n cls (today + terms.quietDays)⟩ ∧
      t.cases = s.cases ++ [done] ∧ (t.nextCase = if n < 4294967295 then some (n + 1) else none) ∧
      t.hotlist = cutIfDue s.settings.autoCut
        { s.hotlist with
          master := insertMaster ⟨o.snapshot.cardNo, n, none⟩ s.hotlist.master
          pending := s.hotlist.pending ++ [⟨.add, o.snapshot.cardNo, n, false⟩] } ∧
      t.channels = withReports (arrivalReports s o.events opened) s.channels ∧
      (t.signing =
        if s.hotlist.packaging = .idle ∧ t.hotlist.packaging = .packaging then
          asked .hotlist
            (some (.package ⟨t.hotlist.pending.filter fun c => c.taken, s.hotlist.generation + 1⟩)) s.signing
        else s.signing) ∧
      t = { s with
        cases := t.cases, nextCase := t.nextCase, hotlist := t.hotlist, channels := t.channels, signing := t.signing
        clock := { s.clock with floor := now, floorAge := 0 } }

/-- R29, R30, R144: an accepted CASE ISSUE or CASE RECOVER records the job in the case and on the port, which reads the header of a
card already present; CASE ISSUE alone counts an attempt. The body's fields stand in the order of the rule's prose by the model's
choice (log entry 29). -/
def Obligations.JobRequestsStartAJob : Prop :=
  ∀ (r : Request) (l : LinkId) (rest : List BufferPlace) (s : State) (c : Case) (p : Port) (now : Nat),
    s.findCase (fieldAt 0 4 r.body) = some c → portOf (fieldAt 4 1 r.body) = some p → s.clock.second = some now →
    (c.owner = l ∨ s.links[l].rights.approve = true) → c.job = none → (s.port p).enabled = true →
    (s.port p).fenced = false → (s.port p).job = none →
    (∀ target : Family, Reaches .caseIssue r l rest s → familyOf (fieldAt 5 1 r.body) = some target →
      target ≠ .narrow → (c.state = .watch ∨ (c.state = .settled ∧ c.newCard = none)) →
      Completes .caseIssue r rest s
        (stampFloor s { s with
          cases := s.cases.map fun d =>
            if d.number = c.number then
              { d with job := some (.issue, p), attempts := min 255 (d.attempts + 1) }
            else d
          ports := s.ports.set p
            (jobStarted ⟨.issue target, c.number, .waitingCard, .first, none, 0, 0, 0, false, none, none, []⟩ (some now)
              (s.port p)) })
        ⟨.done, .none⟩) ∧
    (Reaches .caseRecover r l rest s → (c.state = .watch ∨ c.state = .holding) →
      Completes .caseRecover r rest s
        { s with
          cases := s.cases.map fun d => if d.number = c.number then { d with job := some (.recover, p) } else d
          ports := s.ports.set p
            (jobStarted ⟨.recover, c.number, .waitingCard, .first, none, 0, 0, 0, false, none, none, []⟩ (some now)
              (s.port p)) }
        ⟨.done, .none⟩)

/-- R36, R38, R104: an accepted CASE CANCEL frees the slot, reports CASE CLOSED on the owner's channel, and withdraws the card from
the hotlist: an untaken ADD is deleted, else a REMOVE is appended and the automatic cut tested, whose start asks the signing unit. -/
def Obligations.CaseCancelEndsTheCase : Prop :=
  ∀ (r : Request) (l : LinkId) (rest : List BufferPlace) (s : State) (c : Case),
    Reaches .caseCancel r l rest s → s.findCase (fieldAt 0 4 r.body) = some c →
    (c.owner = l ∨ s.links[l].rights.approve = true) → c.job = none →
    ((c.state = .watch ∧ c.blockedSeen = false) ∨
      (c.state = .settled ∧ c.newCard = none ∧ statementPending c = false)) →
    let master := s.hotlist.master.filter fun e => e.caseNo ≠ c.number
    ∃ t : State, Completes .caseCancel r rest s t ⟨.done, .none⟩ ∧
      t.cases = s.cases.filter (fun d => d.number ≠ c.number) ∧
      t.channels = withReport s.links[c.owner].channel
        ⟨some c.owner, s.links[c.owner].station,
          .caseClosed c.number true c.snapshot.cardNo c.state (dayOf s) (c.newCard.map fun k => k.serial)
            (c.settlement.map fun f => f.kind) c.adjustment (unclaimedValue c)⟩ s.channels ∧
      ((∃ x ∈ s.hotlist.pending, x.kind = .add ∧ x.caseNo = c.number ∧ x.taken = false) →
        t.hotlist = { s.hotlist with
          master := master, pending := s.hotlist.pending.eraseP (untakenAdd c.number) } ∧ t.signing = s.signing) ∧
      ((∀ x ∈ s.hotlist.pending, ¬ (x.kind = .add ∧ x.caseNo = c.number ∧ x.taken = false)) →
        t.hotlist = cutIfDue s.settings.autoCut { s.hotlist with
          master := master, pending := s.hotlist.pending ++ [⟨.remove, c.snapshot.cardNo, c.number, false⟩] } ∧
        t.signing =
          if s.hotlist.packaging = .idle ∧ t.hotlist.packaging = .packaging then
            asked .hotlist
              (some (.package ⟨t.hotlist.pending.filter fun c => c.taken, s.hotlist.generation + 1⟩)) s.signing
          else s.signing) ∧
      t = { s with
        cases := t.cases, channels := t.channels, hotlist := t.hotlist, signing := t.signing
        clock := stamped s.clock }

/-- R27, R22: CASE SETTLE settles a case without a job FORCED, puts it at the tail of the statement queue and lets the statement
member ask; a case with a job keeps its state and takes the FORCED mark. -/
def Obligations.CaseSettleForcesTheSettlement : Prop :=
  ∀ (r : Request) (l : LinkId) (rest : List BufferPlace) (s : State) (c : Case) (now : Nat),
    Reaches .caseSettle r l rest s → s.findCase (fieldAt 0 4 r.body) = some c → s.clock.second = some now →
    c.state ≠ .settled → c.conflicts = [] →
    (c.job ≠ none →
      Completes .caseSettle r rest s
        (stampFloor s { s with
          cases := s.cases.map fun d => if d.number = c.number then { d with settleDue := some .forced } else d })
        ⟨.done, .none⟩) ∧
    (c.job = none →
      ∃ t : State, Completes .caseSettle r rest s t ⟨.done, .none⟩ ∧
        t.cases = s.cases.map (fun d =>
          if d.number = c.number then
            { d with
              settlement := some (chainSettlement .forced s.clock.announcedDay d)
              state := .settled, review := ⟨false, false, false⟩, settleDue := none }
          else d) ∧
        t.signing.queue = s.signing.queue ++ [c.number] ∧
        (s.signing.grantee = none → s.signing.waiting = {} → s.signing.queue = [] →
          t.signing = { takeGrant .statement s.signing with
            queue := [c.number]
            computation := some (.statement (statementInputs (settledCase (chainSettlement .forced s.clock.announcedDay c) c)
              (chainSettlement .forced s.clock.announcedDay c))) }) ∧
        (s.signing.grantee ≠ none → s.signing.grantee ≠ some .statement →
          t.signing = { s.signing with
            queue := s.signing.queue ++ [c.number], waiting := setWaiting .statement true s.signing.waiting }) ∧
        (s.signing.grantee = some .statement →
          t.signing = { s.signing with queue := s.signing.queue ++ [c.number] }) ∧
        t = { s with
          cases := t.cases, signing := t.signing, clock := { s.clock with floor := now, floorAge := 0 } })

/-- R40: an accepted CASE TRANSFER changes the owner link and nothing else. The body's fields stand in the order of the rule's prose
by the model's choice (log entry 29). -/
def Obligations.CaseTransferChangesTheOwner : Prop :=
  ∀ (r : Request) (l owner : LinkId) (rest : List BufferPlace) (s : State) (c : Case),
    Reaches .caseTransfer r l rest s → s.findCase (fieldAt 0 4 r.body) = some c →
    linkOf (fieldAt 4 1 r.body) = some owner → s.links[owner].state = .active → s.links[owner].rights.opens = true →
    Completes .caseTransfer r rest s
      (stampFloor s { s with
        cases := s.cases.map fun d => if d.number = c.number then { d with owner := owner } else d })
      ⟨.done, .none⟩

/-- R58, R59, R28, R26: a ruling takes the oldest entry with the counter out of the conflict list, and under REPLACE puts its event
in the chain's place. CONFLICT leaves the review of a case in WATCH or HOLDING once nothing is listed and nothing overflowed; a case
whose review becomes empty this way is tested at once: it settles, is marked AUTOMATIC while its job runs, or goes to review with
more than 64 gaps. The body's fields stand in the order of the rule's prose by the model's choice (log entry 29). -/
def Obligations.CaseResolveRulesAConflict : Prop :=
  ∀ (r : Request) (l : LinkId) (rest : List BufferPlace) (s : State) (c : Case) (e : CardEvent) (replace : Bool),
    Reaches .caseResolve r l rest s → s.findCase (fieldAt 0 4 r.body) = some c →
    choiceOf (fieldAt 7 1 r.body) = some replace → oldestConflict c (fieldAt 4 3 r.body) = some e →
    (replace = true → c.state ≠ .settled) →
    let ruled (d : Case) : Case :=
      { d with
        conflicts := d.conflicts.erase e
        chain := if replace then d.chain.map (fun x => if x.counter = e.counter then e else x) else d.chain }
    let counter := fieldAt 4 3 r.body
    let lapses := c.state ≠ .settled ∧ c.review.conflict = true ∧ (ruled c).conflicts = [] ∧ c.conflictOverflow = 0
    let with' (k : Case) : State := { s with cases := s.cases.map fun d => if d.number = c.number then k else d }
    (¬ lapses →
      Completes .caseResolve r rest s
        (stampFloor s { s with cases := s.cases.map fun d => if d.number = c.number then ruled d else d })
        ⟨.done, resolvedFields counter (ruled c)⟩) ∧
    (lapses → (∀ d ∈ s.cases, d.number = c.number → d = c) →
      let cleared : Case := { ruled c with review := { c.review with conflict := false } }
      let u : State := with' cleared
      ((cleared.review ≠ ⟨false, false, false⟩ ∨
          (s.clock.announcedDay < c.quietEnd ∧ closedAll s.zones c.zonesClosed = false)) →
        Completes .caseResolve r rest s (stampFloor s u) ⟨.done, resolvedFields counter cleared⟩) ∧
      (cleared.review = ⟨false, false, false⟩ →
        (c.quietEnd ≤ s.clock.announcedDay ∨ closedAll s.zones c.zonesClosed = true) →
        (s.clock.second = none → Completes .caseResolve r rest s u ⟨.done, resolvedFields counter cleared⟩) ∧
        (s.clock.second ≠ none → c.job ≠ none →
          let marked : Case :=
            { cleared with settleDue := some (if c.settleDue = some .forced then .forced else .automatic) }
          Completes .caseResolve r rest s (stampFloor s (with' marked)) ⟨.done, resolvedFields counter marked⟩) ∧
        (s.clock.second ≠ none → c.job = none → 64 < gapCount c →
          let held : Case := { cleared with review := ⟨false, false, true⟩ }
          Completes .caseResolve r rest s
            (stampFloor s { with' held with
              channels := withReport s.links[c.owner].channel
                ⟨some c.owner, s.links[c.owner].station,
                  .caseReview c.number (some .gapImplausible) ⟨false, false, true⟩ (gapCount c) c.cmax c.chain.length 0 0
                    c.overflows c.duplicates⟩ s.channels })
            ⟨.done, resolvedFields counter held⟩) ∧
        (s.clock.second ≠ none → c.job = none → gapCount c ≤ 64 →
          let kind := if closedAll s.zones c.zonesClosed = true ∧ gapCount c = 0 then SettlementKind.exact else .presumed
          Completes .caseResolve r rest s (stampFloor s (settle kind c.number u))
            ⟨.done, resolvedFields counter
              (settledCase (chainSettlement kind s.clock.announcedDay cleared) cleared)⟩)))

/-- R157, R158: ISSUE ABORT by the job's kind and phase: TOO_LATE while the activation is being written or read back, or while the
MARK is under its grant; abort pending while another segment is; else the job ends ABORTED at once, with its ISSUE DONE or RECOVER
DONE report on the channel of the case's owner, and a FORCED mark then settles the case. That the answer to an abort taken at once
carries the pending mark, clear, is the model's choice (log entry 23). -/
def Obligations.IssueAbortDecidesByPhase : Prop :=
  ∀ (r : Request) (l : LinkId) (rest : List BufferPlace) (s : State) (c : Case) (k : JobName) (p : Port) (j : Job),
    Reaches .issueAbort r l rest s → s.findCase (fieldAt 0 4 r.body) = some c →
    (c.owner = l ∨ s.links[l].rights.approve = true) → c.job = some (k, p) → (s.port p).job = some j →
    let holds := s.signing.grantee = some (.port p)
    let writing := (j.phase = .write ∧ holds) ∨ j.phase = .verify
    (j.abortPending = true → Completes .issueAbort r rest s s ⟨.done, .abort true⟩) ∧
    (j.abortPending = false →
      (∀ target, j.kind = .issue target → writing → j.nextSegment = activationSegment target →
        Completes .issueAbort r rest s s ⟨.tooLate, .none⟩) ∧
      (∀ target, j.kind = .issue target → writing → j.nextSegment ≠ activationSegment target →
        Completes .issueAbort r rest s
          { s with ports := s.ports.set p { s.port p with job := some { j with abortPending := true } } }
          ⟨.done, .abort true⟩) ∧
      (j.kind = .recover → j.phase = .mark → holds → Completes .issueAbort r rest s s ⟨.tooLate, .none⟩) ∧
      ((j.phase = .waitingCard ∨ j.phase = .check ∨ j.phase = .torn ∨ j.phase = .read ∨
          (j.phase = .write ∧ ¬ holds ∧ j.kind ≠ .recover) ∨ (j.phase = .mark ∧ ¬ holds)) →
        (j.kind = .recover ∨ (j.phase ≠ .read ∧ j.phase ≠ .mark)) →
        (∃ t : State, Completes .issueAbort r rest s t ⟨.done, .abort false⟩ ∧ (t.port p).job = none ∧
          (t.port p).outstanding = none ∧ (∀ d ∈ t.cases, d.number = j.caseNo → d.job = none) ∧
          (t.clock = s.clock ∨ t.clock = stamped s.clock) ∧
          t = { s with
            cases := t.cases, channels := t.channels, hotlist := t.hotlist, signing := t.signing
            ports := t.ports, clock := t.clock }) ∧
        (j.caseNo = c.number → NothingDue c s →
          ∃ t, Completes .issueAbort r rest s t ⟨.done, .abort false⟩ ∧ JobFails p .aborted j c s t) ∧
        (j.caseNo = c.number → c.settleDue = some .forced → c.state ≠ .settled → c.conflicts = [] →
          s.clock.second ≠ none →
          ∃ v, JobFails p .aborted j c s v ∧
            Completes .issueAbort r rest s (stampFloor s (settle .forced c.number (unmarked c.number v)))
              ⟨.done, .abort false⟩)))

/-- The requests that only read complete from every state with their links active, change no state, and carry what they read (R41,
R42, R67, R113, R124, R163, R181, R192, R194). Which counts the chain counts of SUMMARY are, that no part sends the known values of
R53, that ZONE STATUS leaves out the running body sum, and how prose fields of the other records are taken, is the model's choice
(log entry 23); so are the start index in the body of every CASE QUERY part (log entry 15) and the codes of parts, filters and ports
(log entry 16). Each body's fields stand in the order of its rule's prose by the model's choice (log entry 29). -/
def Obligations.ReadingRequestsLeaveTheState : Prop :=
  ∀ (r : Request) (l : LinkId) (rest : List BufferPlace) (s : State),
    (∀ c part, Reaches .caseQuery r l rest s → s.findCase (fieldAt 0 4 r.body) = some c →
      casePartOf (fieldAt 4 1 r.body) = some part → fieldAt 5 1 r.body ≤ 63 →
      Completes .caseQuery r rest s s ⟨.done, partOf part (fieldAt 5 1 r.body) c⟩) ∧
    (∀ st own, Reaches .caseList r l rest s → stateFilterOf (fieldAt 4 1 r.body) = some st →
      ownerFilterOf (fieldAt 5 1 r.body) = some own → 1 ≤ fieldAt 0 4 r.body →
      let found := s.cases.filter fun c =>
        fieldAt 0 4 r.body ≤ c.number ∧ (∀ x, st = some x → c.state = x) ∧ (own = true → c.owner = l)
      Completes .caseList r rest s s
        ⟨.done, .caseList ((found.take 16).map fun c => ⟨c.number, c.state, c.owner⟩) (decide (16 < found.length))⟩) ∧
    (Reaches .concessionRead r l rest s →
      Completes .concessionRead r rest s s ⟨.done, .concessionTable s.concession.toList⟩) ∧
    (∀ start, start = fieldAt 1 2 r.body → Reaches .hotlistRead r l rest s →
      (fieldAt 0 1 r.body = 1 → start ≤ 255 →
        let master := s.hotlist.master.filter fun e => e.addGen.isSome
        Completes .hotlistRead r rest s s
          ⟨.done, .hotlistMaster (hotlistSummary s.hotlist) ((master.drop start).take 48)
            (decide (start + 48 < master.length))⟩) ∧
      (fieldAt 0 1 r.body = 2 → start ≤ 511 →
        Completes .hotlistRead r rest s s
          ⟨.done, .hotlistPending (hotlistSummary s.hotlist) ((s.hotlist.pending.drop start).take 48)
            (decide (start + 48 < s.hotlist.pending.length))⟩)) ∧
    (∀ z, Reaches .zoneStatus r l rest s → zoneOf (fieldAt 0 1 r.body) = some z →
      Completes .zoneStatus r rest s s ⟨.done, .zoneStatus (zoneStatusOf z s.zones[z])⟩) ∧
    (∀ p, Reaches .portStatus r l rest s → portOf (fieldAt 0 1 r.body) = some p →
      Completes .portStatus r rest s s ⟨.done, .portStatus (portReportOf p s)⟩) ∧
    (∀ m, Reaches .linkRead r l rest s → linkOf (fieldAt 0 1 r.body) = some m →
      Completes .linkRead r rest s s
        ⟨.done, .linkRead m s.links[m] (childrenOf m s).length (s.cases.filter fun c => c.owner = m).length⟩) ∧
    (Reaches .timeRead r l rest s →
      Completes .timeRead r rest s s
        ⟨.done, .timeRead s.clock.second (s.clock.second.map fun _ => s.clock.announcedDay) s.clock.floor
          s.settings.rolloverMinute⟩) ∧
    (Reaches .deviceStatus r l rest s →
      Completes .deviceStatus r rest s s ⟨.done, .deviceStatus (deviceReportOf s)⟩)

/-! ### Concession table and hotlist -/

/-- R66: CONCESSION SET clamps the five values, stores the row, answers the values with their clamped marks, and changes nothing
else; a class above 15 is refused and the row unchanged. The body's fields stand in the order of the rule's prose by the model's
choice (log entry 29). -/
def Obligations.ConcessionSetStoresTheRow : Prop :=
  ∀ (r : Request) (l : LinkId) (rest : List BufferPlace) (s : State), FrameReady .concessionSet r rest s →
    linkOf r.link.toNat = some l → s.links[l].state = .active →
    let cap := fieldAt 1 3 r.body
    let days := fieldAt 4 1 r.body
    let quiet := fieldAt 5 1 r.body
    let fare := fieldAt 6 3 r.body
    let hold := fieldAt 9 1 r.body
    let row : Terms := ⟨min 100000 cap, max 1 (min 7 days), max 1 (min 14 quiet), min 20000 fare, min 4 hold⟩
    (s.links[l].rights.admin = false → Completes .concessionSet r rest s s ⟨.noRight, .none⟩) ∧
    (s.links[l].rights.admin = true → 15 < fieldAt 0 1 r.body →
      Completes .concessionSet r rest s s ⟨.badField, .none⟩) ∧
    ∀ cls : Fin 16, s.links[l].rights.admin = true → fieldAt 0 1 r.body = cls.val →
      Completes .concessionSet r rest s { s with concession := s.concession.set cls row }
        ⟨.done, .concessionSet cls.val row
          [decide (cap ≠ row.dailyCap), decide (days ≠ row.exposureDays), decide (quiet ≠ row.quietDays),
            decide (fare ≠ row.presumedFare), decide (hold ≠ row.holdbackTrips)]⟩

/-- R109, R106, R166: HOTLIST CUT decides in order; an accepted one takes up to 64 of the oldest changes, enters PACKAGING and asks
the signing unit, and its answer says what the package bears. -/
def Obligations.HotlistCutTakesThePackage : Prop :=
  ∀ (r : Request) (l : LinkId) (rest : List BufferPlace) (s : State), FrameReady .hotlistCut r rest s →
    linkOf r.link.toNat = some l → s.links[l].state = .active →
    (s.links[l].rights.admin = false → Completes .hotlistCut r rest s s ⟨.noRight, .none⟩) ∧
    (s.links[l].rights.admin = true →
    (s.hotlist.packaging = .packaging → Completes .hotlistCut r rest s s ⟨.busy, .none⟩) ∧
    (s.hotlist.packaging = .idle → s.hotlist.pending = [] →
      Completes .hotlistCut r rest s s ⟨.nothingPending, .none⟩) ∧
    (s.hotlist.packaging = .idle → s.hotlist.pending ≠ [] → 4294967295 ≤ s.hotlist.generation →
      Completes .hotlistCut r rest s s ⟨.tableFull, .none⟩) ∧
    (s.hotlist.packaging = .idle → s.hotlist.pending ≠ [] → s.hotlist.generation < 4294967295 →
      let pkg := s.hotlist.pending.take 64
      let pending := (pkg.map fun c => { c with taken := true }) ++ s.hotlist.pending.drop 64
      Completes .hotlistCut r rest s
        { s with
          hotlist := { s.hotlist with pending := pending, packaging := .packaging }
          signing := asked .hotlist
            (some (.package ⟨pending.filter fun c => c.taken, s.hotlist.generation + 1⟩)) s.signing }
        ⟨.done, .hotlistCut (s.hotlist.generation + 1) (pkg.filter fun c => c.kind = .add).length
          (pkg.filter fun c => c.kind = .remove).length (s.hotlist.pending.length - pkg.length)⟩))

/-! ### Zones -/

/-- R118, R63: ZONE CONFIGURE sets the record of an UNUSED or HELD zone afresh in HELD, its settings clamped, and takes the zone out
of the zones closed set of every case in WATCH or HOLDING. The body's fields stand in the order of the rule's prose by the model's
choice (log entry 29). -/
def Obligations.ZoneConfigureSetsTheRecord : Prop :=
  ∀ (r : Request) (l : LinkId) (rest : List BufferPlace) (s : State) (z : ZoneId) (m : SumMethod),
    Reaches .zoneConfigure r l rest s → zoneOf (fieldAt 0 1 r.body) = some z →
    sumMethodOf (fieldAt 1 1 r.body) = some m →
    (s.zones[z].state = .unused ∨ s.zones[z].state = .held) →
    let threshold := max 1 (min 255 (fieldAt 2 1 r.body))
    let dormancy := max 1 (min 7 (fieldAt 3 1 r.body))
    Completes .zoneConfigure r rest s
      (stampFloor s { s with
        zones := s.zones.set z
          ⟨.held, m, threshold, dormancy, none, 0, none, false, ⟨0, 0, 0, 0⟩, none, 0, 0, 0⟩
        cases := s.cases.map fun c =>
          if c.state = .settled then c
          else { c with zonesClosed := c.zonesClosed &&& ~~~BitVec.twoPow 12 z.val } })
      ⟨.done, .zoneConfigured m threshold dormancy
        [decide (fieldAt 2 1 r.body ≠ threshold), decide (fieldAt 3 1 r.body ≠ dormancy)]⟩

/-- R119, R120, R121, R123: release, hold, resync and clear change the one zone record, each from the states that accept it. -/
def Obligations.ZoneControlsChangeOneZone : Prop :=
  ∀ (r : Request) (l : LinkId) (rest : List BufferPlace) (s : State) (z : ZoneId),
    zoneOf (fieldAt 0 1 r.body) = some z →
    let record := s.zones[z]
    let fed := record.state = .hunt ∨ record.state = .openBatch ∨ record.state = .aligned
    (Reaches .zoneRelease r l rest s →
      (record.state = .held →
        Completes .zoneRelease r rest s
          { s with
            zones := s.zones.set z
              { record with
              state := .hunt, lastCommit := s.clock.second.map fun _ => s.clock.announcedDay, dormant := false } }
          ⟨.done, .none⟩) ∧
      (record.state ≠ .held → Completes .zoneRelease r rest s s ⟨.wrongState, .none⟩)) ∧
    (Reaches .zoneHold r l rest s →
      (fed →
        Completes .zoneHold r rest s
          { s with zones := s.zones.set z { record with state := .held, batch := none, dormant := false } }
          ⟨.done, .none⟩) ∧
      (record.state = .held → Completes .zoneHold r rest s s ⟨.done, .none⟩) ∧
      (record.state = .unused → Completes .zoneHold r rest s s ⟨.wrongState, .none⟩)) ∧
    (Reaches .zoneResync r l rest s →
      (fed →
        Completes .zoneResync r rest s
          { s with zones := s.zones.set z { record with state := .hunt, batch := none, expected := none } }
          ⟨.done, .none⟩) ∧
      (¬ fed → Completes .zoneResync r rest s s ⟨.wrongState, .none⟩)) ∧
    (Reaches .zoneClear r l rest s →
      (record.state ≠ .unused →
        Completes .zoneClear r rest s
          { s with
            zones := s.zones.set z
              { record with counts := ⟨0, 0, 0, 0⟩, committed := 0, matched := 0, unmatched := 0 } }
          ⟨.done, .zoneCleared record.counts record.committed record.matched record.unmatched⟩) ∧
      (record.state = .unused → Completes .zoneClear r rest s s ⟨.wrongState, .none⟩))

/-- R122, R63, R24, R26: ZONE REMOVE takes a HELD zone out of use and lets trigger (a) reach, in case order, the cases in WATCH or
HOLDING that lacked it and now hold every configured zone: one with a job takes the AUTOMATIC mark, one in review stays, one with more
than 64 gaps takes GAP_IMPLAUSIBLE with its report, any other settles EXACT or PRESUMED and joins the statement queue; under an unset
clock they stay. -/
def Obligations.ZoneRemoveTestsTheCasesThatLackedIt : Prop :=
  ∀ (r : Request) (l : LinkId) (rest : List BufferPlace) (s : State) (z : ZoneId),
    Reaches .zoneRemove r l rest s → CaseTableOk s → zoneOf (fieldAt 0 1 r.body) = some z → s.zones[z].state = .held →
    let zones := s.zones.set z { s.zones[z] with state := .unused }
    let tested (c : Case) : Bool :=
      decide (c.state ≠ .settled ∧ c.zonesClosed.getLsbD z.val = false) && closedAll zones c.zonesClosed
    ∃ t : State, TriggerReaches tested s { s with zones := zones } t ∧
      Completes .zoneRemove r rest s (stampFloor s t) ⟨.done, .none⟩

/-- R126, R128: an accepted header opens the batch of a zone in HUNT or ALIGNED, whatever its expected sequence when that is unset, and
only at the expected sequence when it is set; one that finds a batch open first discards it and counts it malformed, which may
report at the threshold, and opens its own batch all the same. -/
def Obligations.BatchHeaderOpensTheBatch : Prop :=
  ∀ (r : Request) (l : LinkId) (rest : List BufferPlace) (s : State) (z : ZoneId),
    Reaches .batchHeader r l rest s → zoneOf (fieldAt 0 1 r.body) = some z → s.links[l].zone = some z →
    (s.zones[z].state = .hunt ∨ s.zones[z].state = .aligned ∨ s.zones[z].state = .openBatch) → s.clock.second ≠ none →
    let sequence := fieldAt 1 4 r.body
    let generation := fieldAt 5 4 r.body
    let day := fieldAt 9 2 r.body
    let sum := match s.zones[z].method with
      | .field => (z.val + 1 + sequence + generation + day) % 65536
      | .packed => byteSum (r.body.take 11)
    fieldAt 11 2 r.body = sum → 1 ≤ sequence → generation ≤ s.hotlist.generation →
    (∀ e, s.zones[z].expected = some e → sequence = e) →
    let ready := headerReady z s
    Completes .batchHeader r rest s
      { ready with
        zones := ready.zones.set z
          { ready.zones[z] with state := .openBatch, batch := some ⟨sequence, generation, day, [], 0⟩ } }
      ⟨.done, .headerTaken sequence⟩

/-- R125, R126, R131, R135: a header that fails counts its fault in the zone record, after the batch it found open was discarded and
counted malformed: a wrong sum, a sequence of 0 or a generation above the current one, a sequence past the expected one; a sequence
below it counts nothing. A BATCH END, whose record count has two bytes (log entry 16), that does not agree with the open batch
discards it and counts a bad sum. At the zone's error threshold the zone goes to HUNT with a ZONE EVENT report. A feed request that
the checks before refuse counts nothing. Each body's fields stand in the order of its rule's prose by the model's choice (log entry
29). -/
def Obligations.FeedFaultsAreCounted : Prop :=
  ∀ (r : Request) (l : LinkId) (rest : List BufferPlace) (s : State),
    (∀ k, k = .batchHeader ∨ k = .batchRecords ∨ k = .batchEnd → Reaches k r l rest s →
      (zoneOf (fieldAt 0 1 r.body) = none → Completes k r rest s s ⟨.badField, .none⟩) ∧
      ∀ z, zoneOf (fieldAt 0 1 r.body) = some z →
        (s.links[l].zone ≠ some z → Completes k r rest s s ⟨.noRight, .none⟩) ∧
        (s.links[l].zone = some z →
          (s.zones[z].state = .unused → Completes k r rest s s ⟨.zoneUnused, .none⟩) ∧
          (s.zones[z].state = .held → Completes k r rest s s ⟨.zoneHeld, .none⟩) ∧
          ((s.zones[z].state = .hunt ∨ s.zones[z].state = .aligned) → k ≠ .batchHeader →
            Completes k r rest s s ⟨.noOpenBatch, .none⟩) ∧
          ((s.zones[z].state = .hunt ∨ s.zones[z].state = .aligned ∨ s.zones[z].state = .openBatch) →
            k = .batchHeader → s.clock.second = none → Completes k r rest s s ⟨.noTime, .none⟩))) ∧
    ∀ z : ZoneId, zoneOf (fieldAt 0 1 r.body) = some z → s.links[l].zone = some z →
      (Reaches .batchHeader r l rest s →
        (s.zones[z].state = .hunt ∨ s.zones[z].state = .aligned ∨ s.zones[z].state = .openBatch) →
        s.clock.second ≠ none →
        let h := bodyHeader r.body
        let sumOk := h.sum = headerSum s.zones[z] z h r.body
        let fieldsOk := 1 ≤ h.sequence ∧ h.generation ≤ s.hotlist.generation
        let ready := headerReady z s
        (¬ sumOk →
          Completes .batchHeader r rest s (faultCounted .badSum z ready.zones[z] ready) ⟨.sumMismatch, .none⟩) ∧
        (sumOk → ¬ fieldsOk →
          Completes .batchHeader r rest s (faultCounted .malformed z ready.zones[z] ready) ⟨.badField, .none⟩) ∧
        (sumOk → fieldsOk → ∀ e, s.zones[z].expected = some e →
          (h.sequence < e →
            Completes .batchHeader r rest s ready ⟨.duplicateBatch, .expectedSequence e⟩) ∧
          (e < h.sequence →
            Completes .batchHeader r rest s (faultCounted .gap z ready.zones[z] ready)
              ⟨.sequenceGap, .expectedSequence e⟩))) ∧
      (∀ o, Reaches .batchEnd r l rest s → s.zones[z].state = .openBatch → s.zones[z].batch = some o →
        (fieldAt 1 2 r.body ≠ o.buffer.length ∨ fieldAt 3 2 r.body ≠ o.bodySum) →
        Completes .batchEnd r rest s (faultCounted .badSum z { s.zones[z] with state := .hunt, batch := none } s)
          ⟨.sumMismatch, .batchMismatch o.buffer.length o.bodySum⟩)

/-- R129, R130: the records of a BATCH RECORDS join the buffer in order, the void ones with their bytes, their bytes are added to
the body sum, and each void raises its count. A void that brings its count to the zone's threshold, and the record that would be the
buffer's 257th, discard the batch, and the rest is not examined. That the void may be the request's last is log entry 24. A record
count outside 1 to 16 changes nothing. The body's fields stand in the order of the rule's prose by the model's choice (log entry
29). -/
def Obligations.BatchRecordsJoinTheBuffer : Prop :=
  ∀ (r : Request) (l : LinkId) (rest : List BufferPlace) (s : State) (z : ZoneId) (o : OpenBatch),
    Reaches .batchRecords r l rest s → zoneOf (fieldAt 0 1 r.body) = some z → s.links[l].zone = some z →
    s.zones[z].state = .openBatch → s.zones[z].batch = some o →
    let count := fieldAt 1 1 r.body
    let records := eventRecords count (r.body.drop 2)
    ((count < 1 ∨ 16 < count) → Completes .batchRecords r rest s s ⟨.badField, .none⟩) ∧
    (1 ≤ count → count ≤ 16 →
      (o.buffer.length + count ≤ 256 → BelowThreshold records s.zones[z] →
        Completes .batchRecords r rest s { s with zones := s.zones.set z (recordsJoined records o s.zones[z]) }
          ⟨.done, .recordsTaken (o.buffer.length + records.length)
            ((records.map recordMark).filter fun m => m.2.isSome).length⟩) ∧
      (∀ before x after, records = before ++ x :: after → BelowThreshold before s.zones[z] →
        (∀ c, (recordMark x).2 = some c → o.buffer.length + before.length < 256 →
          s.zones[z].threshold ≤ getCount c (raiseCount c (countsAfter before s.zones[z].counts)) →
          Completes .batchRecords r rest s (faultCounted c z (recordsJoined before o s.zones[z]) s) ⟨.badField, .none⟩) ∧
        (o.buffer.length + before.length = 256 →
          Completes .batchRecords r rest s
            (faultCounted .malformed z { recordsJoined before o s.zones[z] with state := .hunt, batch := none } s)
            ⟨.badField, .none⟩)))

/-- R131, R132, R133, R61, R62, R26: a BATCH END, whose record count has two bytes (log entry 16), that agrees hands each good
record, in buffer order, to the case its card's master entry names, and moves the zone's record on. An event inserted into a SETTLED
case queues its ADJUSTMENT report (R84), and one that adds CONFLICT or CHAIN_FULL to a review its CASE REVIEW report (R39, R52). The
zone closes for every case in WATCH or HOLDING that did not hold it and that a BLOCKED record of the batch reached, not stale, or
whose generation the zone's raised generation reaches; trigger (a) reaches each of them that now holds every configured zone, in
case order. The zone goes to ALIGNED. The body's fields stand in the order of the rule's prose by the model's choice (log entry 29). -/
def Obligations.BatchEndCommits : Prop :=
  ∀ (r : Request) (l : LinkId) (rest : List BufferPlace) (s : State) (z : ZoneId) (o : OpenBatch),
    Reaches .batchEnd r l rest s → CaseTableOk s → zoneOf (fieldAt 0 1 r.body) = some z → s.links[l].zone = some z →
    s.zones[z].state = .openBatch → s.zones[z].batch = some o →
    fieldAt 1 2 r.body = o.buffer.length → fieldAt 3 2 r.body = o.bodySum →
    let events := goodEvents o.buffer
    let matched := (events.filter fun e => (masterCase e.cardNo s.hotlist).isSome).length
    let voids := o.buffer.length - events.length
    let reached := if voids = 0 then max s.zones[z].reached o.generation else s.zones[z].reached
    let expected := if o.sequence = 4294967295 then none else some (o.sequence + 1)
    let taken (c : Case) : Case := events.foldl (fun d e => handedTo s.hotlist e d) c
    let blocked (c : Case) : Bool := events.any fun e =>
      decide (e.kind = .blocked ∧ masterCase e.cardNo s.hotlist = some c.number ∧ classify c e ≠ .stale)
    let risen (c : Case) : Bool := match c.generation with
      | some g => decide (s.zones[z].reached < reached ∧ g ≤ reached)
      | none => false
    let newly (c : Case) : Bool :=
      decide (c.state ≠ .settled ∧ c.zonesClosed.getLsbD z.val = false) && (blocked c || risen c)
    let handed (c : Case) : Case :=
      if newly c = true then { taken c with zonesClosed := c.zonesClosed ||| BitVec.twoPow 12 z.val } else taken c
    let tested (d : Case) : Bool :=
      s.cases.any fun c => newly c && decide (c.number = d.number) && closedAll s.zones d.zonesClosed
    let record : Zone :=
      { s.zones[z] with
        state := .aligned, batch := none, expected := expected
        lastCommit := s.clock.second.map fun _ => s.clock.announcedDay
        dormant := false, reached := reached
        committed := (s.zones[z].committed + events.length) % 4294967296
        matched := (s.zones[z].matched + matched) % 4294967296
        unmatched := (s.zones[z].unmatched + (events.length - matched)) % 4294967296 }
    ∃ t : State,
      TriggerReaches tested s
        { s with
          zones := s.zones.set z record, cases := s.cases.map handed
          channels := withReports (feedReports s events s.cases) s.channels } t ∧
      Completes .batchEnd r rest s (stampFloor s t)
        ⟨.done, .batchCommitted o.sequence events.length matched (events.length - matched) voids reached expected
          (s.cases.filter newly).length⟩

/-! ### Ports -/

/-- R140, R141: PORT CONFIGURE on a port without a job clamps and stores the settings and zeroes the timeout count; a port it
disables drops its SENSE and its card, and a disabled, unfenced port that it enables sends SENSE. A port with a job is PORT_BUSY.
The body's fields stand in the order of the rule's prose by the model's choice (log entry 29). -/
def Obligations.PortConfigureSetsThePort : Prop :=
  ∀ (r : Request) (l : LinkId) (rest : List BufferPlace) (s : State) (p : Port) (enabled : Bool) (mode : WriteMode),
    Reaches .portConfigure r l rest s → portOf (fieldAt 0 1 r.body) = some p →
    markOf (fieldAt 1 1 r.body) = some enabled → writeModeOf (fieldAt 2 1 r.body) = some mode →
    let before := s.port p
    let limit := min 15 (fieldAt 3 1 r.body)
    let fence := max 1 (min 15 (fieldAt 4 1 r.body))
    let timeout := max 50 (min 2000 (fieldAt 5 2 r.body))
    let window := max 10 (min 600 (fieldAt 7 2 r.body))
    (before.job ≠ none → Completes .portConfigure r rest s s ⟨.portBusy, .none⟩) ∧
    (before.job = none →
      Completes .portConfigure r rest s
        { s with
          ports := s.ports.set p
            { before with
              enabled := enabled, mode := mode, retryLimit := limit, fenceThreshold := fence, timeout := timeout
              window := window, timeouts := 0
              card := if enabled then before.card else none
              outstanding :=
                if enabled = false then none
                else if before.enabled = false ∧ before.fenced = false then some ⟨.sense, s.clock.second, timeout⟩
                else before.outstanding } }
        ⟨.done, .portConfigured ⟨enabled, mode, limit, fence, timeout, window⟩
          [decide (fieldAt 3 1 r.body ≠ limit), decide (fieldAt 4 1 r.body ≠ fence),
            decide (fieldAt 5 2 r.body ≠ timeout), decide (fieldAt 7 2 r.body ≠ window)]⟩)

/-- R162: PORT UNFENCE clears the fenced mark and the count, sends SENSE on an enabled port that was fenced, and answers the count as
it stood; a port outside A to D is refused. -/
def Obligations.PortUnfenceReturnsThePort : Prop :=
  ∀ (r : Request) (l : LinkId) (rest : List BufferPlace) (s : State), FrameReady .portUnfence r rest s →
    linkOf r.link.toNat = some l → s.links[l].state = .active →
    (s.links[l].rights.admin = false → Completes .portUnfence r rest s s ⟨.noRight, .none⟩) ∧
    (s.links[l].rights.admin = true → portOf (fieldAt 0 1 r.body) = none →
      Completes .portUnfence r rest s s ⟨.badField, .none⟩) ∧
    ∀ p, s.links[l].rights.admin = true → portOf (fieldAt 0 1 r.body) = some p →
      let before := s.port p
      Completes .portUnfence r rest s
        { s with
          ports := s.ports.set p
            { before with
              fenced := false, timeouts := 0
              outstanding :=
                if before.enabled = true ∧ before.fenced = true then some ⟨.sense, s.clock.second, before.timeout⟩
                else before.outstanding } }
        ⟨.done, .portUnfenced before.timeouts⟩

/-- R143, R144, R152: an ARRIVED at a port in service zeroes the timeout count, answers an outstanding SENSE and sets the card present
mark; without a job the change is reported, a change of serial as LEFT then ARRIVED, and so is it taken at a port with a job. A job
that waits for a card reads its header, and so does a TORN job when its target card returns; another card leaves it TORN. -/
def Obligations.ArrivedSetsTheCard : Prop :=
  ∀ (s : State) (p : Port) (serial : Serial) (family : Family), inService (s.port p) = true →
    let before := s.port p
    let outstanding := if before.outstanding.map (fun o => o.command) = some .sense then none else before.outstanding
    let there : PortRec := { before with timeouts := 0, outstanding := outstanding, card := some ⟨serial, family⟩ }
    let arrivedReport : Report := ⟨none, 0, .portArrived p ⟨serial, family⟩ 0 s.clock.second⟩
    let checking (mode : CheckMode) (j : Job) : PortRec :=
      { there with
        job := some { j with phase := .check, mode := mode, reads := [], retries := 0, tearEnd := none }
        outstanding := some ⟨.read 0, s.clock.second, before.timeout⟩ }
    (∀ present, before.card = some present → present.serial = serial →
      exec (.arrived p serial family) s = .next
        { s with ports := s.ports.set p { before with timeouts := 0, outstanding := outstanding } }) ∧
    (before.card = none → before.job = none →
      exec (.arrived p serial family) s = .next
        { s with ports := s.ports.set p there, channels := withReport 0 arrivedReport s.channels }) ∧
    (∀ present, before.card = some present → present.serial ≠ serial → before.job = none →
      exec (.arrived p serial family) s = .next
        { s with
          ports := s.ports.set p { there with outstanding := none }
          channels := withReport 0 arrivedReport
            (withReport 0 ⟨none, 0, .portLeft p present 0 s.clock.second⟩ s.channels) }) ∧
    (∀ present, before.card = some present → present.serial ≠ serial →
      ∃ t, exec (.left p) s = .next t ∧ exec (.arrived p serial family) s = exec (.arrived p serial family) t) ∧
    (∀ j, before.card = none → before.job = some j → j.phase = .waitingCard →
      exec (.arrived p serial family) s = .next { s with ports := s.ports.set p (checking .first j) }) ∧
    (∀ j, before.card = none → before.job = some j → j.phase = .torn →
      (j.target = some serial →
        exec (.arrived p serial family) s = .next { s with ports := s.ports.set p (checking .afterTear j) }) ∧
      (j.target ≠ some serial → exec (.arrived p serial family) s = .next { s with ports := s.ports.set p there }))

/-- R143, R151, R156, R158, R172: a LEFT at a port in service ends any outstanding command and makes the card absent; without a job it
is reported. A job takes it by kind and phase: one that waits, or is TORN, goes on; a first check goes back to waiting; an ISSUE job
that is writing, or reading back a segment before the activation, a RECOVER job that is reading, and a check after a tear are TORN
with a fresh window, the grant released or the waiting request withdrawn; the read back of the activation ends ISSUED_UNVERIFIED, a
RECOVER job in MARK ends RECOVERED_UNMARKED, and with abort pending every job ends ABORTED. That the window ends at the clock's last
second at the latest, and is absent while the clock is unset, is the model's choice (log entry 10), and so is ISSUED_UNVERIFIED
while the WRITE that repeats a mismatch of the activation is outstanding (log entry 27). -/
def Obligations.LeftEndsTheCommand : Prop :=
  ∀ (s : State) (p : Port), inService (s.port p) = true →
    let before := s.port p
    let gone : PortRec := { before with timeouts := 0, outstanding := none, card := none }
    let empty : State := { s with ports := s.ports.set p gone }
    (∀ present, before.card = some present → before.job = none →
      exec (.left p) s = .next
        { s with
          ports := s.ports.set p gone
          channels := withReport 0 ⟨none, 0, .portLeft p present 0 s.clock.second⟩ s.channels }) ∧
    (before.card = none → before.job = none → exec (.left p) s = .next empty) ∧
    ∀ j, before.job = some j →
      (j.abortPending = true → ∀ c, s.findCase j.caseNo = some c → NothingDue c s →
        ∃ t, exec (.left p) s = .next t ∧ JobFails p .aborted j c empty t) ∧
      (j.abortPending = false →
        ((j.phase = .waitingCard ∨ j.phase = .torn) → exec (.left p) s = .next empty) ∧
        (j.phase = .check → j.mode = .first →
          exec (.left p) s = .next
            { s with
              ports := s.ports.set p { gone with job := some { j with phase := .waitingCard, retries := 0, reads := [] } } }) ∧
        (((j.phase = .check ∧ j.mode = .afterTear) ∨ (j.kind = .recover ∧ j.phase = .read) ∨
            ∃ target, j.kind = .issue target ∧
              (j.phase = .write ∨ (j.phase = .verify ∧ j.nextSegment ≠ activationSegment target))) →
          (s.signing.grantee = some (.port p) → isWaiting s.signing.waiting (.port p) = false) →
          ∃ u, GivesUp p empty u ∧
            exec (.left p) s = .next
              { u with
                ports := u.ports.set p
                  { gone with
                    job := some { j with
                      phase := .torn, retries := 0, grantCount := 0
                      tearEnd := s.clock.second.map fun now => min 4294967295 (now + before.window)
                      contents := if j.phase = .read then none else j.contents } } }) ∧
        (∀ target c fig, j.kind = .issue target → j.phase = .verify → j.nextSegment = activationSegment target →
          s.findCase j.caseNo = some c → c.issue = some fig →
          (c.state = .watch ∨ (c.state = .settled ∧ c.newCard = none)) → NothingDue c s →
          (∀ d ∈ s.cases, d.number = c.number → d = c) →
          ∃ t, exec (.left p) s = .next t ∧ JobIssues p .issuedUnverified target j c fig empty t) ∧
        (∀ c read, j.kind = .recover → j.phase = .mark → s.findCase j.caseNo = some c → c.state ≠ .settled →
          j.contents = some read → read.mark = some none →
          ∃ t, exec (.left p) s = .next t ∧ JobRecovers p .recoveredUnmarked .notWritten j c read empty t))

/-- R145, R146, R148, R149, R152, R153, R154: what a DATA that answers the outstanding READ does, by the phase of the job. An ISSUE job
checks header, activation and block mark: the first check accepts a blank card of the target family or one partly written for the
case, stores the issue figures with the target serial and asks to write; it completes from the stored figures, or rejects. A check
after a tear goes on writing, completes or rejects. VERIFY confirms a segment read back as written, and writes it again otherwise. A
RECOVER job accepts the case's old card, keeps the products, the purse and the block mark, and asks for its MARK or ends RECOVERED.
The model's own clauses: the write code that a WRITE and a MARK carry (log entry 1); the retries kept over a mismatch and the WRITE
that repeats it (log entry 11); which content is a data error instead (log entry 12); that a segment read back as written is
confirmed before abort pending ends the job, and stands in its report (log entry 13); and the purse that an empty purse segment
stands for, which is free (log entry 26). -/
def Obligations.DataDrivesTheCheck : Prop :=
  ∀ (s : State) (p : Port) (j : Job) (card : Card) (seg : Nat) (sent : Option Nat) (timeout : Nat)
    (content : Option Segment) (c : Case),
    inService (s.port p) = true → (s.port p).job = some j → (s.port p).card = some card →
    (s.port p).outstanding = some ⟨.read seg, sent, timeout⟩ → contentOk card.family seg content = true →
    s.findCase j.caseNo = some c →
    let before := s.port p
    let reading (n : Nat) (k : Job) : State :=
      { s with
        ports := s.ports.set p
          { before with timeouts := 0, job := some k, outstanding := some ⟨.read n, s.clock.second, before.timeout⟩ } }
    let taken (k : Job) : State :=
      { s with ports := s.ports.set p { before with timeouts := 0, job := some k, outstanding := none } }
    let outcome (t : State) : Prop := exec (.data p content) s = .next t
    let once := ∀ d ∈ s.cases, d.number = c.number → d = c
    let mayIssue := (c.state = .watch ∨ (c.state = .settled ∧ c.newCard = none)) ∧ NothingDue c s ∧ once
    (∀ target, j.kind = .issue target → j.phase = .check →
      (j.reads = [] → outcome (reading (activationSegment card.family) { j with reads := [content], retries := 0 })) ∧
      (∀ header, j.reads = [header] → outcome (reading 15 { j with reads := [header, content], retries := 0 })) ∧
      ∀ header activation, j.reads = [header, activation] →
        let k : Job := { j with reads := [header, activation, content], retries := 0 }
        let ours := headerCase header = some j.caseNo
        let writing : Job := { k with phase := .write, grantCount := 0 }
        (j.mode = .first →
          let accepted :=
            content = none ∧ activation = none ∧ card.family = target ∧ (header = none ∨ ours)
          let completed :=
            content = none ∧ activation ≠ none ∧ ours ∧ c.issue.map (fun f => f.serial) = some card.serial
          (accepted → once →
            let fig := issueFigures target card.serial s.clock.announcedDay c
            let first : Job := { writing with target := some card.serial, nextSegment := 0 }
            let figured : State :=
              { taken first with cases := s.cases.map fun d => if d.number = c.number then { c with issue := some fig } else d }
            ∃ u, AsksForGrant p first (writeOf card.serial first fig) figured u ∧ outcome (stampFloor s u)) ∧
          (∀ fig, completed → c.issue = some fig → mayIssue →
            let done : Job := { k with target := some card.serial }
            ∃ t, outcome t ∧ JobIssues p .issuedUnverified target done c fig (taken done) t) ∧
          (¬ accepted → ¬ completed → NothingDue c s →
            ∃ t, outcome t ∧ JobFails p .cardRejected k c (taken k) t)) ∧
        (j.mode = .afterTear →
          (∀ fig, content = none → activation = none → (header = none ∨ ours) → c.issue = some fig →
            let next : Job := { writing with nextSegment := if header = none then 0 else j.nextSegment }
            ∃ u, AsksForGrant p next (writeOf (j.target.getD 0) next fig) (taken next) u ∧ outcome u) ∧
          (∀ fig, content = none → activation ≠ none → ours → j.target = some card.serial → c.issue = some fig → mayIssue →
            ∃ t, outcome t ∧ JobIssues p .issuedUnverified target k c fig (taken k) t) ∧
          ((content ≠ none ∨ (header ≠ none ∧ ¬ ours) ∨ (header = none ∧ activation ≠ none)) → NothingDue c s →
            ∃ t, outcome t ∧ JobFails p .cardRejected k c (taken k) t))) ∧
    (∀ target fig, j.kind = .issue target → j.phase = .verify → j.nextSegment = seg → before.mode = .careful →
      c.issue = some fig →
      let confirmed : Job := { j with nextSegment := seg + 1, grantCount := j.grantCount + 1, retries := 0 }
      let again : Job := { confirmed with phase := .write }
      (content = issueContent j.caseNo fig seg →
        (j.abortPending = true → NothingDue c s →
          ∃ t, outcome t ∧ JobFails p .aborted confirmed c (taken confirmed) t) ∧
        (j.abortPending = false → seg = activationSegment target → mayIssue →
          ∃ t, outcome t ∧ JobIssues p .issued target confirmed c fig (taken confirmed) t) ∧
        (j.abortPending = false → seg ≠ activationSegment target →
          ∃ t, outcome t ∧
            Released
              { taken again with
                signing := { s.signing with waiting := setWaiting (.port p) true s.signing.waiting } } t)) ∧
      (content ≠ issueContent j.caseNo fig seg →
        (j.abortPending = true → NothingDue c s → ∃ t, outcome t ∧ JobFails p .aborted j c (taken j) t) ∧
        (j.abortPending = false → (before.retryLimit = 0 ∨ j.retries < before.retryLimit) →
          outcome
            { s with
              ports := s.ports.set p
                { before with
                  timeouts := 0, job := some { j with retries := min 15 (j.retries + 1) }
                  outstanding := some ⟨writeOf (s.signing.context.getD 0) j fig, s.clock.second, before.timeout⟩ } }) ∧
        (j.abortPending = false → 0 < before.retryLimit → before.retryLimit ≤ j.retries → NothingDue c s →
          ∃ t, outcome t ∧ JobFails p .writeFailed j c (taken j) t))) ∧
    (j.kind = .recover → j.phase = .check →
      let accepted := ∃ issueDay caseNo,
        content = some (.header c.snapshot.cardNo c.snapshot.family issueDay caseNo)
      (accepted →
        outcome (reading 1 { j with
          phase := .read, target := if j.mode = .first then some card.serial else j.target, contents := none
          retries := 0 })) ∧
      (¬ accepted → NothingDue c s → ∃ t, outcome t ∧ JobFails p .cardRejected j c (taken j) t)) ∧
    (j.kind = .recover → j.phase = .read →
      let read := j.contents.getD ⟨[], none, none⟩
      let keeps (r : ReadContents) : Job := { j with contents := some r, retries := 0 }
      (1 ≤ seg → seg < purseSegment card.family →
        (∀ q, content = some (.product q) →
          outcome (reading (seg + 1) (keeps { read with products := read.products ++ [q] }))) ∧
        (content = none → outcome (reading (seg + 1) (keeps read)))) ∧
      (seg = purseSegment card.family →
        (∀ b n, content = some (.purse b n) → outcome (reading 15 (keeps { read with purse := some (b, n) }))) ∧
        (content = none → ∃ (b : Int) (n : Nat), -5000 ≤ b ∧ b ≤ purseMax card.family ∧ n < 16777216 ∧
          outcome (reading 15 (keeps { read with purse := some (b, n) })))) ∧
      (seg = 15 →
        (∀ n, content = some (.blockMark n) → c.state ≠ .settled →
          let r : ReadContents := { read with mark := some (some n) }
          ∃ t, outcome t ∧ JobRecovers p .recovered .alreadyPresent (keeps r) c r (taken (keeps r)) t) ∧
        (content = none →
          let r : ReadContents := { read with mark := some none }
          let k : Job := { keeps r with phase := .mark }
          ∃ u, AsksForGrant p k (markOfContents (j.target.getD 0) r) (taken k) u ∧ outcome u)))

/-- R147 to R150, R157, R169, R32: a DONE of the WRITE in flight. In BURST mode it confirms the segment: the next WRITE follows under
the grant, the fourth segment of a grant releases it with a new request, before the pick of the next grantee, and the activation
ends the job ISSUED, which takes a case from WATCH to HOLDING with its new card. In CAREFUL mode it is read back, also after the
repeat of a mismatch, which keeps the retries used (log entry 11). With abort pending the job ends ABORTED, in BURST mode with
the segment counted as confirmed (log entry 13). The write code as a function of serial, segment number and content is log entry 1. -/
def Obligations.DoneConfirmsInBurst : Prop :=
  ∀ (s : State) (p : Port) (j : Job) (target : Family) (seg : Nat) (content : Option Segment) (code : Code)
    (sent : Option Nat) (timeout : Nat) (c : Case) (fig : IssueFigures),
    inService (s.port p) = true → (s.port p).job = some j → j.kind = .issue target → j.nextSegment = seg →
    (s.port p).outstanding = some ⟨.write seg content code, sent, timeout⟩ →
    s.findCase j.caseNo = some c → c.issue = some fig →
    let before := s.port p
    let confirmed : Job := { j with nextSegment := seg + 1, grantCount := j.grantCount + 1, retries := 0 }
    let with' (k : Job) (o : Option Outstanding) : State :=
      { s with ports := s.ports.set p { before with timeouts := 0, job := some k, outstanding := o } }
    let readBack := some (⟨.read seg, s.clock.second, before.timeout⟩ : Outstanding)
    (before.mode = .burst → j.phase = .write →
      (j.abortPending = true → NothingDue c s →
        ∃ t, exec (.done p) s = .next t ∧ JobFails p .aborted confirmed c (with' confirmed none) t) ∧
      (j.abortPending = false → seg ≠ activationSegment target → j.grantCount + 1 < 4 →
        exec (.done p) s = .next
          (with' confirmed
            (some ⟨writeOf (s.signing.context.getD 0) confirmed fig, s.clock.second, before.timeout⟩))) ∧
      (j.abortPending = false → seg ≠ activationSegment target → j.grantCount + 1 = 4 →
        (∃ t, exec (.done p) s = .next t ∧
          Released
            { with' confirmed none with
              signing := { s.signing with waiting := setWaiting (.port p) true s.signing.waiting } } t) ∧
        (s.signing.grantee = some (.port p) → s.signing.waiting = {} →
          exec (.done p) s = .next
            { with' { confirmed with grantCount := 0 }
                (some ⟨writeOf (j.target.getD 0) confirmed fig, s.clock.second, before.timeout⟩) with
              signing := { s.signing with
                context := j.target, lastFirst := .port p, computation := none } })) ∧
      (j.abortPending = false → seg = activationSegment target → (∀ d ∈ s.cases, d.number = c.number → d = c) →
        (c.state = .watch ∨ (c.state = .settled ∧ c.newCard = none)) →
        (NothingDue c s →
          ∃ t, exec (.done p) s = .next t ∧ JobIssues p .issued target confirmed c fig (with' confirmed none) t) ∧
        (c.state = .watch → c.settleDue = some .forced → c.conflicts = [] → s.clock.second ≠ none →
          ∃ v, JobIssues p .issued target confirmed c fig (with' confirmed none) v ∧
            exec (.done p) s = .next (settle .forced c.number (unmarked c.number v))))) ∧
    ((before.mode = .careful ∧ j.phase = .write ∨ j.phase = .verify) →
      (j.abortPending = true → NothingDue c s →
        ∃ t, exec (.done p) s = .next t ∧ JobFails p .aborted j c (with' j none) t) ∧
      (j.abortPending = false → j.phase = .write →
        exec (.done p) s = .next (with' { j with phase := .verify, retries := 0 } readBack)) ∧
      (j.abortPending = false → j.phase = .verify → exec (.done p) s = .next (with' j readBack)))

/-- R155, R158, R160, R34, R80: the DONE of a MARK ends a RECOVER job RECOVERED, with the mark written: the hold on the signing unit is
given up, the report carries the contents read, and the case settles FROM_CARD with them and joins the statement queue. -/
def Obligations.DoneOfAMarkRecovers : Prop :=
  ∀ (s : State) (p : Port) (j : Job) (code : Code) (sent : Option Nat) (timeout : Nat) (c : Case) (read : ReadContents),
    inService (s.port p) = true → (s.port p).job = some j → j.kind = .recover →
    (s.port p).outstanding = some ⟨.mark code, sent, timeout⟩ → s.findCase j.caseNo = some c → c.state ≠ .settled →
    j.contents = some read → read.mark = some none →
    ∃ t : State, exec (.done p) s = .next t ∧
      JobRecovers p .recovered .written j c read
        { s with ports := s.ports.set p { s.port p with timeouts := 0, outstanding := none } } t

/-- R141, R142, R149, R155, R157: a FAULT, a DATA whose content is a data error, or a timeout below the fence threshold repeats a
job's command while its retries allow, with one more retry used. When they are spent a READ or WRITE ends the job WRITE_FAILED and
a MARK ends it RECOVERED_UNMARKED; with abort pending it ends ABORTED. A SENSE is not repeated, and a message zeroes the timeout
count that a timeout raises. Which content is a data error is log entry 12; that a WRITE repeated in VERIFY after a mismatch is, when
it fails, sent again as a WRITE with its count kept is log entry 11. -/
def Obligations.FailuresAreRetried : Prop :=
  ∀ (s : State) (p : Port) (cmd : Command) (sent : Option Nat) (timeout : Nat), inService (s.port p) = true →
    (s.port p).outstanding = some ⟨cmd, sent, timeout⟩ →
    let before := s.port p
    let raised := min 15 (before.timeouts + 1)
    let failure (i : Instr) (timeouts : Nat) : Prop :=
      (∃ cause, i = .fault p cause ∧ timeouts = 0) ∨
        (i = .responseTimeout p ∧ raised < before.fenceThreshold ∧ timeouts = raised)
    let freed (timeouts : Nat) : PortRec := { before with timeouts := timeouts, outstanding := none }
    (∀ seg card content, cmd = .read seg → before.card = some card →
      contentOk card.family seg content = false →
      exec (.data p content) s = exec (.fault p .dataError) s) ∧
    ∀ i timeouts, failure i timeouts →
      let after : State := { s with ports := s.ports.set p (freed timeouts) }
      (cmd = .sense → exec i s = .next after) ∧
      (cmd ≠ .sense → ∀ j, before.job = some j →
        (j.abortPending = false → (before.retryLimit = 0 ∨ j.retries < before.retryLimit) →
          exec i s = .next
            { s with
              ports := s.ports.set p
                { freed timeouts with
                  job := some { j with retries := min 15 (j.retries + 1) }
                  outstanding := some ⟨cmd, s.clock.second, before.timeout⟩ } }) ∧
        ∀ c, s.findCase j.caseNo = some c →
          (j.abortPending = true → NothingDue c s → ∃ t, exec i s = .next t ∧ JobFails p .aborted j c after t) ∧
          (j.abortPending = false → 0 < before.retryLimit → before.retryLimit ≤ j.retries →
            ((∀ code, cmd ≠ .mark code) → NothingDue c s →
              ∃ t, exec i s = .next t ∧ JobFails p .writeFailed j c after t) ∧
            (∀ code read, cmd = .mark code → j.kind = .recover → j.contents = some read → read.mark = some none →
              c.state ≠ .settled →
              ∃ t, exec i s = .next t ∧ JobRecovers p .recoveredUnmarked .notWritten j c read after t)))

/-- R142, R158: a timeout at the fence threshold fences the port: the mark is set, card and command go, and the fence is reported on
channel 0. A job ends PORT_FENCED before: its hold on the signing unit is given up, its ISSUE DONE or RECOVER DONE is queued on the
channel of the case's owner, and then what waits for its end is taken, a settle due mark (R35) or a retention reached (R37). -/
def Obligations.TimeoutAtTheThresholdFences : Prop :=
  ∀ (s : State) (p : Port) (o : Outstanding), inService (s.port p) = true → (s.port p).outstanding = some o →
    let before := s.port p
    let raised := min 15 (before.timeouts + 1)
    before.fenceThreshold ≤ raised →
    let fenced : PortRec :=
      { before with timeouts := raised, fenced := true, card := none, outstanding := none, job := none }
    (before.job = none →
      exec (.responseTimeout p) s = .next
        { s with
          ports := s.ports.set p fenced
          channels := withReport 0 ⟨none, 0, .portFenced p none raised s.clock.second⟩ s.channels }) ∧
    (∀ j c, before.job = some j → s.findCase j.caseNo = some c →
      let ending : State := { s with ports := s.ports.set p { fenced with job := some j } }
      let reported (u : State) : State :=
        { u with channels := withReport 0 ⟨none, 0, .portFenced p (some j.caseNo) raised s.clock.second⟩ u.channels }
      ∃ v, JobFails p .portFenced j c ending v ∧
        (NothingDue c s → exec (.responseTimeout p) s = .next (reported v)) ∧
        (c.state ≠ .settled → c.settleDue = some .forced → c.conflicts = [] → s.clock.second ≠ none →
          exec (.responseTimeout p) s = .next (stampFloor s (reported (settle .forced c.number (unmarked c.number v))))) ∧
        exec (.responseTimeout p) s = .next
          (stampFloor s (reported (match j.kind with
            | .issue _ => retentionTest c.number (takeDue c.number v)
            | .recover => takeDue c.number v)))) ∧
    (∀ j, before.job = some j →
      ∃ t : State, exec (.responseTimeout p) s = .next t ∧ t.port p = fenced ∧
        (∀ d ∈ t.cases, d.number = j.caseNo → d.job = none) ∧
        ((t.channels[(0 : Fin 4)].queue.getLast? =
            some ⟨none, 0, .portFenced p (some j.caseNo) raised s.clock.second⟩) ∨
          s.channels[(0 : Fin 4)].dropped < t.channels[(0 : Fin 4)].dropped ∨
          t.channels[(0 : Fin 4)].dropped = 255) ∧
        (t.clock = s.clock ∨ t.clock = stamped s.clock) ∧
        t = { s with
          cases := t.cases, channels := t.channels, hotlist := t.hotlist, signing := t.signing, ports := t.ports
          clock := t.clock })

/-- R152, R158, R35, R37: when the clock has reached the end of a TORN job's window the job ends TORN_TIMEOUT, its hold on the signing
unit given up and its report queued. A settle due mark of the case is then taken: a FORCED one settles it or lapses with a report when
conflicts are listed, an AUTOMATIC one tests it. A SETTLED case whose retention was reached closes. That nothing happens before that
moment is the model's reading of a command that cannot arise (log entry 5). -/
def Obligations.TearWindowEndsTheJob : Prop :=
  ∀ (s : State) (p : Port) (j : Job) (now e : Nat), (s.port p).job = some j → j.phase = .torn → j.tearEnd = some e →
    s.clock.second = some now →
    (now < e → exec (.tearWindowExpiry p) s = .next s) ∧
    (e ≤ now → ∀ c, s.findCase j.caseNo = some c →
      (∀ target, j.kind = .issue target → c.settleDue = none → c.state ≠ .settled →
        s.signing.grantee ≠ some (.port p) → (∀ d ∈ s.cases, d.number = c.number → d = c) →
        exec (.tearWindowExpiry p) s = .next
          { s with
            cases := s.cases.map fun d => if d.number = c.number then { c with job := none } else d
            signing := { s.signing with waiting := setWaiting (.port p) false s.signing.waiting }
            ports := s.ports.set p { s.port p with job := none, outstanding := none }
            channels := withReport s.links[c.owner].channel
              ⟨some c.owner, s.links[c.owner].station,
                .issueDone j.caseNo p .tornTimeout target j.target j.nextSegment c.attempts
                  (if j.target.isSome then c.issue else none) none⟩ s.channels }) ∧
      (NothingDue c s →
        ∃ t, exec (.tearWindowExpiry p) s = .next t ∧ JobFails p .tornTimeout j c s t) ∧
      ∃ v, JobFails p .tornTimeout j c s v ∧
        let u := unmarked c.number v
        let due := c.quietEnd ≤ s.clock.announcedDay ∨ closedAll s.zones c.zonesClosed = true
        let kind := if closedAll s.zones c.zonesClosed = true ∧ gapCount c = 0 then SettlementKind.exact else .presumed
        (c.state ≠ .settled →
          (c.settleDue = some .forced → c.conflicts = [] →
            exec (.tearWindowExpiry p) s = .next (stampFloor s (settle .forced c.number u))) ∧
          (c.settleDue = some .forced → c.conflicts ≠ [] →
            exec (.tearWindowExpiry p) s = .next
              (stampFloor s { u with
                channels := withReport s.links[c.owner].channel
                  ⟨some c.owner, s.links[c.owner].station,
                    .caseReview c.number none c.review (gapCount c) c.cmax c.chain.length c.conflicts.length
                      c.conflictOverflow c.overflows c.duplicates⟩ u.channels })) ∧
          (c.settleDue = some .automatic → (¬ due ∨ c.review ≠ ⟨false, false, false⟩) →
            exec (.tearWindowExpiry p) s = .next (stampFloor s u)) ∧
          (c.settleDue = some .automatic → due → c.review = ⟨false, false, false⟩ → gapCount c ≤ 64 →
            exec (.tearWindowExpiry p) s = .next (stampFloor s (settle kind c.number u)))) ∧
        (∀ target f, j.kind = .issue target → c.state = .settled → c.settlement = some f → c.settleDue = none →
          f.day + s.settings.retentionDays ≤ s.clock.announcedDay → f.statementPending = false →
          exec (.tearWindowExpiry p) s = .next (stampFloor s (endCase false c.number v))))

/-! ### Links and reports -/

/-- R177: LINK CREATE takes the lowest-numbered FREE record for an ACTIVE child of the requesting link, whose rights it may not
exceed; a bound zone comes with FEED. The body's fields stand in the order of the rule's prose by the model's choice (log entry 29).
-/
def Obligations.LinkCreateTakesTheLowestFreeRecord : Prop :=
  ∀ (r : Request) (l n : LinkId) (rest : List BufferPlace) (s : State) (rights : Rights) (ch : Fin 4) (zone : Option ZoneId),
    Reaches .linkCreate r l rest s → readRights (fieldAt 0 1 r.body) = some rights →
    channelOf (fieldAt 1 1 r.body) = some ch →
    ((fieldAt 2 1 r.body = 0 ∧ zone = none) ∨
      (rights.feed = true ∧ ∃ z, zoneOf (fieldAt 2 1 r.body) = some z ∧ zone = some z)) →
    (rights.opens = true → s.links[l].rights.opens = true) → (rights.approve = true → s.links[l].rights.approve = true) →
    (rights.feed = true → s.links[l].rights.feed = true) → (rights.admin = true → s.links[l].rights.admin = true) →
    (rights.grants = true → s.links[l].rights.grants = true) →
    n ≠ rootLink → s.links[n].state = .free → (∀ m : LinkId, m < n → m ≠ rootLink → s.links[m].state ≠ .free) →
    Completes .linkCreate r rest s
      { s with links := s.links.set n ⟨.active, rights, ch, some l, zone, fieldAt 3 2 r.body⟩ }
      ⟨.done, .linkCreated n⟩

/-- R178, R179, R180: LINK MOVE, LINK SUSPEND and LINK RESUME change the one record of a target that the requesting link manages,
and LINK DELETE frees it, with its cases given to the recipient. Each body's fields stand in the order of its rule's prose by the
model's choice (log entry 29). -/
def Obligations.LinkManagementChangesTheTarget : Prop :=
  ∀ (r : Request) (l target : LinkId) (rest : List BufferPlace) (s : State),
    linkOf (fieldAt 0 1 r.body) = some target → s.links[target].state ≠ .free → target ≠ rootLink →
    (s.links[target].creator = some l ∨ l = rootLink) →
    let record := s.links[target]
    let freed := s.links.set target ⟨.free, ⟨false, false, false, false, false⟩, 0, none, none, 0⟩
    (∀ ch, Reaches .linkMove r l rest s → channelOf (fieldAt 1 1 r.body) = some ch →
      Completes .linkMove r rest s
        { s with links := s.links.set target { record with channel := ch, station := fieldAt 2 2 r.body } }
        ⟨.done, .none⟩) ∧
    (Reaches .linkSuspend r l rest s →
      Completes .linkSuspend r rest s { s with links := s.links.set target { record with state := .suspended } }
        ⟨.done, .none⟩) ∧
    (Reaches .linkResume r l rest s →
      Completes .linkResume r rest s { s with links := s.links.set target { record with state := .active } }
        ⟨.done, .none⟩) ∧
    (Reaches .linkDelete r l rest s → fieldAt 1 1 r.body ≤ 32 →
      (∀ c : LinkId, s.links[c].state ≠ .free → s.links[c].creator ≠ some target) →
      ((∀ c ∈ s.cases, c.owner ≠ target) →
        Completes .linkDelete r rest s { s with links := freed } ⟨.done, .linkDeleted 0⟩) ∧
      (∀ recipient, (∃ c ∈ s.cases, c.owner = target) → linkOf (fieldAt 1 1 r.body) = some recipient →
        recipient ≠ target → s.links[recipient].state = .active → s.links[recipient].rights.opens = true →
        Completes .linkDelete r rest s
          (stampFloor s { s with
            links := freed
            cases := s.cases.map fun c => if c.owner = target then { c with owner := recipient } else c })
          ⟨.done, .linkDeleted (s.cases.filter fun c => c.owner = target).length⟩))

/-- R184: REPORT FETCH takes the head of the lowest-numbered channel whose queue is not empty, with its dropped count, which becomes 0,
and the number of reports left in all four; from four empty queues it takes nothing. -/
def Obligations.ReportFetchTakesTheFirstReport : Prop :=
  ∀ (r : Request) (l : LinkId) (rest : List BufferPlace) (s : State), Reaches .reportFetch r l rest s →
    ((∀ c : Fin 4, s.channels[c].queue = []) → Completes .reportFetch r rest s s ⟨.done, .noReport⟩) ∧
    ∀ (c : Fin 4) (head : Report) (tail : List Report), s.channels[c].queue = head :: tail →
      (∀ d : Fin 4, d < c → s.channels[d].queue = []) →
      Completes .reportFetch r rest s { s with channels := s.channels.set c ⟨tail, 0⟩ }
        ⟨.done, .report c s.channels[c].dropped
          ((s.channels.toList.map fun x => x.queue.length).sum - 1) head⟩

/-! ### Clock and settings -/

/-- R192, R152: TIME SET is refused below the floor or the running clock; a later second becomes the clock and the floor, the announced
day follows the computed day, every tear window it passes ends its job, and what settles, at the rollover or at the end of such a job,
settles on that day, whichever is taken first. -/
def Obligations.TimeSetMovesTheClock : Prop :=
  ∀ (r : Request) (l : LinkId) (rest : List BufferPlace) (s : State), Reaches .timeSet r l rest s →
    let second := fieldAt 0 4 r.body
    let day := (second - 60 * s.settings.rolloverMinute) / 86400
    ((second < s.clock.floor ∨ ∃ now, s.clock.second = some now ∧ second < now) →
      Completes .timeSet r rest s s ⟨.timeBackward, .none⟩) ∧
    (s.clock.floor ≤ second → s.clock.second = some second →
      Completes .timeSet r rest s s ⟨.done, .timeSet second s.clock.announcedDay false⟩) ∧
    (s.clock.floor ≤ second → (∀ now, s.clock.second = some now → now < second) →
      ∃ t : State,
        Completes .timeSet r rest s t
          ⟨.done, .timeSet second (max s.clock.announcedDay day) (decide (s.clock.announcedDay < day))⟩ ∧
        t.clock = ⟨some second, second, 0, max s.clock.announcedDay day⟩ ∧
        (∀ p j e, (s.port p).job = some j → j.phase = .torn → j.tearEnd = some e → e ≤ second →
          (t.port p).job = none) ∧
        (∀ d ∈ t.cases, ∀ f, d.settlement = some f →
          f.day = max s.clock.announcedDay day ∨ ∃ c ∈ s.cases, c.number = d.number ∧ c.settlement = some f) ∧
        (day ≤ s.clock.announcedDay →
          (∀ p j e, (s.port p).job = some j → j.phase = .torn → j.tearEnd = some e → second < e) →
          t = { s with clock := t.clock }) ∧
        t = { s with
          cases := t.cases, channels := t.channels, hotlist := t.hotlist, zones := t.zones, ports := t.ports
          signing := t.signing, clock := t.clock, choices := t.choices })

/-- R193, R107, R191: SETTINGS SET stores the four values, its numbers clamped, makes the rollover test with the new minute and tests
the automatic cut. -/
def Obligations.SettingsSetStoresAndTests : Prop :=
  ∀ (r : Request) (l : LinkId) (rest : List BufferPlace) (s : State) (mode : ArbMode),
    Reaches .settingsSet r l rest s → arbModeOf (fieldAt 5 1 r.body) = some mode →
    let minute := min 1439 (fieldAt 0 2 r.body)
    let cut := max 1 (min 64 (fieldAt 2 1 r.body))
    let days := max 30 (min 400 (fieldAt 3 2 r.body))
    let values : Settings := ⟨minute, cut, days, mode⟩
    let due := ∃ now, s.clock.second = some now ∧ s.clock.announcedDay < (now - 60 * minute) / 86400
    ∃ t : State,
      Completes .settingsSet r rest s t
        ⟨.done, .settings values
          [decide (fieldAt 0 2 r.body ≠ minute), decide (fieldAt 2 1 r.body ≠ cut), decide (fieldAt 3 2 r.body ≠ days)]⟩ ∧
      t.settings = values ∧
      (∀ now, s.clock.second = some now →
        t.clock.announcedDay = max s.clock.announcedDay ((now - 60 * minute) / 86400)) ∧
      (¬ due → t.hotlist = cutIfDue cut s.hotlist ∧
        t = { s with settings := values, hotlist := t.hotlist, signing := t.signing }) ∧
      t = { s with
        settings := values, cases := t.cases, channels := t.channels, hotlist := t.hotlist, zones := t.zones
        signing := t.signing, clock := t.clock, choices := t.choices }

/-- R191, R136, R25, R37, R108: a second of running, after a due floor write; a computed day past the announced day becomes the
announced day, at which every fed zone is tested for dormancy, every case past its quiet end day that nothing keeps from settling
settles, the SETTLED cases that have reached retention close and no other case ends, and an idle hotlist unit with changes pending
starts a cut. The floor write is made ten minutes of running after the last, by the model's count of them (log entry 8). That an
unset clock does neither, and that a floor write which is not due does nothing, is log entry 5. -/
def Obligations.ClockTicksAndRollsOver : Prop :=
  ∀ s : State,
    (s.clock.second = none → exec .clockTick s = .next s ∧ exec .timeFloorWrite s = .next s) ∧
    ∀ now, s.clock.second = some now →
      let second := min 4294967295 (now + 1)
      let day := (second - 60 * s.settings.rolloverMinute) / 86400
      let floor := if 600 ≤ s.clock.floorAge then now else s.clock.floor
      let age := if 600 ≤ s.clock.floorAge then 1 else s.clock.floorAge + 1
      let closing (c : Case) : Bool := match c.settlement with
        | none => false
        | some f =>
          decide (c.state = .settled ∧ f.day + s.settings.retentionDays ≤ day ∧ c.job = none ∧ f.statementPending = false)
      (exec .timeFloorWrite s = .next
        { s with
          clock := if 600 ≤ s.clock.floorAge then { s.clock with floor := now, floorAge := 0 } else s.clock }) ∧
      (day ≤ s.clock.announcedDay →
        exec .clockTick s = .next { s with clock := ⟨some second, floor, age, s.clock.announcedDay⟩ }) ∧
      (s.clock.announcedDay < day → CaseTableOk s →
        ∃ t : State, exec .clockTick s = .next t ∧
          (t.clock = ⟨some second, floor, age, day⟩ ∨ t.clock = ⟨some second, second, 0, day⟩) ∧
          (∀ z : ZoneId, t.zones[z] =
            if isFed s.zones[z].state = true then
              match s.zones[z].lastCommit with
              | none => { s.zones[z] with lastCommit := some day }
              | some d =>
                if s.zones[z].dormant = false ∧ d + s.zones[z].dormancy ≤ day then { s.zones[z] with dormant := true }
                else s.zones[z]
            else s.zones[z]) ∧
          (∀ c ∈ s.cases, c.state ≠ .settled → c.job = none → c.settleDue = none → c.review = ⟨false, false, false⟩ →
            gapCount c ≤ 64 → c.quietEnd ≤ day →
            settledCase (chainSettlement
              (if closedAll s.zones c.zonesClosed = true ∧ gapCount c = 0 then .exact else .presumed) day c) c ∈ t.cases) ∧
          t.cases.map (fun c => c.number) = (s.cases.filter fun c => !closing c).map (fun c => c.number) ∧
          ((∀ c ∈ s.cases, closing c = false) → t.hotlist = cutIfDue 1 s.hotlist) ∧
          t = { s with
            cases := t.cases, channels := t.channels, hotlist := t.hotlist, zones := t.zones, signing := t.signing
            clock := t.clock, choices := t.choices })

/-! ### Terminal line and restarts -/

/-- R186, R187: the bytes of a frame, with its length and its CRC, are received as that frame, which takes a free place of the two or
is counted and flagged as an overrun; a frame error, and more than 10 ms between two bytes, raise the frame error count. That a
byte's most significant bit enters the CRC first is the model's choice (log entry 28). -/
def Obligations.FramesReachTheBuffer : Prop :=
  ∀ s : State,
    (∀ f : Frame, f.body.length ≤ 508 →
      exec (.frameReceived (frameBytes f)) s = .next
        { s with
          terminal :=
            if s.terminal.buffer.length < 2 then { s.terminal with buffer := s.terminal.buffer ++ [⟨f, none⟩] }
            else { s.terminal with overruns := min 65535 (s.terminal.overruns + 1), overrunFlag := true } }) ∧
    (∀ cause, exec (.frameError cause) s = .next
      { s with terminal := { s.terminal with frameErrors := min 65535 (s.terminal.frameErrors + 1) } }) ∧
    exec .interByteTimeout s = .next
      { s with terminal := { s.terminal with frameErrors := min 65535 (s.terminal.frameErrors + 1) } }

/-- R196, R185, R164, R138, R173, R114, R43: DEVICE RESET and DEVICE ERASE are answered DONE, the sending of that answer makes the
restart due, and a restart leaves the stored state: no job, no command but SENSE, no open batch, the channels empty but for RESTARTED
and what follows it. The signing unit starts afresh, and the statement member asks when its queue is not empty; the hotlist unit is
idle with its changes untaken, those of ended cases that no package published gone, and tests its automatic trigger. Settle due marks
are taken when the clock is set. Power-on and NRST unset the clock; DEVICE ERASE leaves the erased store. -/
def Obligations.RestartsLeaveTheStoredState : Prop :=
  (∀ r l rest s, Reaches .deviceReset r l rest s → Completes .deviceReset r rest s s ⟨.done, .none⟩) ∧
  (∀ r l rest s, Reaches .deviceErase r l rest s → Completes .deviceErase r rest s s ⟨.done, .none⟩) ∧
  (∀ (s : State) (f : Frame) (a : Answer) (rest : List BufferPlace), s.terminal.buffer = ⟨f, some a⟩ :: rest →
    exec .answerSent s = .next
      { s with
        terminal := { s.terminal with
          buffer := rest
          restartDue :=
            if a.reply.status = .done ∧ a.kind = 38 then some .deviceReset
            else if a.reply.status = .done ∧ a.kind = 39 then some .deviceErase
            else none } }) ∧
  (∀ s : State, s.terminal.restartDue = some .deviceErase →
    exec .restart s = .next
      { State.reset with
        channels := State.reset.channels.set (0 : Fin 4) ⟨[⟨none, 0, .restarted .deviceErase none⟩], 0⟩
        choices := s.choices, pending := s.pending }) ∧
  ∀ (c : Instr) (kind : RestartKind) (s : State),
    ((c = .powerOn ∨ c = .nrstRelease) ∧ kind = .powerOn) ∨
      (c = .restart ∧ s.terminal.restartDue = some .deviceReset ∧ kind = .deviceReset) →
    let clock := if kind = .powerOn then none else s.clock.second
    let live (n : Nat) : Bool := s.cases.any fun d => d.number = n
    let unpublished (n : Nat) : Bool := s.hotlist.pending.any fun x => decide (x.kind = .add ∧ x.caseNo = n)
    let kept := s.hotlist.pending.filter fun x => live x.caseNo || !unpublished x.caseNo
    ∃ t : State, exec c s = .next t ∧ t.clock.second = clock ∧ t.clock.announcedDay = s.clock.announcedDay ∧
      t.terminal = ⟨[], false, 0, 0, none⟩ ∧
      t.channels[(0 : Fin 4)].queue.head? = some ⟨none, 0, .restarted kind clock⟩ ∧
      (∀ p, t.port p = { s.port p with
        timeouts := 0, card := none, job := none
        outstanding := if inService (s.port p) = true then some ⟨.sense, clock, (s.port p).timeout⟩ else none }) ∧
      (∀ z : ZoneId, t.zones[z] = { s.zones[z] with
        state := if isFed s.zones[z].state = true then .hunt else s.zones[z].state
        batch := none, counts := ⟨0, 0, 0, 0⟩, committed := 0, matched := 0, unmatched := 0 }) ∧
      (∀ d ∈ t.cases, d.job = none) ∧ t.cases.map (fun d => d.number) = s.cases.map (fun d => d.number) ∧
      (kind = .powerOn → t.cases = s.cases.map (fun d => { d with job := none }) ∧
        t.signing.queue = s.signing.queue ∧ t.channels.toList.tail = List.replicate 3 ⟨[], 0⟩) ∧
      (CaseTableOk s → (clock ≠ none → ∀ d ∈ t.cases, d.settleDue = none) ∧
        ∀ d ∈ s.cases,
          (d.settleDue = none → { d with job := none } ∈ t.cases) ∧
          (d.settleDue = some .forced → d.state ≠ .settled → d.conflicts = [] → clock ≠ none →
            settledCase (chainSettlement .forced s.clock.announcedDay d) { d with job := none } ∈ t.cases)) ∧
      (∃ settled, t.signing.queue = s.signing.queue ++ settled) ∧
      t.hotlist = cutIfDue s.settings.autoCut
        { s.hotlist with packaging := .idle, pending := kept.map fun x => { x with taken := false } } ∧
      (t.signing.queue = [] → t.hotlist.packaging = .idle →
        t.signing = ⟨none, ⟨false, false, false, false, false, false⟩, .group, .statement, none, none, []⟩) ∧
      (t.signing.queue ≠ [] → t.hotlist.packaging = .idle →
        t.signing.grantee = some .statement ∧ t.signing.waiting = ⟨false, false, false, false, false, false⟩) ∧
      (t.signing.queue = [] → t.hotlist.packaging = .packaging →
        t.signing.grantee = some .hotlist ∧ t.signing.waiting = ⟨false, false, false, false, false, false⟩) ∧
      (t.signing.queue ≠ [] → t.hotlist.packaging = .packaging →
        (t.signing.grantee = some .statement ∧ t.signing.waiting = ⟨false, false, false, false, true, false⟩) ∨
          (t.signing.grantee = some .hotlist ∧ t.signing.waiting = ⟨false, false, false, false, false, true⟩)) ∧
      t = { s with
        terminal := t.terminal, channels := t.channels, cases := t.cases, hotlist := t.hotlist, zones := t.zones
        ports := t.ports, signing := t.signing, clock := t.clock, choices := t.choices }

/-! ### Completions of the signing unit -/

/-- R170, R167, R168, R111, R112: a package completion raises the generation, gives it to the live cases and entries whose ADDs the
package holds, deletes the taken changes, reports the package with its code, and tests the automatic cut, whose start asks for a new
grant before the pick of the next grantee. The package code as a function of package and generation is log entry 1. -/
def Obligations.PackageCompletes : Prop :=
  ∀ (s : State) (inputs : PackageInputs), s.signing.grantee = some .hotlist →
    s.signing.computation = some (.package inputs) →
    let pkg := s.hotlist.pending.filter fun c => c.taken
    let untaken := s.hotlist.pending.filter fun c => !c.taken
    let generation := s.hotlist.generation + 1
    let published (e : MasterEntry) : Bool :=
      pkg.any fun c => decide (c.kind = .add ∧ c.cardNo = e.cardNo ∧ c.caseNo = e.caseNo)
    ∃ t : State, exec .hotlistGrantCompletion s = .next t ∧
      t.hotlist = cutIfDue s.settings.autoCut
        ⟨s.hotlist.master.map fun e => if published e then { e with addGen := some generation } else e, untaken,
          generation, .idle⟩ ∧
      t.cases = s.cases.map (fun c =>
        if s.hotlist.master.any (fun e => published e && decide (e.caseNo = c.number)) then
          { c with generation := some generation }
        else c) ∧
      t.channels = withReport 0
        ⟨none, 0, .hotlistPackage generation pkg (pkg.filter fun c => c.kind = .add).length
          (pkg.filter fun c => c.kind = .remove).length
          (pkg.filter fun c => c.kind = .add ∧
            ¬ ∃ e ∈ s.hotlist.master, e.cardNo = c.cardNo ∧ e.caseNo = c.caseNo).length
          untaken.length (Config.packageCode inputs)⟩ s.channels ∧
      t.signing.queue = s.signing.queue ∧ (t.clock = s.clock ∨ t.clock = stamped s.clock) ∧
      (∃ v, Released
          { s with
            hotlist := t.hotlist, cases := t.cases, channels := t.channels
            signing := { s.signing with
              waiting :=
                if t.hotlist.packaging = .packaging then setWaiting .hotlist true s.signing.waiting
                else s.signing.waiting } } v ∧
        t.signing = v.signing ∧ t.ports = v.ports) ∧
      t = { s with
        hotlist := t.hotlist, cases := t.cases, channels := t.channels, ports := t.ports, signing := t.signing
        clock := t.clock }

/-- R171, R167, R168, R23, R37, R104: a statement completion stores the code in the settlement of the case at the head of the queue,
clears its pending mark, takes its number off the queue and reports the settlement; the case ends CLOSED when its retention has been
reached, with its hotlist entry withdrawn. The statement member asks again while its queue is not empty, before the pick of the next
grantee. The statement code as a function of its inputs is log entry 1. -/
def Obligations.StatementCompletes : Prop :=
  ∀ (s : State) (inputs : StatementInputs) (n : Nat) (tail : List Nat) (c : Case) (f : Settlement),
    s.signing.grantee = some .statement → s.signing.computation = some (.statement inputs) →
    s.signing.queue = n :: tail → s.findCase n = some c → c.settlement = some f →
    let g : Settlement := { f with code := some (Config.statementCode inputs), statementPending := false }
    let done : Case := { c with settlement := some g }
    let reached := s.clock.second ≠ none ∧ c.state = .settled ∧ f.day + s.settings.retentionDays ≤ s.clock.announcedDay ∧
      c.job = none
    let reported := withReport s.links[c.owner].channel
      ⟨some c.owner, s.links[c.owner].station, settlementReport done g⟩ s.channels
    let master := s.hotlist.master.filter fun e => e.caseNo ≠ n
    let asking (t : State) : Waiting :=
      let w := if tail = [] then s.signing.waiting else setWaiting .statement true s.signing.waiting
      if s.hotlist.packaging = .idle ∧ t.hotlist.packaging = .packaging then setWaiting .hotlist true w else w
    ∃ t : State, exec .statementGrantCompletion s = .next t ∧ t.signing.queue = tail ∧
      (¬ reached → (∀ d ∈ s.cases, d.number = n → d = c) →
        t.cases = s.cases.map (fun d => if d.number = n then done else d) ∧ t.hotlist = s.hotlist ∧
          t.channels = reported) ∧
      (reached →
        t.cases = s.cases.filter (fun d => d.number ≠ n) ∧
          t.channels = withReport s.links[c.owner].channel
            ⟨some c.owner, s.links[c.owner].station,
              .caseClosed n false c.snapshot.cardNo c.state (some s.clock.announcedDay)
                (c.newCard.map fun k => k.serial) (some f.kind) c.adjustment (unclaimedValue c)⟩ reported ∧
          ((∃ x ∈ s.hotlist.pending, x.kind = .add ∧ x.caseNo = n ∧ x.taken = false) →
            t.hotlist = { s.hotlist with
              master := master, pending := s.hotlist.pending.eraseP (untakenAdd n) }) ∧
          ((∀ x ∈ s.hotlist.pending, ¬ (x.kind = .add ∧ x.caseNo = n ∧ x.taken = false)) →
            t.hotlist = cutIfDue s.settings.autoCut { s.hotlist with
              master := master, pending := s.hotlist.pending ++ [⟨.remove, c.snapshot.cardNo, n, false⟩] })) ∧
      (t.clock = s.clock ∨ t.clock = stamped s.clock) ∧
      (∃ v, Released
          { s with
            hotlist := t.hotlist, cases := t.cases, channels := t.channels
            signing := { s.signing with queue := tail, waiting := asking t } } v ∧
        t.signing = v.signing ∧ t.ports = v.ports) ∧
      t = { s with
        hotlist := t.hotlist, cases := t.cases, channels := t.channels, ports := t.ports, signing := t.signing
        clock := t.clock }

/-! ### Restoration arithmetic -/

/-- R72, R75, R13: the advance of a card check in WATCH is the known purse less the holdback; the written purse is the advance and the
pro-rated value up to the purse maximum, the rest is the unplaced value, and the purse segment carries it with card counter 0. -/
def Obligations.WrittenPurseHoldsTheAdvance : Prop :=
  ∀ (target : Family) (serial : Serial) (d : Nat) (c : Case),
    let fig := issueFigures target serial d c
    let exposure := min (c.terms.dailyCap * c.terms.exposureDays) 500000
    (c.settlement = none → (fig.advance : Int) = max (knownPurse c) 0 - min (max (knownPurse c) 0) exposure) ∧
    fig.purse = min (purseMax target) (fig.advance + fig.prorated) ∧
    fig.purse + fig.unplaced = fig.advance + fig.prorated ∧ fig.purse ≤ purseMax target ∧
    (0 < fig.unplaced ↔ purseMax target < fig.advance + fig.prorated) ∧
    issueContent c.number fig (purseSegment target) = some (.purse fig.purse 0)

/-- R83: the place of an event inserted into a SETTLED case, and its delta by place and kind. -/
def Obligations.AdjustmentDeltasByPlaceAndKind : Prop :=
  ∀ (c : Case) (f : Settlement) (e : CardEvent),
    let place := if f.kind = .fromCard ∨ f.cmax < e.counter then Place.beyond else .gap
    let fare : Int := match place with
      | .gap => c.terms.presumedFare
      | .beyond => 0
    placeOf f e = place ∧
    (e.kind = .paid → adjustmentDelta c f e = fare - e.amount) ∧
    (e.kind = .topup → adjustmentDelta c f e = fare + e.amount) ∧
    (∀ slot price zones purchased remaining, e.kind = .carnet →
      c.snapshot.products.find? (fun p => p.slot = e.slot) = some ⟨slot, price, zones, .carnet purchased remaining⟩ →
      adjustmentDelta c f e = fare - ((2 * price + purchased) / (2 * purchased) : Nat)) ∧
    (e.kind = .carnet → (∀ p ∈ c.snapshot.products, p.slot = e.slot → kindName p.fields ≠ .carnet) →
      adjustmentDelta c f e = fare) ∧
    ((e.kind = .pass ∨ e.kind = .blocked) → adjustmentDelta c f e = fare)
end

