-- ==== Sys2Proof/Laws/State.lean ====
section
/-! SUPPORT. What every named update of the state leaves in each field: one lemma for each field and update, true by rfl, so that
no proof unfolds a record update. -/

namespace Sys2Proof.Machine

variable (s : State)

/-! ### modTerminal -/

@[simp] theorem modTerminal_terminal (f : Terminal → Terminal) : (s.modTerminal f).terminal = f s.terminal := rfl
@[simp] theorem modTerminal_links (f : Terminal → Terminal) : (s.modTerminal f).links = s.links := rfl
@[simp] theorem modTerminal_channels (f : Terminal → Terminal) : (s.modTerminal f).channels = s.channels := rfl
@[simp] theorem modTerminal_cases (f : Terminal → Terminal) : (s.modTerminal f).cases = s.cases := rfl
@[simp] theorem modTerminal_nextCase (f : Terminal → Terminal) : (s.modTerminal f).nextCase = s.nextCase := rfl
@[simp] theorem modTerminal_concession (f : Terminal → Terminal) : (s.modTerminal f).concession = s.concession := rfl
@[simp] theorem modTerminal_hotlist (f : Terminal → Terminal) : (s.modTerminal f).hotlist = s.hotlist := rfl
@[simp] theorem modTerminal_zones (f : Terminal → Terminal) : (s.modTerminal f).zones = s.zones := rfl
@[simp] theorem modTerminal_ports (f : Terminal → Terminal) : (s.modTerminal f).ports = s.ports := rfl
@[simp] theorem modTerminal_signing (f : Terminal → Terminal) : (s.modTerminal f).signing = s.signing := rfl
@[simp] theorem modTerminal_clock (f : Terminal → Terminal) : (s.modTerminal f).clock = s.clock := rfl
@[simp] theorem modTerminal_settings (f : Terminal → Terminal) : (s.modTerminal f).settings = s.settings := rfl
@[simp] theorem modTerminal_choices (f : Terminal → Terminal) : (s.modTerminal f).choices = s.choices := rfl
@[simp] theorem modTerminal_pending (f : Terminal → Terminal) : (s.modTerminal f).pending = s.pending := rfl

/-! ### modHotlist -/

@[simp] theorem modHotlist_terminal (f : Hotlist → Hotlist) : (s.modHotlist f).terminal = s.terminal := rfl
@[simp] theorem modHotlist_links (f : Hotlist → Hotlist) : (s.modHotlist f).links = s.links := rfl
@[simp] theorem modHotlist_channels (f : Hotlist → Hotlist) : (s.modHotlist f).channels = s.channels := rfl
@[simp] theorem modHotlist_cases (f : Hotlist → Hotlist) : (s.modHotlist f).cases = s.cases := rfl
@[simp] theorem modHotlist_nextCase (f : Hotlist → Hotlist) : (s.modHotlist f).nextCase = s.nextCase := rfl
@[simp] theorem modHotlist_concession (f : Hotlist → Hotlist) : (s.modHotlist f).concession = s.concession := rfl
@[simp] theorem modHotlist_hotlist (f : Hotlist → Hotlist) : (s.modHotlist f).hotlist = f s.hotlist := rfl
@[simp] theorem modHotlist_zones (f : Hotlist → Hotlist) : (s.modHotlist f).zones = s.zones := rfl
@[simp] theorem modHotlist_ports (f : Hotlist → Hotlist) : (s.modHotlist f).ports = s.ports := rfl
@[simp] theorem modHotlist_signing (f : Hotlist → Hotlist) : (s.modHotlist f).signing = s.signing := rfl
@[simp] theorem modHotlist_clock (f : Hotlist → Hotlist) : (s.modHotlist f).clock = s.clock := rfl
@[simp] theorem modHotlist_settings (f : Hotlist → Hotlist) : (s.modHotlist f).settings = s.settings := rfl
@[simp] theorem modHotlist_choices (f : Hotlist → Hotlist) : (s.modHotlist f).choices = s.choices := rfl
@[simp] theorem modHotlist_pending (f : Hotlist → Hotlist) : (s.modHotlist f).pending = s.pending := rfl

/-! ### modSigning -/

@[simp] theorem modSigning_terminal (f : Signing → Signing) : (s.modSigning f).terminal = s.terminal := rfl
@[simp] theorem modSigning_links (f : Signing → Signing) : (s.modSigning f).links = s.links := rfl
@[simp] theorem modSigning_channels (f : Signing → Signing) : (s.modSigning f).channels = s.channels := rfl
@[simp] theorem modSigning_cases (f : Signing → Signing) : (s.modSigning f).cases = s.cases := rfl
@[simp] theorem modSigning_nextCase (f : Signing → Signing) : (s.modSigning f).nextCase = s.nextCase := rfl
@[simp] theorem modSigning_concession (f : Signing → Signing) : (s.modSigning f).concession = s.concession := rfl
@[simp] theorem modSigning_hotlist (f : Signing → Signing) : (s.modSigning f).hotlist = s.hotlist := rfl
@[simp] theorem modSigning_zones (f : Signing → Signing) : (s.modSigning f).zones = s.zones := rfl
@[simp] theorem modSigning_ports (f : Signing → Signing) : (s.modSigning f).ports = s.ports := rfl
@[simp] theorem modSigning_signing (f : Signing → Signing) : (s.modSigning f).signing = f s.signing := rfl
@[simp] theorem modSigning_clock (f : Signing → Signing) : (s.modSigning f).clock = s.clock := rfl
@[simp] theorem modSigning_settings (f : Signing → Signing) : (s.modSigning f).settings = s.settings := rfl
@[simp] theorem modSigning_choices (f : Signing → Signing) : (s.modSigning f).choices = s.choices := rfl
@[simp] theorem modSigning_pending (f : Signing → Signing) : (s.modSigning f).pending = s.pending := rfl

/-! ### modClock -/

@[simp] theorem modClock_terminal (f : Clock → Clock) : (s.modClock f).terminal = s.terminal := rfl
@[simp] theorem modClock_links (f : Clock → Clock) : (s.modClock f).links = s.links := rfl
@[simp] theorem modClock_channels (f : Clock → Clock) : (s.modClock f).channels = s.channels := rfl
@[simp] theorem modClock_cases (f : Clock → Clock) : (s.modClock f).cases = s.cases := rfl
@[simp] theorem modClock_nextCase (f : Clock → Clock) : (s.modClock f).nextCase = s.nextCase := rfl
@[simp] theorem modClock_concession (f : Clock → Clock) : (s.modClock f).concession = s.concession := rfl
@[simp] theorem modClock_hotlist (f : Clock → Clock) : (s.modClock f).hotlist = s.hotlist := rfl
@[simp] theorem modClock_zones (f : Clock → Clock) : (s.modClock f).zones = s.zones := rfl
@[simp] theorem modClock_ports (f : Clock → Clock) : (s.modClock f).ports = s.ports := rfl
@[simp] theorem modClock_signing (f : Clock → Clock) : (s.modClock f).signing = s.signing := rfl
@[simp] theorem modClock_clock (f : Clock → Clock) : (s.modClock f).clock = f s.clock := rfl
@[simp] theorem modClock_settings (f : Clock → Clock) : (s.modClock f).settings = s.settings := rfl
@[simp] theorem modClock_choices (f : Clock → Clock) : (s.modClock f).choices = s.choices := rfl
@[simp] theorem modClock_pending (f : Clock → Clock) : (s.modClock f).pending = s.pending := rfl

/-! ### setLink -/

@[simp] theorem setLink_terminal (l : LinkId) (r : Link) : (s.setLink l r).terminal = s.terminal := rfl
@[simp] theorem setLink_links (l : LinkId) (r : Link) : (s.setLink l r).links = s.links.set l r := rfl
@[simp] theorem setLink_channels (l : LinkId) (r : Link) : (s.setLink l r).channels = s.channels := rfl
@[simp] theorem setLink_cases (l : LinkId) (r : Link) : (s.setLink l r).cases = s.cases := rfl
@[simp] theorem setLink_nextCase (l : LinkId) (r : Link) : (s.setLink l r).nextCase = s.nextCase := rfl
@[simp] theorem setLink_concession (l : LinkId) (r : Link) : (s.setLink l r).concession = s.concession := rfl
@[simp] theorem setLink_hotlist (l : LinkId) (r : Link) : (s.setLink l r).hotlist = s.hotlist := rfl
@[simp] theorem setLink_zones (l : LinkId) (r : Link) : (s.setLink l r).zones = s.zones := rfl
@[simp] theorem setLink_ports (l : LinkId) (r : Link) : (s.setLink l r).ports = s.ports := rfl
@[simp] theorem setLink_signing (l : LinkId) (r : Link) : (s.setLink l r).signing = s.signing := rfl
@[simp] theorem setLink_clock (l : LinkId) (r : Link) : (s.setLink l r).clock = s.clock := rfl
@[simp] theorem setLink_settings (l : LinkId) (r : Link) : (s.setLink l r).settings = s.settings := rfl
@[simp] theorem setLink_choices (l : LinkId) (r : Link) : (s.setLink l r).choices = s.choices := rfl
@[simp] theorem setLink_pending (l : LinkId) (r : Link) : (s.setLink l r).pending = s.pending := rfl

/-! ### modLink -/

@[simp] theorem modLink_terminal (l : LinkId) (f : Link → Link) : (s.modLink l f).terminal = s.terminal := rfl
@[simp] theorem modLink_links (l : LinkId) (f : Link → Link) : (s.modLink l f).links = s.links.set l (f s.links[l]) := rfl
@[simp] theorem modLink_channels (l : LinkId) (f : Link → Link) : (s.modLink l f).channels = s.channels := rfl
@[simp] theorem modLink_cases (l : LinkId) (f : Link → Link) : (s.modLink l f).cases = s.cases := rfl
@[simp] theorem modLink_nextCase (l : LinkId) (f : Link → Link) : (s.modLink l f).nextCase = s.nextCase := rfl
@[simp] theorem modLink_concession (l : LinkId) (f : Link → Link) : (s.modLink l f).concession = s.concession := rfl
@[simp] theorem modLink_hotlist (l : LinkId) (f : Link → Link) : (s.modLink l f).hotlist = s.hotlist := rfl
@[simp] theorem modLink_zones (l : LinkId) (f : Link → Link) : (s.modLink l f).zones = s.zones := rfl
@[simp] theorem modLink_ports (l : LinkId) (f : Link → Link) : (s.modLink l f).ports = s.ports := rfl
@[simp] theorem modLink_signing (l : LinkId) (f : Link → Link) : (s.modLink l f).signing = s.signing := rfl
@[simp] theorem modLink_clock (l : LinkId) (f : Link → Link) : (s.modLink l f).clock = s.clock := rfl
@[simp] theorem modLink_settings (l : LinkId) (f : Link → Link) : (s.modLink l f).settings = s.settings := rfl
@[simp] theorem modLink_choices (l : LinkId) (f : Link → Link) : (s.modLink l f).choices = s.choices := rfl
@[simp] theorem modLink_pending (l : LinkId) (f : Link → Link) : (s.modLink l f).pending = s.pending := rfl

/-! ### setChannel -/

@[simp] theorem setChannel_terminal (c : Fin 4) (ch : Channel) : (s.setChannel c ch).terminal = s.terminal := rfl
@[simp] theorem setChannel_links (c : Fin 4) (ch : Channel) : (s.setChannel c ch).links = s.links := rfl
@[simp] theorem setChannel_channels (c : Fin 4) (ch : Channel) : (s.setChannel c ch).channels = s.channels.set c ch := rfl
@[simp] theorem setChannel_cases (c : Fin 4) (ch : Channel) : (s.setChannel c ch).cases = s.cases := rfl
@[simp] theorem setChannel_nextCase (c : Fin 4) (ch : Channel) : (s.setChannel c ch).nextCase = s.nextCase := rfl
@[simp] theorem setChannel_concession (c : Fin 4) (ch : Channel) : (s.setChannel c ch).concession = s.concession := rfl
@[simp] theorem setChannel_hotlist (c : Fin 4) (ch : Channel) : (s.setChannel c ch).hotlist = s.hotlist := rfl
@[simp] theorem setChannel_zones (c : Fin 4) (ch : Channel) : (s.setChannel c ch).zones = s.zones := rfl
@[simp] theorem setChannel_ports (c : Fin 4) (ch : Channel) : (s.setChannel c ch).ports = s.ports := rfl
@[simp] theorem setChannel_signing (c : Fin 4) (ch : Channel) : (s.setChannel c ch).signing = s.signing := rfl
@[simp] theorem setChannel_clock (c : Fin 4) (ch : Channel) : (s.setChannel c ch).clock = s.clock := rfl
@[simp] theorem setChannel_settings (c : Fin 4) (ch : Channel) : (s.setChannel c ch).settings = s.settings := rfl
@[simp] theorem setChannel_choices (c : Fin 4) (ch : Channel) : (s.setChannel c ch).choices = s.choices := rfl
@[simp] theorem setChannel_pending (c : Fin 4) (ch : Channel) : (s.setChannel c ch).pending = s.pending := rfl

/-! ### queueReport -/

@[simp] theorem queueReport_terminal (c : Fin 4) (r : Report) : (s.queueReport c r).terminal = s.terminal := rfl
@[simp] theorem queueReport_links (c : Fin 4) (r : Report) : (s.queueReport c r).links = s.links := rfl
@[simp] theorem queueReport_channels (c : Fin 4) (r : Report) : (s.queueReport c r).channels = s.channels.set c (pushReport r s.channels[c]) := rfl
@[simp] theorem queueReport_cases (c : Fin 4) (r : Report) : (s.queueReport c r).cases = s.cases := rfl
@[simp] theorem queueReport_nextCase (c : Fin 4) (r : Report) : (s.queueReport c r).nextCase = s.nextCase := rfl
@[simp] theorem queueReport_concession (c : Fin 4) (r : Report) : (s.queueReport c r).concession = s.concession := rfl
@[simp] theorem queueReport_hotlist (c : Fin 4) (r : Report) : (s.queueReport c r).hotlist = s.hotlist := rfl
@[simp] theorem queueReport_zones (c : Fin 4) (r : Report) : (s.queueReport c r).zones = s.zones := rfl
@[simp] theorem queueReport_ports (c : Fin 4) (r : Report) : (s.queueReport c r).ports = s.ports := rfl
@[simp] theorem queueReport_signing (c : Fin 4) (r : Report) : (s.queueReport c r).signing = s.signing := rfl
@[simp] theorem queueReport_clock (c : Fin 4) (r : Report) : (s.queueReport c r).clock = s.clock := rfl
@[simp] theorem queueReport_settings (c : Fin 4) (r : Report) : (s.queueReport c r).settings = s.settings := rfl
@[simp] theorem queueReport_choices (c : Fin 4) (r : Report) : (s.queueReport c r).choices = s.choices := rfl
@[simp] theorem queueReport_pending (c : Fin 4) (r : Report) : (s.queueReport c r).pending = s.pending := rfl

/-! ### systemReport -/

@[simp] theorem systemReport_terminal (b : ReportBody) : (s.systemReport b).terminal = s.terminal := rfl
@[simp] theorem systemReport_links (b : ReportBody) : (s.systemReport b).links = s.links := rfl
@[simp] theorem systemReport_channels (b : ReportBody) : (s.systemReport b).channels = s.channels.set (0 : Fin 4) (pushReport ⟨none, 0, b⟩ s.channels[(0 : Fin 4)]) := rfl
@[simp] theorem systemReport_cases (b : ReportBody) : (s.systemReport b).cases = s.cases := rfl
@[simp] theorem systemReport_nextCase (b : ReportBody) : (s.systemReport b).nextCase = s.nextCase := rfl
@[simp] theorem systemReport_concession (b : ReportBody) : (s.systemReport b).concession = s.concession := rfl
@[simp] theorem systemReport_hotlist (b : ReportBody) : (s.systemReport b).hotlist = s.hotlist := rfl
@[simp] theorem systemReport_zones (b : ReportBody) : (s.systemReport b).zones = s.zones := rfl
@[simp] theorem systemReport_ports (b : ReportBody) : (s.systemReport b).ports = s.ports := rfl
@[simp] theorem systemReport_signing (b : ReportBody) : (s.systemReport b).signing = s.signing := rfl
@[simp] theorem systemReport_clock (b : ReportBody) : (s.systemReport b).clock = s.clock := rfl
@[simp] theorem systemReport_settings (b : ReportBody) : (s.systemReport b).settings = s.settings := rfl
@[simp] theorem systemReport_choices (b : ReportBody) : (s.systemReport b).choices = s.choices := rfl
@[simp] theorem systemReport_pending (b : ReportBody) : (s.systemReport b).pending = s.pending := rfl

/-! ### caseReport -/

@[simp] theorem caseReport_terminal (o : LinkId) (b : ReportBody) : (s.caseReport o b).terminal = s.terminal := rfl
@[simp] theorem caseReport_links (o : LinkId) (b : ReportBody) : (s.caseReport o b).links = s.links := rfl
@[simp] theorem caseReport_channels (o : LinkId) (b : ReportBody) : (s.caseReport o b).channels = s.channels.set s.links[o].channel (pushReport ⟨some o, s.links[o].station, b⟩ s.channels[s.links[o].channel]) := rfl
@[simp] theorem caseReport_cases (o : LinkId) (b : ReportBody) : (s.caseReport o b).cases = s.cases := rfl
@[simp] theorem caseReport_nextCase (o : LinkId) (b : ReportBody) : (s.caseReport o b).nextCase = s.nextCase := rfl
@[simp] theorem caseReport_concession (o : LinkId) (b : ReportBody) : (s.caseReport o b).concession = s.concession := rfl
@[simp] theorem caseReport_hotlist (o : LinkId) (b : ReportBody) : (s.caseReport o b).hotlist = s.hotlist := rfl
@[simp] theorem caseReport_zones (o : LinkId) (b : ReportBody) : (s.caseReport o b).zones = s.zones := rfl
@[simp] theorem caseReport_ports (o : LinkId) (b : ReportBody) : (s.caseReport o b).ports = s.ports := rfl
@[simp] theorem caseReport_signing (o : LinkId) (b : ReportBody) : (s.caseReport o b).signing = s.signing := rfl
@[simp] theorem caseReport_clock (o : LinkId) (b : ReportBody) : (s.caseReport o b).clock = s.clock := rfl
@[simp] theorem caseReport_settings (o : LinkId) (b : ReportBody) : (s.caseReport o b).settings = s.settings := rfl
@[simp] theorem caseReport_choices (o : LinkId) (b : ReportBody) : (s.caseReport o b).choices = s.choices := rfl
@[simp] theorem caseReport_pending (o : LinkId) (b : ReportBody) : (s.caseReport o b).pending = s.pending := rfl

/-! ### setZone -/

@[simp] theorem setZone_terminal (z : ZoneId) (r : Zone) : (s.setZone z r).terminal = s.terminal := rfl
@[simp] theorem setZone_links (z : ZoneId) (r : Zone) : (s.setZone z r).links = s.links := rfl
@[simp] theorem setZone_channels (z : ZoneId) (r : Zone) : (s.setZone z r).channels = s.channels := rfl
@[simp] theorem setZone_cases (z : ZoneId) (r : Zone) : (s.setZone z r).cases = s.cases := rfl
@[simp] theorem setZone_nextCase (z : ZoneId) (r : Zone) : (s.setZone z r).nextCase = s.nextCase := rfl
@[simp] theorem setZone_concession (z : ZoneId) (r : Zone) : (s.setZone z r).concession = s.concession := rfl
@[simp] theorem setZone_hotlist (z : ZoneId) (r : Zone) : (s.setZone z r).hotlist = s.hotlist := rfl
@[simp] theorem setZone_zones (z : ZoneId) (r : Zone) : (s.setZone z r).zones = s.zones.set z r := rfl
@[simp] theorem setZone_ports (z : ZoneId) (r : Zone) : (s.setZone z r).ports = s.ports := rfl
@[simp] theorem setZone_signing (z : ZoneId) (r : Zone) : (s.setZone z r).signing = s.signing := rfl
@[simp] theorem setZone_clock (z : ZoneId) (r : Zone) : (s.setZone z r).clock = s.clock := rfl
@[simp] theorem setZone_settings (z : ZoneId) (r : Zone) : (s.setZone z r).settings = s.settings := rfl
@[simp] theorem setZone_choices (z : ZoneId) (r : Zone) : (s.setZone z r).choices = s.choices := rfl
@[simp] theorem setZone_pending (z : ZoneId) (r : Zone) : (s.setZone z r).pending = s.pending := rfl

/-! ### modZone -/

@[simp] theorem modZone_terminal (z : ZoneId) (f : Zone → Zone) : (s.modZone z f).terminal = s.terminal := rfl
@[simp] theorem modZone_links (z : ZoneId) (f : Zone → Zone) : (s.modZone z f).links = s.links := rfl
@[simp] theorem modZone_channels (z : ZoneId) (f : Zone → Zone) : (s.modZone z f).channels = s.channels := rfl
@[simp] theorem modZone_cases (z : ZoneId) (f : Zone → Zone) : (s.modZone z f).cases = s.cases := rfl
@[simp] theorem modZone_nextCase (z : ZoneId) (f : Zone → Zone) : (s.modZone z f).nextCase = s.nextCase := rfl
@[simp] theorem modZone_concession (z : ZoneId) (f : Zone → Zone) : (s.modZone z f).concession = s.concession := rfl
@[simp] theorem modZone_hotlist (z : ZoneId) (f : Zone → Zone) : (s.modZone z f).hotlist = s.hotlist := rfl
@[simp] theorem modZone_zones (z : ZoneId) (f : Zone → Zone) : (s.modZone z f).zones = s.zones.set z (f s.zones[z]) := rfl
@[simp] theorem modZone_ports (z : ZoneId) (f : Zone → Zone) : (s.modZone z f).ports = s.ports := rfl
@[simp] theorem modZone_signing (z : ZoneId) (f : Zone → Zone) : (s.modZone z f).signing = s.signing := rfl
@[simp] theorem modZone_clock (z : ZoneId) (f : Zone → Zone) : (s.modZone z f).clock = s.clock := rfl
@[simp] theorem modZone_settings (z : ZoneId) (f : Zone → Zone) : (s.modZone z f).settings = s.settings := rfl
@[simp] theorem modZone_choices (z : ZoneId) (f : Zone → Zone) : (s.modZone z f).choices = s.choices := rfl
@[simp] theorem modZone_pending (z : ZoneId) (f : Zone → Zone) : (s.modZone z f).pending = s.pending := rfl

/-! ### setPort -/

@[simp] theorem setPort_terminal (p : Port) (r : PortRec) : (s.setPort p r).terminal = s.terminal := rfl
@[simp] theorem setPort_links (p : Port) (r : PortRec) : (s.setPort p r).links = s.links := rfl
@[simp] theorem setPort_channels (p : Port) (r : PortRec) : (s.setPort p r).channels = s.channels := rfl
@[simp] theorem setPort_cases (p : Port) (r : PortRec) : (s.setPort p r).cases = s.cases := rfl
@[simp] theorem setPort_nextCase (p : Port) (r : PortRec) : (s.setPort p r).nextCase = s.nextCase := rfl
@[simp] theorem setPort_concession (p : Port) (r : PortRec) : (s.setPort p r).concession = s.concession := rfl
@[simp] theorem setPort_hotlist (p : Port) (r : PortRec) : (s.setPort p r).hotlist = s.hotlist := rfl
@[simp] theorem setPort_zones (p : Port) (r : PortRec) : (s.setPort p r).zones = s.zones := rfl
@[simp] theorem setPort_ports (p : Port) (r : PortRec) : (s.setPort p r).ports = s.ports.set p r := rfl
@[simp] theorem setPort_signing (p : Port) (r : PortRec) : (s.setPort p r).signing = s.signing := rfl
@[simp] theorem setPort_clock (p : Port) (r : PortRec) : (s.setPort p r).clock = s.clock := rfl
@[simp] theorem setPort_settings (p : Port) (r : PortRec) : (s.setPort p r).settings = s.settings := rfl
@[simp] theorem setPort_choices (p : Port) (r : PortRec) : (s.setPort p r).choices = s.choices := rfl
@[simp] theorem setPort_pending (p : Port) (r : PortRec) : (s.setPort p r).pending = s.pending := rfl

/-! ### modPort -/

@[simp] theorem modPort_terminal (p : Port) (f : PortRec → PortRec) : (s.modPort p f).terminal = s.terminal := rfl
@[simp] theorem modPort_links (p : Port) (f : PortRec → PortRec) : (s.modPort p f).links = s.links := rfl
@[simp] theorem modPort_channels (p : Port) (f : PortRec → PortRec) : (s.modPort p f).channels = s.channels := rfl
@[simp] theorem modPort_cases (p : Port) (f : PortRec → PortRec) : (s.modPort p f).cases = s.cases := rfl
@[simp] theorem modPort_nextCase (p : Port) (f : PortRec → PortRec) : (s.modPort p f).nextCase = s.nextCase := rfl
@[simp] theorem modPort_concession (p : Port) (f : PortRec → PortRec) : (s.modPort p f).concession = s.concession := rfl
@[simp] theorem modPort_hotlist (p : Port) (f : PortRec → PortRec) : (s.modPort p f).hotlist = s.hotlist := rfl
@[simp] theorem modPort_zones (p : Port) (f : PortRec → PortRec) : (s.modPort p f).zones = s.zones := rfl
@[simp] theorem modPort_ports (p : Port) (f : PortRec → PortRec) : (s.modPort p f).ports = s.ports.set p (f (s.port p)) := rfl
@[simp] theorem modPort_signing (p : Port) (f : PortRec → PortRec) : (s.modPort p f).signing = s.signing := rfl
@[simp] theorem modPort_clock (p : Port) (f : PortRec → PortRec) : (s.modPort p f).clock = s.clock := rfl
@[simp] theorem modPort_settings (p : Port) (f : PortRec → PortRec) : (s.modPort p f).settings = s.settings := rfl
@[simp] theorem modPort_choices (p : Port) (f : PortRec → PortRec) : (s.modPort p f).choices = s.choices := rfl
@[simp] theorem modPort_pending (p : Port) (f : PortRec → PortRec) : (s.modPort p f).pending = s.pending := rfl

/-! ### modJob -/

@[simp] theorem modJob_terminal (p : Port) (f : Job → Job) : (s.modJob p f).terminal = s.terminal := rfl
@[simp] theorem modJob_links (p : Port) (f : Job → Job) : (s.modJob p f).links = s.links := rfl
@[simp] theorem modJob_channels (p : Port) (f : Job → Job) : (s.modJob p f).channels = s.channels := rfl
@[simp] theorem modJob_cases (p : Port) (f : Job → Job) : (s.modJob p f).cases = s.cases := rfl
@[simp] theorem modJob_nextCase (p : Port) (f : Job → Job) : (s.modJob p f).nextCase = s.nextCase := rfl
@[simp] theorem modJob_concession (p : Port) (f : Job → Job) : (s.modJob p f).concession = s.concession := rfl
@[simp] theorem modJob_hotlist (p : Port) (f : Job → Job) : (s.modJob p f).hotlist = s.hotlist := rfl
@[simp] theorem modJob_zones (p : Port) (f : Job → Job) : (s.modJob p f).zones = s.zones := rfl
@[simp] theorem modJob_ports (p : Port) (f : Job → Job) : (s.modJob p f).ports = s.ports.set p { s.port p with job := (s.port p).job.map f } := rfl
@[simp] theorem modJob_signing (p : Port) (f : Job → Job) : (s.modJob p f).signing = s.signing := rfl
@[simp] theorem modJob_clock (p : Port) (f : Job → Job) : (s.modJob p f).clock = s.clock := rfl
@[simp] theorem modJob_settings (p : Port) (f : Job → Job) : (s.modJob p f).settings = s.settings := rfl
@[simp] theorem modJob_choices (p : Port) (f : Job → Job) : (s.modJob p f).choices = s.choices := rfl
@[simp] theorem modJob_pending (p : Port) (f : Job → Job) : (s.modJob p f).pending = s.pending := rfl

/-! ### modCase -/

@[simp] theorem modCase_terminal (n : Nat) (f : Case → Case) : (s.modCase n f).terminal = s.terminal := rfl
@[simp] theorem modCase_links (n : Nat) (f : Case → Case) : (s.modCase n f).links = s.links := rfl
@[simp] theorem modCase_channels (n : Nat) (f : Case → Case) : (s.modCase n f).channels = s.channels := rfl
@[simp] theorem modCase_cases (n : Nat) (f : Case → Case) : (s.modCase n f).cases = s.cases.map fun c => if c.number = n then f c else c := rfl
@[simp] theorem modCase_nextCase (n : Nat) (f : Case → Case) : (s.modCase n f).nextCase = s.nextCase := rfl
@[simp] theorem modCase_concession (n : Nat) (f : Case → Case) : (s.modCase n f).concession = s.concession := rfl
@[simp] theorem modCase_hotlist (n : Nat) (f : Case → Case) : (s.modCase n f).hotlist = s.hotlist := rfl
@[simp] theorem modCase_zones (n : Nat) (f : Case → Case) : (s.modCase n f).zones = s.zones := rfl
@[simp] theorem modCase_ports (n : Nat) (f : Case → Case) : (s.modCase n f).ports = s.ports := rfl
@[simp] theorem modCase_signing (n : Nat) (f : Case → Case) : (s.modCase n f).signing = s.signing := rfl
@[simp] theorem modCase_clock (n : Nat) (f : Case → Case) : (s.modCase n f).clock = s.clock := rfl
@[simp] theorem modCase_settings (n : Nat) (f : Case → Case) : (s.modCase n f).settings = s.settings := rfl
@[simp] theorem modCase_choices (n : Nat) (f : Case → Case) : (s.modCase n f).choices = s.choices := rfl
@[simp] theorem modCase_pending (n : Nat) (f : Case → Case) : (s.modCase n f).pending = s.pending := rfl

/-! ### useChoices -/

@[simp] theorem useChoices_terminal (n : Nat) : (s.useChoices n).terminal = s.terminal := rfl
@[simp] theorem useChoices_links (n : Nat) : (s.useChoices n).links = s.links := rfl
@[simp] theorem useChoices_channels (n : Nat) : (s.useChoices n).channels = s.channels := rfl
@[simp] theorem useChoices_cases (n : Nat) : (s.useChoices n).cases = s.cases := rfl
@[simp] theorem useChoices_nextCase (n : Nat) : (s.useChoices n).nextCase = s.nextCase := rfl
@[simp] theorem useChoices_concession (n : Nat) : (s.useChoices n).concession = s.concession := rfl
@[simp] theorem useChoices_hotlist (n : Nat) : (s.useChoices n).hotlist = s.hotlist := rfl
@[simp] theorem useChoices_zones (n : Nat) : (s.useChoices n).zones = s.zones := rfl
@[simp] theorem useChoices_ports (n : Nat) : (s.useChoices n).ports = s.ports := rfl
@[simp] theorem useChoices_signing (n : Nat) : (s.useChoices n).signing = s.signing := rfl
@[simp] theorem useChoices_clock (n : Nat) : (s.useChoices n).clock = s.clock := rfl
@[simp] theorem useChoices_settings (n : Nat) : (s.useChoices n).settings = s.settings := rfl
@[simp] theorem useChoices_choices (n : Nat) : (s.useChoices n).choices = s.choices + n := rfl
@[simp] theorem useChoices_pending (n : Nat) : (s.useChoices n).pending = s.pending := rfl

/-! ### withPending -/

@[simp] theorem withPending_terminal (l : List Instr) : (s.withPending l).terminal = s.terminal := rfl
@[simp] theorem withPending_links (l : List Instr) : (s.withPending l).links = s.links := rfl
@[simp] theorem withPending_channels (l : List Instr) : (s.withPending l).channels = s.channels := rfl
@[simp] theorem withPending_cases (l : List Instr) : (s.withPending l).cases = s.cases := rfl
@[simp] theorem withPending_nextCase (l : List Instr) : (s.withPending l).nextCase = s.nextCase := rfl
@[simp] theorem withPending_concession (l : List Instr) : (s.withPending l).concession = s.concession := rfl
@[simp] theorem withPending_hotlist (l : List Instr) : (s.withPending l).hotlist = s.hotlist := rfl
@[simp] theorem withPending_zones (l : List Instr) : (s.withPending l).zones = s.zones := rfl
@[simp] theorem withPending_ports (l : List Instr) : (s.withPending l).ports = s.ports := rfl
@[simp] theorem withPending_signing (l : List Instr) : (s.withPending l).signing = s.signing := rfl
@[simp] theorem withPending_clock (l : List Instr) : (s.withPending l).clock = s.clock := rfl
@[simp] theorem withPending_settings (l : List Instr) : (s.withPending l).settings = s.settings := rfl
@[simp] theorem withPending_choices (l : List Instr) : (s.withPending l).choices = s.choices := rfl
@[simp] theorem withPending_pending (l : List Instr) : (s.withPending l).pending = l := rfl

/-! ### setTerms -/

@[simp] theorem setTerms_terminal (cls : Fin 16) (t : Terms) : (s.setTerms cls t).terminal = s.terminal := rfl
@[simp] theorem setTerms_links (cls : Fin 16) (t : Terms) : (s.setTerms cls t).links = s.links := rfl
@[simp] theorem setTerms_channels (cls : Fin 16) (t : Terms) : (s.setTerms cls t).channels = s.channels := rfl
@[simp] theorem setTerms_cases (cls : Fin 16) (t : Terms) : (s.setTerms cls t).cases = s.cases := rfl
@[simp] theorem setTerms_nextCase (cls : Fin 16) (t : Terms) : (s.setTerms cls t).nextCase = s.nextCase := rfl
@[simp] theorem setTerms_concession (cls : Fin 16) (t : Terms) : (s.setTerms cls t).concession = s.concession.set cls t := rfl
@[simp] theorem setTerms_hotlist (cls : Fin 16) (t : Terms) : (s.setTerms cls t).hotlist = s.hotlist := rfl
@[simp] theorem setTerms_zones (cls : Fin 16) (t : Terms) : (s.setTerms cls t).zones = s.zones := rfl
@[simp] theorem setTerms_ports (cls : Fin 16) (t : Terms) : (s.setTerms cls t).ports = s.ports := rfl
@[simp] theorem setTerms_signing (cls : Fin 16) (t : Terms) : (s.setTerms cls t).signing = s.signing := rfl
@[simp] theorem setTerms_clock (cls : Fin 16) (t : Terms) : (s.setTerms cls t).clock = s.clock := rfl
@[simp] theorem setTerms_settings (cls : Fin 16) (t : Terms) : (s.setTerms cls t).settings = s.settings := rfl
@[simp] theorem setTerms_choices (cls : Fin 16) (t : Terms) : (s.setTerms cls t).choices = s.choices := rfl
@[simp] theorem setTerms_pending (cls : Fin 16) (t : Terms) : (s.setTerms cls t).pending = s.pending := rfl

/-! ### Ports -/

@[simp] theorem ports_get_set_same (ps : Ports) (p : Port) (r : PortRec) : (ps.set p r).get p = r := by cases p <;> rfl

theorem ports_get_set_other (ps : Ports) (p q : Port) (r : PortRec) (h : q ≠ p) : (ps.set p r).get q = ps.get q := by
  cases p <;> cases q <;> first | rfl | exact absurd rfl h

theorem ports_get_set (ps : Ports) (p q : Port) (r : PortRec) :
    (ps.set p r).get q = if q = p then r else ps.get q := by
  cases p <;> cases q <;> rfl

@[simp] theorem ports_set_get (ps : Ports) (p : Port) : ps.set p (ps.get p) = ps := by cases p <;> rfl

@[simp] theorem ports_set_set (ps : Ports) (p : Port) (a b : PortRec) : (ps.set p a).set p b = ps.set p b := by
  cases p <;> rfl

@[simp] theorem setPorts_port (ps : Ports) (p : Port) : ({ s with ports := ps } : State).port p = ps.get p := rfl

theorem port_of_ports {s t : State} (h : s.ports = t.ports) (p : Port) : s.port p = t.port p := by
  unfold State.port; rw [h]

@[simp] theorem modPort_port_same (p : Port) (f : PortRec → PortRec) : (s.modPort p f).port p = f (s.port p) := by
  cases p <;> rfl

theorem modPort_port (p q : Port) (f : PortRec → PortRec) :
    (s.modPort p f).port q = if q = p then f (s.port p) else s.port q := by
  cases p <;> cases q <;> rfl

theorem modJob_port (p q : Port) (f : Job → Job) :
    (s.modJob p f).port q = if q = p then { s.port p with job := (s.port p).job.map f } else s.port q := by
  cases p <;> cases q <;> rfl

@[simp] theorem modTerminal_port (f : Terminal → Terminal) (p : Port) : (s.modTerminal f).port p = s.port p := rfl
@[simp] theorem modHotlist_port (f : Hotlist → Hotlist) (p : Port) : (s.modHotlist f).port p = s.port p := rfl
@[simp] theorem modSigning_port (f : Signing → Signing) (p : Port) : (s.modSigning f).port p = s.port p := rfl
@[simp] theorem modClock_port (f : Clock → Clock) (p : Port) : (s.modClock f).port p = s.port p := rfl
@[simp] theorem setLink_port (l : LinkId) (r : Link) (p : Port) : (s.setLink l r).port p = s.port p := rfl
@[simp] theorem modLink_port (l : LinkId) (f : Link → Link) (p : Port) : (s.modLink l f).port p = s.port p := rfl
@[simp] theorem setChannel_port (c : Fin 4) (ch : Channel) (p : Port) : (s.setChannel c ch).port p = s.port p := rfl
@[simp] theorem queueReport_port (c : Fin 4) (r : Report) (p : Port) : (s.queueReport c r).port p = s.port p := rfl
@[simp] theorem systemReport_port (b : ReportBody) (p : Port) : (s.systemReport b).port p = s.port p := rfl
@[simp] theorem caseReport_port (o : LinkId) (b : ReportBody) (p : Port) : (s.caseReport o b).port p = s.port p := rfl
@[simp] theorem setZone_port (z : ZoneId) (r : Zone) (p : Port) : (s.setZone z r).port p = s.port p := rfl
@[simp] theorem modZone_port (z : ZoneId) (f : Zone → Zone) (p : Port) : (s.modZone z f).port p = s.port p := rfl
@[simp] theorem modCase_port (n : Nat) (f : Case → Case) (p : Port) : (s.modCase n f).port p = s.port p := rfl
@[simp] theorem useChoices_port (n : Nat) (p : Port) : (s.useChoices n).port p = s.port p := rfl
@[simp] theorem withPending_port (l : List Instr) (p : Port) : (s.withPending l).port p = s.port p := rfl
@[simp] theorem setTerms_port (cls : Fin 16) (t : Terms) (p : Port) : (s.setTerms cls t).port p = s.port p := rfl

end Sys2Proof.Machine
end

