-- ==== Sys2Proof/Laws/Frame.lean ====
section
/-! SUPPORT. What the shared operations leave alone: one lemma for each operation and each field it never changes, so that a
proof about an operation's effect need not unfold the operations below it. `State.base` gathers the eight fields that no
operation inside a command changes, but for the choices that a day rollover uses. -/

namespace Sys2Proof.Machine

/-- The fields that only a whole command changes: the terminal port, the links, the case counter, the concession table, the
clock, the settings, the model's choices and the queue. -/
def State.base (s : State) :=
  (s.terminal, s.links, s.nextCase, s.concession, s.clock, s.settings, s.choices, s.pending)

theorem terminal_of_base {s t : State} (h : s.base = t.base) : s.terminal = t.terminal := congrArg (fun x => x.1) h
theorem links_of_base {s t : State} (h : s.base = t.base) : s.links = t.links := congrArg (fun x => x.2.1) h
theorem nextCase_of_base {s t : State} (h : s.base = t.base) : s.nextCase = t.nextCase := congrArg (fun x => x.2.2.1) h
theorem concession_of_base {s t : State} (h : s.base = t.base) : s.concession = t.concession :=
  congrArg (fun x => x.2.2.2.1) h
theorem clock_of_base {s t : State} (h : s.base = t.base) : s.clock = t.clock := congrArg (fun x => x.2.2.2.2.1) h
theorem settings_of_base {s t : State} (h : s.base = t.base) : s.settings = t.settings :=
  congrArg (fun x => x.2.2.2.2.2.1) h
theorem choices_of_base {s t : State} (h : s.base = t.base) : s.choices = t.choices :=
  congrArg (fun x => x.2.2.2.2.2.2.1) h
theorem pending_of_base {s t : State} (h : s.base = t.base) : s.pending = t.pending :=
  congrArg (fun x => x.2.2.2.2.2.2.2) h

/-- What each step of a fold keeps, the fold keeps. -/
theorem foldl_keeps {α β σ : Type} (g : σ → β) (f : σ → α → σ) (h : ∀ a s, g (f s a) = g s) (l : List α) (s : σ) :
    g (l.foldl f s) = g s := by
  induction l generalizing s with
  | nil => rfl
  | cons a l ih => rw [List.foldl_cons, ih, h]

/-- A field that no task changes stays, but for the counter of free choices. -/
theorem runFree_frame {α β : Type} (g : State → β) (hg : ∀ n u, g (u.useChoices n) = g u) (tasks : List α)
    (run : α → State → State) (s : State) (h : ∀ t u, g (run t u) = g u) : g (s.runFree tasks run) = g s := by
  unfold State.runFree
  rw [foldl_keeps g _ (fun t u => h t u), hg]

@[simp] theorem modHotlist_base (s : State) (f : Hotlist → Hotlist) : (s.modHotlist f).base = s.base := rfl
@[simp] theorem modSigning_base (s : State) (f : Signing → Signing) : (s.modSigning f).base = s.base := rfl
@[simp] theorem setChannel_base (s : State) (c : Fin 4) (ch : Channel) : (s.setChannel c ch).base = s.base := rfl
@[simp] theorem queueReport_base (s : State) (c : Fin 4) (r : Report) : (s.queueReport c r).base = s.base := rfl
@[simp] theorem systemReport_base (s : State) (b : ReportBody) : (s.systemReport b).base = s.base := rfl
@[simp] theorem caseReport_base (s : State) (o : LinkId) (b : ReportBody) : (s.caseReport o b).base = s.base := rfl
@[simp] theorem setZone_base (s : State) (z : ZoneId) (r : Zone) : (s.setZone z r).base = s.base := rfl
@[simp] theorem modZone_base (s : State) (z : ZoneId) (f : Zone → Zone) : (s.modZone z f).base = s.base := rfl
@[simp] theorem setPort_base (s : State) (p : Port) (r : PortRec) : (s.setPort p r).base = s.base := rfl
@[simp] theorem modPort_base (s : State) (p : Port) (f : PortRec → PortRec) : (s.modPort p f).base = s.base := rfl
@[simp] theorem modJob_base (s : State) (p : Port) (f : Job → Job) : (s.modJob p f).base = s.base := rfl
@[simp] theorem modCase_base (s : State) (n : Nat) (f : Case → Case) : (s.modCase n f).base = s.base := rfl
@[simp] theorem setCases_base (s : State) (l : List Case) : ({ s with cases := l } : State).base = s.base := rfl

/-! ### sendCommand -/

@[simp] theorem sendCommand_base (s : State) (p : Port) (cmd : Command) : (sendCommand p cmd s).base = s.base := by
  simp [sendCommand]
@[simp] theorem sendCommand_terminal (s : State) (p : Port) (cmd : Command) : (sendCommand p cmd s).terminal = s.terminal := terminal_of_base (sendCommand_base s p cmd)
@[simp] theorem sendCommand_links (s : State) (p : Port) (cmd : Command) : (sendCommand p cmd s).links = s.links := links_of_base (sendCommand_base s p cmd)
@[simp] theorem sendCommand_nextCase (s : State) (p : Port) (cmd : Command) : (sendCommand p cmd s).nextCase = s.nextCase := nextCase_of_base (sendCommand_base s p cmd)
@[simp] theorem sendCommand_concession (s : State) (p : Port) (cmd : Command) : (sendCommand p cmd s).concession = s.concession := concession_of_base (sendCommand_base s p cmd)
@[simp] theorem sendCommand_clock (s : State) (p : Port) (cmd : Command) : (sendCommand p cmd s).clock = s.clock := clock_of_base (sendCommand_base s p cmd)
@[simp] theorem sendCommand_settings (s : State) (p : Port) (cmd : Command) : (sendCommand p cmd s).settings = s.settings := settings_of_base (sendCommand_base s p cmd)
@[simp] theorem sendCommand_choices (s : State) (p : Port) (cmd : Command) : (sendCommand p cmd s).choices = s.choices := choices_of_base (sendCommand_base s p cmd)
@[simp] theorem sendCommand_pending (s : State) (p : Port) (cmd : Command) : (sendCommand p cmd s).pending = s.pending := pending_of_base (sendCommand_base s p cmd)
@[simp] theorem sendCommand_cases (s : State) (p : Port) (cmd : Command) : (sendCommand p cmd s).cases = s.cases := by
  simp [sendCommand]
@[simp] theorem sendCommand_channels (s : State) (p : Port) (cmd : Command) : (sendCommand p cmd s).channels = s.channels := by
  simp [sendCommand]
@[simp] theorem sendCommand_hotlist (s : State) (p : Port) (cmd : Command) : (sendCommand p cmd s).hotlist = s.hotlist := by
  simp [sendCommand]
@[simp] theorem sendCommand_zones (s : State) (p : Port) (cmd : Command) : (sendCommand p cmd s).zones = s.zones := by
  simp [sendCommand]
@[simp] theorem sendCommand_signing (s : State) (p : Port) (cmd : Command) : (sendCommand p cmd s).signing = s.signing := by
  simp [sendCommand]

/-! ### dropCommand -/

@[simp] theorem dropCommand_base (s : State) (p : Port) : (dropCommand p s).base = s.base := by
  simp [dropCommand]
@[simp] theorem dropCommand_terminal (s : State) (p : Port) : (dropCommand p s).terminal = s.terminal := terminal_of_base (dropCommand_base s p)
@[simp] theorem dropCommand_links (s : State) (p : Port) : (dropCommand p s).links = s.links := links_of_base (dropCommand_base s p)
@[simp] theorem dropCommand_nextCase (s : State) (p : Port) : (dropCommand p s).nextCase = s.nextCase := nextCase_of_base (dropCommand_base s p)
@[simp] theorem dropCommand_concession (s : State) (p : Port) : (dropCommand p s).concession = s.concession := concession_of_base (dropCommand_base s p)
@[simp] theorem dropCommand_clock (s : State) (p : Port) : (dropCommand p s).clock = s.clock := clock_of_base (dropCommand_base s p)
@[simp] theorem dropCommand_settings (s : State) (p : Port) : (dropCommand p s).settings = s.settings := settings_of_base (dropCommand_base s p)
@[simp] theorem dropCommand_choices (s : State) (p : Port) : (dropCommand p s).choices = s.choices := choices_of_base (dropCommand_base s p)
@[simp] theorem dropCommand_pending (s : State) (p : Port) : (dropCommand p s).pending = s.pending := pending_of_base (dropCommand_base s p)
@[simp] theorem dropCommand_cases (s : State) (p : Port) : (dropCommand p s).cases = s.cases := by
  simp [dropCommand]
@[simp] theorem dropCommand_channels (s : State) (p : Port) : (dropCommand p s).channels = s.channels := by
  simp [dropCommand]
@[simp] theorem dropCommand_hotlist (s : State) (p : Port) : (dropCommand p s).hotlist = s.hotlist := by
  simp [dropCommand]
@[simp] theorem dropCommand_zones (s : State) (p : Port) : (dropCommand p s).zones = s.zones := by
  simp [dropCommand]
@[simp] theorem dropCommand_signing (s : State) (p : Port) : (dropCommand p s).signing = s.signing := by
  simp [dropCommand]

/-! ### sendRead -/

@[simp] theorem sendRead_base (s : State) (p : Port) (seg : Nat) : (sendRead p seg s).base = s.base := by
  simp [sendRead]
@[simp] theorem sendRead_terminal (s : State) (p : Port) (seg : Nat) : (sendRead p seg s).terminal = s.terminal := terminal_of_base (sendRead_base s p seg)
@[simp] theorem sendRead_links (s : State) (p : Port) (seg : Nat) : (sendRead p seg s).links = s.links := links_of_base (sendRead_base s p seg)
@[simp] theorem sendRead_nextCase (s : State) (p : Port) (seg : Nat) : (sendRead p seg s).nextCase = s.nextCase := nextCase_of_base (sendRead_base s p seg)
@[simp] theorem sendRead_concession (s : State) (p : Port) (seg : Nat) : (sendRead p seg s).concession = s.concession := concession_of_base (sendRead_base s p seg)
@[simp] theorem sendRead_clock (s : State) (p : Port) (seg : Nat) : (sendRead p seg s).clock = s.clock := clock_of_base (sendRead_base s p seg)
@[simp] theorem sendRead_settings (s : State) (p : Port) (seg : Nat) : (sendRead p seg s).settings = s.settings := settings_of_base (sendRead_base s p seg)
@[simp] theorem sendRead_choices (s : State) (p : Port) (seg : Nat) : (sendRead p seg s).choices = s.choices := choices_of_base (sendRead_base s p seg)
@[simp] theorem sendRead_pending (s : State) (p : Port) (seg : Nat) : (sendRead p seg s).pending = s.pending := pending_of_base (sendRead_base s p seg)
@[simp] theorem sendRead_cases (s : State) (p : Port) (seg : Nat) : (sendRead p seg s).cases = s.cases := by
  simp [sendRead]
@[simp] theorem sendRead_channels (s : State) (p : Port) (seg : Nat) : (sendRead p seg s).channels = s.channels := by
  simp [sendRead]
@[simp] theorem sendRead_hotlist (s : State) (p : Port) (seg : Nat) : (sendRead p seg s).hotlist = s.hotlist := by
  simp [sendRead]
@[simp] theorem sendRead_zones (s : State) (p : Port) (seg : Nat) : (sendRead p seg s).zones = s.zones := by
  simp [sendRead]
@[simp] theorem sendRead_signing (s : State) (p : Port) (seg : Nat) : (sendRead p seg s).signing = s.signing := by
  simp [sendRead]

/-! ### sendWrite -/

@[simp] theorem sendWrite_base (s : State) (p : Port) : (sendWrite p s).base = s.base := by
  unfold sendWrite; (repeat' split) <;> simp
@[simp] theorem sendWrite_terminal (s : State) (p : Port) : (sendWrite p s).terminal = s.terminal := terminal_of_base (sendWrite_base s p)
@[simp] theorem sendWrite_links (s : State) (p : Port) : (sendWrite p s).links = s.links := links_of_base (sendWrite_base s p)
@[simp] theorem sendWrite_nextCase (s : State) (p : Port) : (sendWrite p s).nextCase = s.nextCase := nextCase_of_base (sendWrite_base s p)
@[simp] theorem sendWrite_concession (s : State) (p : Port) : (sendWrite p s).concession = s.concession := concession_of_base (sendWrite_base s p)
@[simp] theorem sendWrite_clock (s : State) (p : Port) : (sendWrite p s).clock = s.clock := clock_of_base (sendWrite_base s p)
@[simp] theorem sendWrite_settings (s : State) (p : Port) : (sendWrite p s).settings = s.settings := settings_of_base (sendWrite_base s p)
@[simp] theorem sendWrite_choices (s : State) (p : Port) : (sendWrite p s).choices = s.choices := choices_of_base (sendWrite_base s p)
@[simp] theorem sendWrite_pending (s : State) (p : Port) : (sendWrite p s).pending = s.pending := pending_of_base (sendWrite_base s p)
@[simp] theorem sendWrite_cases (s : State) (p : Port) : (sendWrite p s).cases = s.cases := by
  unfold sendWrite; (repeat' split) <;> simp
@[simp] theorem sendWrite_channels (s : State) (p : Port) : (sendWrite p s).channels = s.channels := by
  unfold sendWrite; (repeat' split) <;> simp
@[simp] theorem sendWrite_hotlist (s : State) (p : Port) : (sendWrite p s).hotlist = s.hotlist := by
  unfold sendWrite; (repeat' split) <;> simp
@[simp] theorem sendWrite_zones (s : State) (p : Port) : (sendWrite p s).zones = s.zones := by
  unfold sendWrite; (repeat' split) <;> simp
@[simp] theorem sendWrite_signing (s : State) (p : Port) : (sendWrite p s).signing = s.signing := by
  unfold sendWrite; (repeat' split) <;> simp

/-! ### sendMark -/

@[simp] theorem sendMark_base (s : State) (p : Port) : (sendMark p s).base = s.base := by
  unfold sendMark; split <;> simp
@[simp] theorem sendMark_terminal (s : State) (p : Port) : (sendMark p s).terminal = s.terminal := terminal_of_base (sendMark_base s p)
@[simp] theorem sendMark_links (s : State) (p : Port) : (sendMark p s).links = s.links := links_of_base (sendMark_base s p)
@[simp] theorem sendMark_nextCase (s : State) (p : Port) : (sendMark p s).nextCase = s.nextCase := nextCase_of_base (sendMark_base s p)
@[simp] theorem sendMark_concession (s : State) (p : Port) : (sendMark p s).concession = s.concession := concession_of_base (sendMark_base s p)
@[simp] theorem sendMark_clock (s : State) (p : Port) : (sendMark p s).clock = s.clock := clock_of_base (sendMark_base s p)
@[simp] theorem sendMark_settings (s : State) (p : Port) : (sendMark p s).settings = s.settings := settings_of_base (sendMark_base s p)
@[simp] theorem sendMark_choices (s : State) (p : Port) : (sendMark p s).choices = s.choices := choices_of_base (sendMark_base s p)
@[simp] theorem sendMark_pending (s : State) (p : Port) : (sendMark p s).pending = s.pending := pending_of_base (sendMark_base s p)
@[simp] theorem sendMark_cases (s : State) (p : Port) : (sendMark p s).cases = s.cases := by
  unfold sendMark; split <;> simp
@[simp] theorem sendMark_channels (s : State) (p : Port) : (sendMark p s).channels = s.channels := by
  unfold sendMark; split <;> simp
@[simp] theorem sendMark_hotlist (s : State) (p : Port) : (sendMark p s).hotlist = s.hotlist := by
  unfold sendMark; split <;> simp
@[simp] theorem sendMark_zones (s : State) (p : Port) : (sendMark p s).zones = s.zones := by
  unfold sendMark; split <;> simp
@[simp] theorem sendMark_signing (s : State) (p : Port) : (sendMark p s).signing = s.signing := by
  unfold sendMark; split <;> simp

/-! ### beginGrant -/

@[simp] theorem beginGrant_base (s : State) (m : Member) : (beginGrant m s).base = s.base := by
  cases m <;> simp only [beginGrant] <;> (repeat' split) <;> simp
@[simp] theorem beginGrant_terminal (s : State) (m : Member) : (beginGrant m s).terminal = s.terminal := terminal_of_base (beginGrant_base s m)
@[simp] theorem beginGrant_links (s : State) (m : Member) : (beginGrant m s).links = s.links := links_of_base (beginGrant_base s m)
@[simp] theorem beginGrant_nextCase (s : State) (m : Member) : (beginGrant m s).nextCase = s.nextCase := nextCase_of_base (beginGrant_base s m)
@[simp] theorem beginGrant_concession (s : State) (m : Member) : (beginGrant m s).concession = s.concession := concession_of_base (beginGrant_base s m)
@[simp] theorem beginGrant_clock (s : State) (m : Member) : (beginGrant m s).clock = s.clock := clock_of_base (beginGrant_base s m)
@[simp] theorem beginGrant_settings (s : State) (m : Member) : (beginGrant m s).settings = s.settings := settings_of_base (beginGrant_base s m)
@[simp] theorem beginGrant_choices (s : State) (m : Member) : (beginGrant m s).choices = s.choices := choices_of_base (beginGrant_base s m)
@[simp] theorem beginGrant_pending (s : State) (m : Member) : (beginGrant m s).pending = s.pending := pending_of_base (beginGrant_base s m)
@[simp] theorem beginGrant_cases (s : State) (m : Member) : (beginGrant m s).cases = s.cases := by
  cases m <;> simp only [beginGrant] <;> (repeat' split) <;> simp
@[simp] theorem beginGrant_channels (s : State) (m : Member) : (beginGrant m s).channels = s.channels := by
  cases m <;> simp only [beginGrant] <;> (repeat' split) <;> simp
@[simp] theorem beginGrant_hotlist (s : State) (m : Member) : (beginGrant m s).hotlist = s.hotlist := by
  cases m <;> simp only [beginGrant] <;> (repeat' split) <;> simp
@[simp] theorem beginGrant_zones (s : State) (m : Member) : (beginGrant m s).zones = s.zones := by
  cases m <;> simp only [beginGrant] <;> (repeat' split) <;> simp

/-! ### grant -/

@[simp] theorem grant_base (s : State) (m : Member) : (grant m s).base = s.base := by
  simp [grant]
@[simp] theorem grant_terminal (s : State) (m : Member) : (grant m s).terminal = s.terminal := terminal_of_base (grant_base s m)
@[simp] theorem grant_links (s : State) (m : Member) : (grant m s).links = s.links := links_of_base (grant_base s m)
@[simp] theorem grant_nextCase (s : State) (m : Member) : (grant m s).nextCase = s.nextCase := nextCase_of_base (grant_base s m)
@[simp] theorem grant_concession (s : State) (m : Member) : (grant m s).concession = s.concession := concession_of_base (grant_base s m)
@[simp] theorem grant_clock (s : State) (m : Member) : (grant m s).clock = s.clock := clock_of_base (grant_base s m)
@[simp] theorem grant_settings (s : State) (m : Member) : (grant m s).settings = s.settings := settings_of_base (grant_base s m)
@[simp] theorem grant_choices (s : State) (m : Member) : (grant m s).choices = s.choices := choices_of_base (grant_base s m)
@[simp] theorem grant_pending (s : State) (m : Member) : (grant m s).pending = s.pending := pending_of_base (grant_base s m)
@[simp] theorem grant_cases (s : State) (m : Member) : (grant m s).cases = s.cases := by
  simp [grant]
@[simp] theorem grant_channels (s : State) (m : Member) : (grant m s).channels = s.channels := by
  simp [grant]
@[simp] theorem grant_hotlist (s : State) (m : Member) : (grant m s).hotlist = s.hotlist := by
  simp [grant]
@[simp] theorem grant_zones (s : State) (m : Member) : (grant m s).zones = s.zones := by
  simp [grant]

/-! ### requestGrant -/

@[simp] theorem requestGrant_base (s : State) (m : Member) : (requestGrant m s).base = s.base := by
  unfold requestGrant; split <;> simp
@[simp] theorem requestGrant_terminal (s : State) (m : Member) : (requestGrant m s).terminal = s.terminal := terminal_of_base (requestGrant_base s m)
@[simp] theorem requestGrant_links (s : State) (m : Member) : (requestGrant m s).links = s.links := links_of_base (requestGrant_base s m)
@[simp] theorem requestGrant_nextCase (s : State) (m : Member) : (requestGrant m s).nextCase = s.nextCase := nextCase_of_base (requestGrant_base s m)
@[simp] theorem requestGrant_concession (s : State) (m : Member) : (requestGrant m s).concession = s.concession := concession_of_base (requestGrant_base s m)
@[simp] theorem requestGrant_clock (s : State) (m : Member) : (requestGrant m s).clock = s.clock := clock_of_base (requestGrant_base s m)
@[simp] theorem requestGrant_settings (s : State) (m : Member) : (requestGrant m s).settings = s.settings := settings_of_base (requestGrant_base s m)
@[simp] theorem requestGrant_choices (s : State) (m : Member) : (requestGrant m s).choices = s.choices := choices_of_base (requestGrant_base s m)
@[simp] theorem requestGrant_pending (s : State) (m : Member) : (requestGrant m s).pending = s.pending := pending_of_base (requestGrant_base s m)
@[simp] theorem requestGrant_cases (s : State) (m : Member) : (requestGrant m s).cases = s.cases := by
  unfold requestGrant; split <;> simp
@[simp] theorem requestGrant_channels (s : State) (m : Member) : (requestGrant m s).channels = s.channels := by
  unfold requestGrant; split <;> simp
@[simp] theorem requestGrant_hotlist (s : State) (m : Member) : (requestGrant m s).hotlist = s.hotlist := by
  unfold requestGrant; split <;> simp
@[simp] theorem requestGrant_zones (s : State) (m : Member) : (requestGrant m s).zones = s.zones := by
  unfold requestGrant; split <;> simp

/-! ### releaseGrant -/

@[simp] theorem releaseGrant_base (s : State) : (releaseGrant s).base = s.base := by
  unfold releaseGrant; dsimp only; split <;> simp
@[simp] theorem releaseGrant_terminal (s : State) : (releaseGrant s).terminal = s.terminal := terminal_of_base (releaseGrant_base s)
@[simp] theorem releaseGrant_links (s : State) : (releaseGrant s).links = s.links := links_of_base (releaseGrant_base s)
@[simp] theorem releaseGrant_nextCase (s : State) : (releaseGrant s).nextCase = s.nextCase := nextCase_of_base (releaseGrant_base s)
@[simp] theorem releaseGrant_concession (s : State) : (releaseGrant s).concession = s.concession := concession_of_base (releaseGrant_base s)
@[simp] theorem releaseGrant_clock (s : State) : (releaseGrant s).clock = s.clock := clock_of_base (releaseGrant_base s)
@[simp] theorem releaseGrant_settings (s : State) : (releaseGrant s).settings = s.settings := settings_of_base (releaseGrant_base s)
@[simp] theorem releaseGrant_choices (s : State) : (releaseGrant s).choices = s.choices := choices_of_base (releaseGrant_base s)
@[simp] theorem releaseGrant_pending (s : State) : (releaseGrant s).pending = s.pending := pending_of_base (releaseGrant_base s)
@[simp] theorem releaseGrant_cases (s : State) : (releaseGrant s).cases = s.cases := by
  unfold releaseGrant; dsimp only; split <;> simp
@[simp] theorem releaseGrant_channels (s : State) : (releaseGrant s).channels = s.channels := by
  unfold releaseGrant; dsimp only; split <;> simp
@[simp] theorem releaseGrant_hotlist (s : State) : (releaseGrant s).hotlist = s.hotlist := by
  unfold releaseGrant; dsimp only; split <;> simp
@[simp] theorem releaseGrant_zones (s : State) : (releaseGrant s).zones = s.zones := by
  unfold releaseGrant; dsimp only; split <;> simp

/-! ### releaseAndRequest -/

@[simp] theorem releaseAndRequest_base (s : State) (m : Member) : (releaseAndRequest m s).base = s.base := by
  simp [releaseAndRequest]
@[simp] theorem releaseAndRequest_terminal (s : State) (m : Member) : (releaseAndRequest m s).terminal = s.terminal := terminal_of_base (releaseAndRequest_base s m)
@[simp] theorem releaseAndRequest_links (s : State) (m : Member) : (releaseAndRequest m s).links = s.links := links_of_base (releaseAndRequest_base s m)
@[simp] theorem releaseAndRequest_nextCase (s : State) (m : Member) : (releaseAndRequest m s).nextCase = s.nextCase := nextCase_of_base (releaseAndRequest_base s m)
@[simp] theorem releaseAndRequest_concession (s : State) (m : Member) : (releaseAndRequest m s).concession = s.concession := concession_of_base (releaseAndRequest_base s m)
@[simp] theorem releaseAndRequest_clock (s : State) (m : Member) : (releaseAndRequest m s).clock = s.clock := clock_of_base (releaseAndRequest_base s m)
@[simp] theorem releaseAndRequest_settings (s : State) (m : Member) : (releaseAndRequest m s).settings = s.settings := settings_of_base (releaseAndRequest_base s m)
@[simp] theorem releaseAndRequest_choices (s : State) (m : Member) : (releaseAndRequest m s).choices = s.choices := choices_of_base (releaseAndRequest_base s m)
@[simp] theorem releaseAndRequest_pending (s : State) (m : Member) : (releaseAndRequest m s).pending = s.pending := pending_of_base (releaseAndRequest_base s m)
@[simp] theorem releaseAndRequest_cases (s : State) (m : Member) : (releaseAndRequest m s).cases = s.cases := by
  simp [releaseAndRequest]
@[simp] theorem releaseAndRequest_channels (s : State) (m : Member) : (releaseAndRequest m s).channels = s.channels := by
  simp [releaseAndRequest]
@[simp] theorem releaseAndRequest_hotlist (s : State) (m : Member) : (releaseAndRequest m s).hotlist = s.hotlist := by
  simp [releaseAndRequest]
@[simp] theorem releaseAndRequest_zones (s : State) (m : Member) : (releaseAndRequest m s).zones = s.zones := by
  simp [releaseAndRequest]

/-! ### withdrawRequest -/

@[simp] theorem withdrawRequest_base (s : State) (m : Member) : (withdrawRequest m s).base = s.base := by
  simp [withdrawRequest]
@[simp] theorem withdrawRequest_terminal (s : State) (m : Member) : (withdrawRequest m s).terminal = s.terminal := terminal_of_base (withdrawRequest_base s m)
@[simp] theorem withdrawRequest_links (s : State) (m : Member) : (withdrawRequest m s).links = s.links := links_of_base (withdrawRequest_base s m)
@[simp] theorem withdrawRequest_nextCase (s : State) (m : Member) : (withdrawRequest m s).nextCase = s.nextCase := nextCase_of_base (withdrawRequest_base s m)
@[simp] theorem withdrawRequest_concession (s : State) (m : Member) : (withdrawRequest m s).concession = s.concession := concession_of_base (withdrawRequest_base s m)
@[simp] theorem withdrawRequest_clock (s : State) (m : Member) : (withdrawRequest m s).clock = s.clock := clock_of_base (withdrawRequest_base s m)
@[simp] theorem withdrawRequest_settings (s : State) (m : Member) : (withdrawRequest m s).settings = s.settings := settings_of_base (withdrawRequest_base s m)
@[simp] theorem withdrawRequest_choices (s : State) (m : Member) : (withdrawRequest m s).choices = s.choices := choices_of_base (withdrawRequest_base s m)
@[simp] theorem withdrawRequest_pending (s : State) (m : Member) : (withdrawRequest m s).pending = s.pending := pending_of_base (withdrawRequest_base s m)
@[simp] theorem withdrawRequest_cases (s : State) (m : Member) : (withdrawRequest m s).cases = s.cases := by
  simp [withdrawRequest]
@[simp] theorem withdrawRequest_channels (s : State) (m : Member) : (withdrawRequest m s).channels = s.channels := by
  simp [withdrawRequest]
@[simp] theorem withdrawRequest_hotlist (s : State) (m : Member) : (withdrawRequest m s).hotlist = s.hotlist := by
  simp [withdrawRequest]
@[simp] theorem withdrawRequest_zones (s : State) (m : Member) : (withdrawRequest m s).zones = s.zones := by
  simp [withdrawRequest]
@[simp] theorem withdrawRequest_ports (s : State) (m : Member) : (withdrawRequest m s).ports = s.ports := by
  simp [withdrawRequest]

/-! ### giveUpSigning -/

@[simp] theorem giveUpSigning_base (s : State) (p : Port) : (giveUpSigning p s).base = s.base := by
  unfold giveUpSigning; split <;> simp
@[simp] theorem giveUpSigning_terminal (s : State) (p : Port) : (giveUpSigning p s).terminal = s.terminal := terminal_of_base (giveUpSigning_base s p)
@[simp] theorem giveUpSigning_links (s : State) (p : Port) : (giveUpSigning p s).links = s.links := links_of_base (giveUpSigning_base s p)
@[simp] theorem giveUpSigning_nextCase (s : State) (p : Port) : (giveUpSigning p s).nextCase = s.nextCase := nextCase_of_base (giveUpSigning_base s p)
@[simp] theorem giveUpSigning_concession (s : State) (p : Port) : (giveUpSigning p s).concession = s.concession := concession_of_base (giveUpSigning_base s p)
@[simp] theorem giveUpSigning_clock (s : State) (p : Port) : (giveUpSigning p s).clock = s.clock := clock_of_base (giveUpSigning_base s p)
@[simp] theorem giveUpSigning_settings (s : State) (p : Port) : (giveUpSigning p s).settings = s.settings := settings_of_base (giveUpSigning_base s p)
@[simp] theorem giveUpSigning_choices (s : State) (p : Port) : (giveUpSigning p s).choices = s.choices := choices_of_base (giveUpSigning_base s p)
@[simp] theorem giveUpSigning_pending (s : State) (p : Port) : (giveUpSigning p s).pending = s.pending := pending_of_base (giveUpSigning_base s p)
@[simp] theorem giveUpSigning_cases (s : State) (p : Port) : (giveUpSigning p s).cases = s.cases := by
  unfold giveUpSigning; split <;> simp
@[simp] theorem giveUpSigning_channels (s : State) (p : Port) : (giveUpSigning p s).channels = s.channels := by
  unfold giveUpSigning; split <;> simp
@[simp] theorem giveUpSigning_hotlist (s : State) (p : Port) : (giveUpSigning p s).hotlist = s.hotlist := by
  unfold giveUpSigning; split <;> simp
@[simp] theorem giveUpSigning_zones (s : State) (p : Port) : (giveUpSigning p s).zones = s.zones := by
  unfold giveUpSigning; split <;> simp

/-! ### requestStatement -/

@[simp] theorem requestStatement_base (s : State) : (requestStatement s).base = s.base := by
  unfold requestStatement; (repeat' split) <;> simp
@[simp] theorem requestStatement_terminal (s : State) : (requestStatement s).terminal = s.terminal := terminal_of_base (requestStatement_base s)
@[simp] theorem requestStatement_links (s : State) : (requestStatement s).links = s.links := links_of_base (requestStatement_base s)
@[simp] theorem requestStatement_nextCase (s : State) : (requestStatement s).nextCase = s.nextCase := nextCase_of_base (requestStatement_base s)
@[simp] theorem requestStatement_concession (s : State) : (requestStatement s).concession = s.concession := concession_of_base (requestStatement_base s)
@[simp] theorem requestStatement_clock (s : State) : (requestStatement s).clock = s.clock := clock_of_base (requestStatement_base s)
@[simp] theorem requestStatement_settings (s : State) : (requestStatement s).settings = s.settings := settings_of_base (requestStatement_base s)
@[simp] theorem requestStatement_choices (s : State) : (requestStatement s).choices = s.choices := choices_of_base (requestStatement_base s)
@[simp] theorem requestStatement_pending (s : State) : (requestStatement s).pending = s.pending := pending_of_base (requestStatement_base s)
@[simp] theorem requestStatement_cases (s : State) : (requestStatement s).cases = s.cases := by
  unfold requestStatement; (repeat' split) <;> simp
@[simp] theorem requestStatement_channels (s : State) : (requestStatement s).channels = s.channels := by
  unfold requestStatement; (repeat' split) <;> simp
@[simp] theorem requestStatement_hotlist (s : State) : (requestStatement s).hotlist = s.hotlist := by
  unfold requestStatement; (repeat' split) <;> simp
@[simp] theorem requestStatement_zones (s : State) : (requestStatement s).zones = s.zones := by
  unfold requestStatement; (repeat' split) <;> simp
@[simp] theorem requestStatement_ports (s : State) : (requestStatement s).ports = s.ports := by
  unfold requestStatement; (repeat' split) <;> simp [requestGrant] <;> (repeat' split) <;> simp [grant, beginGrant]

/-! ### startCut -/

@[simp] theorem startCut_base (s : State) : (startCut s).base = s.base := by
  unfold startCut; (repeat' split) <;> simp
@[simp] theorem startCut_terminal (s : State) : (startCut s).terminal = s.terminal := terminal_of_base (startCut_base s)
@[simp] theorem startCut_links (s : State) : (startCut s).links = s.links := links_of_base (startCut_base s)
@[simp] theorem startCut_nextCase (s : State) : (startCut s).nextCase = s.nextCase := nextCase_of_base (startCut_base s)
@[simp] theorem startCut_concession (s : State) : (startCut s).concession = s.concession := concession_of_base (startCut_base s)
@[simp] theorem startCut_clock (s : State) : (startCut s).clock = s.clock := clock_of_base (startCut_base s)
@[simp] theorem startCut_settings (s : State) : (startCut s).settings = s.settings := settings_of_base (startCut_base s)
@[simp] theorem startCut_choices (s : State) : (startCut s).choices = s.choices := choices_of_base (startCut_base s)
@[simp] theorem startCut_pending (s : State) : (startCut s).pending = s.pending := pending_of_base (startCut_base s)
@[simp] theorem startCut_cases (s : State) : (startCut s).cases = s.cases := by
  unfold startCut; (repeat' split) <;> simp
@[simp] theorem startCut_channels (s : State) : (startCut s).channels = s.channels := by
  unfold startCut; (repeat' split) <;> simp
@[simp] theorem startCut_zones (s : State) : (startCut s).zones = s.zones := by
  unfold startCut; (repeat' split) <;> simp
@[simp] theorem startCut_ports (s : State) : (startCut s).ports = s.ports := by
  unfold startCut; (repeat' split) <;> simp [requestGrant] <;> (repeat' split) <;> simp [grant, beginGrant]

/-! ### autoCut -/

@[simp] theorem autoCut_base (s : State) : (autoCut s).base = s.base := by
  unfold autoCut; split <;> simp
@[simp] theorem autoCut_terminal (s : State) : (autoCut s).terminal = s.terminal := terminal_of_base (autoCut_base s)
@[simp] theorem autoCut_links (s : State) : (autoCut s).links = s.links := links_of_base (autoCut_base s)
@[simp] theorem autoCut_nextCase (s : State) : (autoCut s).nextCase = s.nextCase := nextCase_of_base (autoCut_base s)
@[simp] theorem autoCut_concession (s : State) : (autoCut s).concession = s.concession := concession_of_base (autoCut_base s)
@[simp] theorem autoCut_clock (s : State) : (autoCut s).clock = s.clock := clock_of_base (autoCut_base s)
@[simp] theorem autoCut_settings (s : State) : (autoCut s).settings = s.settings := settings_of_base (autoCut_base s)
@[simp] theorem autoCut_choices (s : State) : (autoCut s).choices = s.choices := choices_of_base (autoCut_base s)
@[simp] theorem autoCut_pending (s : State) : (autoCut s).pending = s.pending := pending_of_base (autoCut_base s)
@[simp] theorem autoCut_cases (s : State) : (autoCut s).cases = s.cases := by
  unfold autoCut; split <;> simp
@[simp] theorem autoCut_channels (s : State) : (autoCut s).channels = s.channels := by
  unfold autoCut; split <;> simp
@[simp] theorem autoCut_zones (s : State) : (autoCut s).zones = s.zones := by
  unfold autoCut; split <;> simp
@[simp] theorem autoCut_ports (s : State) : (autoCut s).ports = s.ports := by
  unfold autoCut; split <;> simp

/-! ### rolloverCut -/

@[simp] theorem rolloverCut_base (s : State) : (rolloverCut s).base = s.base := by
  unfold rolloverCut; split <;> simp
@[simp] theorem rolloverCut_terminal (s : State) : (rolloverCut s).terminal = s.terminal := terminal_of_base (rolloverCut_base s)
@[simp] theorem rolloverCut_links (s : State) : (rolloverCut s).links = s.links := links_of_base (rolloverCut_base s)
@[simp] theorem rolloverCut_nextCase (s : State) : (rolloverCut s).nextCase = s.nextCase := nextCase_of_base (rolloverCut_base s)
@[simp] theorem rolloverCut_concession (s : State) : (rolloverCut s).concession = s.concession := concession_of_base (rolloverCut_base s)
@[simp] theorem rolloverCut_clock (s : State) : (rolloverCut s).clock = s.clock := clock_of_base (rolloverCut_base s)
@[simp] theorem rolloverCut_settings (s : State) : (rolloverCut s).settings = s.settings := settings_of_base (rolloverCut_base s)
@[simp] theorem rolloverCut_choices (s : State) : (rolloverCut s).choices = s.choices := choices_of_base (rolloverCut_base s)
@[simp] theorem rolloverCut_pending (s : State) : (rolloverCut s).pending = s.pending := pending_of_base (rolloverCut_base s)
@[simp] theorem rolloverCut_cases (s : State) : (rolloverCut s).cases = s.cases := by
  unfold rolloverCut; split <;> simp
@[simp] theorem rolloverCut_channels (s : State) : (rolloverCut s).channels = s.channels := by
  unfold rolloverCut; split <;> simp
@[simp] theorem rolloverCut_zones (s : State) : (rolloverCut s).zones = s.zones := by
  unfold rolloverCut; split <;> simp
@[simp] theorem rolloverCut_ports (s : State) : (rolloverCut s).ports = s.ports := by
  unfold rolloverCut; split <;> simp

/-! ### appendChange -/

@[simp] theorem appendChange_base (s : State) (kind : ChangeKind) (cardNo caseNo : Nat) : (appendChange kind cardNo caseNo s).base = s.base := by
  simp [appendChange]
@[simp] theorem appendChange_terminal (s : State) (kind : ChangeKind) (cardNo caseNo : Nat) : (appendChange kind cardNo caseNo s).terminal = s.terminal := terminal_of_base (appendChange_base s kind cardNo caseNo)
@[simp] theorem appendChange_links (s : State) (kind : ChangeKind) (cardNo caseNo : Nat) : (appendChange kind cardNo caseNo s).links = s.links := links_of_base (appendChange_base s kind cardNo caseNo)
@[simp] theorem appendChange_nextCase (s : State) (kind : ChangeKind) (cardNo caseNo : Nat) : (appendChange kind cardNo caseNo s).nextCase = s.nextCase := nextCase_of_base (appendChange_base s kind cardNo caseNo)
@[simp] theorem appendChange_concession (s : State) (kind : ChangeKind) (cardNo caseNo : Nat) : (appendChange kind cardNo caseNo s).concession = s.concession := concession_of_base (appendChange_base s kind cardNo caseNo)
@[simp] theorem appendChange_clock (s : State) (kind : ChangeKind) (cardNo caseNo : Nat) : (appendChange kind cardNo caseNo s).clock = s.clock := clock_of_base (appendChange_base s kind cardNo caseNo)
@[simp] theorem appendChange_settings (s : State) (kind : ChangeKind) (cardNo caseNo : Nat) : (appendChange kind cardNo caseNo s).settings = s.settings := settings_of_base (appendChange_base s kind cardNo caseNo)
@[simp] theorem appendChange_choices (s : State) (kind : ChangeKind) (cardNo caseNo : Nat) : (appendChange kind cardNo caseNo s).choices = s.choices := choices_of_base (appendChange_base s kind cardNo caseNo)
@[simp] theorem appendChange_pending (s : State) (kind : ChangeKind) (cardNo caseNo : Nat) : (appendChange kind cardNo caseNo s).pending = s.pending := pending_of_base (appendChange_base s kind cardNo caseNo)
@[simp] theorem appendChange_cases (s : State) (kind : ChangeKind) (cardNo caseNo : Nat) : (appendChange kind cardNo caseNo s).cases = s.cases := by
  simp [appendChange]
@[simp] theorem appendChange_channels (s : State) (kind : ChangeKind) (cardNo caseNo : Nat) : (appendChange kind cardNo caseNo s).channels = s.channels := by
  simp [appendChange]
@[simp] theorem appendChange_zones (s : State) (kind : ChangeKind) (cardNo caseNo : Nat) : (appendChange kind cardNo caseNo s).zones = s.zones := by
  simp [appendChange]
@[simp] theorem appendChange_ports (s : State) (kind : ChangeKind) (cardNo caseNo : Nat) : (appendChange kind cardNo caseNo s).ports = s.ports := by
  simp [appendChange]

/-! ### hotlistAdd -/

@[simp] theorem hotlistAdd_base (s : State) (cardNo caseNo : Nat) : (hotlistAdd cardNo caseNo s).base = s.base := by
  simp [hotlistAdd]
@[simp] theorem hotlistAdd_terminal (s : State) (cardNo caseNo : Nat) : (hotlistAdd cardNo caseNo s).terminal = s.terminal := terminal_of_base (hotlistAdd_base s cardNo caseNo)
@[simp] theorem hotlistAdd_links (s : State) (cardNo caseNo : Nat) : (hotlistAdd cardNo caseNo s).links = s.links := links_of_base (hotlistAdd_base s cardNo caseNo)
@[simp] theorem hotlistAdd_nextCase (s : State) (cardNo caseNo : Nat) : (hotlistAdd cardNo caseNo s).nextCase = s.nextCase := nextCase_of_base (hotlistAdd_base s cardNo caseNo)
@[simp] theorem hotlistAdd_concession (s : State) (cardNo caseNo : Nat) : (hotlistAdd cardNo caseNo s).concession = s.concession := concession_of_base (hotlistAdd_base s cardNo caseNo)
@[simp] theorem hotlistAdd_clock (s : State) (cardNo caseNo : Nat) : (hotlistAdd cardNo caseNo s).clock = s.clock := clock_of_base (hotlistAdd_base s cardNo caseNo)
@[simp] theorem hotlistAdd_settings (s : State) (cardNo caseNo : Nat) : (hotlistAdd cardNo caseNo s).settings = s.settings := settings_of_base (hotlistAdd_base s cardNo caseNo)
@[simp] theorem hotlistAdd_choices (s : State) (cardNo caseNo : Nat) : (hotlistAdd cardNo caseNo s).choices = s.choices := choices_of_base (hotlistAdd_base s cardNo caseNo)
@[simp] theorem hotlistAdd_pending (s : State) (cardNo caseNo : Nat) : (hotlistAdd cardNo caseNo s).pending = s.pending := pending_of_base (hotlistAdd_base s cardNo caseNo)
@[simp] theorem hotlistAdd_cases (s : State) (cardNo caseNo : Nat) : (hotlistAdd cardNo caseNo s).cases = s.cases := by
  simp [hotlistAdd]
@[simp] theorem hotlistAdd_channels (s : State) (cardNo caseNo : Nat) : (hotlistAdd cardNo caseNo s).channels = s.channels := by
  simp [hotlistAdd]
@[simp] theorem hotlistAdd_zones (s : State) (cardNo caseNo : Nat) : (hotlistAdd cardNo caseNo s).zones = s.zones := by
  simp [hotlistAdd]
@[simp] theorem hotlistAdd_ports (s : State) (cardNo caseNo : Nat) : (hotlistAdd cardNo caseNo s).ports = s.ports := by
  simp [hotlistAdd]

/-! ### hotlistWithdraw -/

@[simp] theorem hotlistWithdraw_base (s : State) (cardNo caseNo : Nat) : (hotlistWithdraw cardNo caseNo s).base = s.base := by
  unfold hotlistWithdraw; dsimp only; split <;> simp
@[simp] theorem hotlistWithdraw_terminal (s : State) (cardNo caseNo : Nat) : (hotlistWithdraw cardNo caseNo s).terminal = s.terminal := terminal_of_base (hotlistWithdraw_base s cardNo caseNo)
@[simp] theorem hotlistWithdraw_links (s : State) (cardNo caseNo : Nat) : (hotlistWithdraw cardNo caseNo s).links = s.links := links_of_base (hotlistWithdraw_base s cardNo caseNo)
@[simp] theorem hotlistWithdraw_nextCase (s : State) (cardNo caseNo : Nat) : (hotlistWithdraw cardNo caseNo s).nextCase = s.nextCase := nextCase_of_base (hotlistWithdraw_base s cardNo caseNo)
@[simp] theorem hotlistWithdraw_concession (s : State) (cardNo caseNo : Nat) : (hotlistWithdraw cardNo caseNo s).concession = s.concession := concession_of_base (hotlistWithdraw_base s cardNo caseNo)
@[simp] theorem hotlistWithdraw_clock (s : State) (cardNo caseNo : Nat) : (hotlistWithdraw cardNo caseNo s).clock = s.clock := clock_of_base (hotlistWithdraw_base s cardNo caseNo)
@[simp] theorem hotlistWithdraw_settings (s : State) (cardNo caseNo : Nat) : (hotlistWithdraw cardNo caseNo s).settings = s.settings := settings_of_base (hotlistWithdraw_base s cardNo caseNo)
@[simp] theorem hotlistWithdraw_choices (s : State) (cardNo caseNo : Nat) : (hotlistWithdraw cardNo caseNo s).choices = s.choices := choices_of_base (hotlistWithdraw_base s cardNo caseNo)
@[simp] theorem hotlistWithdraw_pending (s : State) (cardNo caseNo : Nat) : (hotlistWithdraw cardNo caseNo s).pending = s.pending := pending_of_base (hotlistWithdraw_base s cardNo caseNo)
@[simp] theorem hotlistWithdraw_cases (s : State) (cardNo caseNo : Nat) : (hotlistWithdraw cardNo caseNo s).cases = s.cases := by
  unfold hotlistWithdraw; dsimp only; split <;> simp
@[simp] theorem hotlistWithdraw_channels (s : State) (cardNo caseNo : Nat) : (hotlistWithdraw cardNo caseNo s).channels = s.channels := by
  unfold hotlistWithdraw; dsimp only; split <;> simp
@[simp] theorem hotlistWithdraw_zones (s : State) (cardNo caseNo : Nat) : (hotlistWithdraw cardNo caseNo s).zones = s.zones := by
  unfold hotlistWithdraw; dsimp only; split <;> simp
@[simp] theorem hotlistWithdraw_ports (s : State) (cardNo caseNo : Nat) : (hotlistWithdraw cardNo caseNo s).ports = s.ports := by
  unfold hotlistWithdraw; dsimp only; split <;> simp

/-! ### completeCut -/

@[simp] theorem completeCut_base (s : State) : (completeCut s).base = s.base := rfl
@[simp] theorem completeCut_terminal (s : State) : (completeCut s).terminal = s.terminal := terminal_of_base (completeCut_base s)
@[simp] theorem completeCut_links (s : State) : (completeCut s).links = s.links := links_of_base (completeCut_base s)
@[simp] theorem completeCut_nextCase (s : State) : (completeCut s).nextCase = s.nextCase := nextCase_of_base (completeCut_base s)
@[simp] theorem completeCut_concession (s : State) : (completeCut s).concession = s.concession := concession_of_base (completeCut_base s)
@[simp] theorem completeCut_clock (s : State) : (completeCut s).clock = s.clock := clock_of_base (completeCut_base s)
@[simp] theorem completeCut_settings (s : State) : (completeCut s).settings = s.settings := settings_of_base (completeCut_base s)
@[simp] theorem completeCut_choices (s : State) : (completeCut s).choices = s.choices := choices_of_base (completeCut_base s)
@[simp] theorem completeCut_pending (s : State) : (completeCut s).pending = s.pending := pending_of_base (completeCut_base s)
@[simp] theorem completeCut_channels (s : State) : (completeCut s).channels = s.channels := rfl
@[simp] theorem completeCut_zones (s : State) : (completeCut s).zones = s.zones := rfl
@[simp] theorem completeCut_ports (s : State) : (completeCut s).ports = s.ports := rfl
@[simp] theorem completeCut_signing (s : State) : (completeCut s).signing = s.signing := rfl

/-! ### reportOn -/

@[simp] theorem reportOn_base (s : State) (n : Nat) (body : Case → ReportBody) : (reportOn n body s).base = s.base := by
  unfold reportOn; split <;> simp
@[simp] theorem reportOn_terminal (s : State) (n : Nat) (body : Case → ReportBody) : (reportOn n body s).terminal = s.terminal := terminal_of_base (reportOn_base s n body)
@[simp] theorem reportOn_links (s : State) (n : Nat) (body : Case → ReportBody) : (reportOn n body s).links = s.links := links_of_base (reportOn_base s n body)
@[simp] theorem reportOn_nextCase (s : State) (n : Nat) (body : Case → ReportBody) : (reportOn n body s).nextCase = s.nextCase := nextCase_of_base (reportOn_base s n body)
@[simp] theorem reportOn_concession (s : State) (n : Nat) (body : Case → ReportBody) : (reportOn n body s).concession = s.concession := concession_of_base (reportOn_base s n body)
@[simp] theorem reportOn_clock (s : State) (n : Nat) (body : Case → ReportBody) : (reportOn n body s).clock = s.clock := clock_of_base (reportOn_base s n body)
@[simp] theorem reportOn_settings (s : State) (n : Nat) (body : Case → ReportBody) : (reportOn n body s).settings = s.settings := settings_of_base (reportOn_base s n body)
@[simp] theorem reportOn_choices (s : State) (n : Nat) (body : Case → ReportBody) : (reportOn n body s).choices = s.choices := choices_of_base (reportOn_base s n body)
@[simp] theorem reportOn_pending (s : State) (n : Nat) (body : Case → ReportBody) : (reportOn n body s).pending = s.pending := pending_of_base (reportOn_base s n body)
@[simp] theorem reportOn_cases (s : State) (n : Nat) (body : Case → ReportBody) : (reportOn n body s).cases = s.cases := by
  unfold reportOn; split <;> simp
@[simp] theorem reportOn_hotlist (s : State) (n : Nat) (body : Case → ReportBody) : (reportOn n body s).hotlist = s.hotlist := by
  unfold reportOn; split <;> simp
@[simp] theorem reportOn_zones (s : State) (n : Nat) (body : Case → ReportBody) : (reportOn n body s).zones = s.zones := by
  unfold reportOn; split <;> simp
@[simp] theorem reportOn_ports (s : State) (n : Nat) (body : Case → ReportBody) : (reportOn n body s).ports = s.ports := by
  unfold reportOn; split <;> simp
@[simp] theorem reportOn_signing (s : State) (n : Nat) (body : Case → ReportBody) : (reportOn n body s).signing = s.signing := by
  unfold reportOn; split <;> simp

/-! ### queueStatement -/

@[simp] theorem queueStatement_base (s : State) (n : Nat) : (queueStatement n s).base = s.base := by
  simp [queueStatement]
@[simp] theorem queueStatement_terminal (s : State) (n : Nat) : (queueStatement n s).terminal = s.terminal := terminal_of_base (queueStatement_base s n)
@[simp] theorem queueStatement_links (s : State) (n : Nat) : (queueStatement n s).links = s.links := links_of_base (queueStatement_base s n)
@[simp] theorem queueStatement_nextCase (s : State) (n : Nat) : (queueStatement n s).nextCase = s.nextCase := nextCase_of_base (queueStatement_base s n)
@[simp] theorem queueStatement_concession (s : State) (n : Nat) : (queueStatement n s).concession = s.concession := concession_of_base (queueStatement_base s n)
@[simp] theorem queueStatement_clock (s : State) (n : Nat) : (queueStatement n s).clock = s.clock := clock_of_base (queueStatement_base s n)
@[simp] theorem queueStatement_settings (s : State) (n : Nat) : (queueStatement n s).settings = s.settings := settings_of_base (queueStatement_base s n)
@[simp] theorem queueStatement_choices (s : State) (n : Nat) : (queueStatement n s).choices = s.choices := choices_of_base (queueStatement_base s n)
@[simp] theorem queueStatement_pending (s : State) (n : Nat) : (queueStatement n s).pending = s.pending := pending_of_base (queueStatement_base s n)
@[simp] theorem queueStatement_cases (s : State) (n : Nat) : (queueStatement n s).cases = s.cases := by
  simp [queueStatement]
@[simp] theorem queueStatement_channels (s : State) (n : Nat) : (queueStatement n s).channels = s.channels := by
  simp [queueStatement]
@[simp] theorem queueStatement_hotlist (s : State) (n : Nat) : (queueStatement n s).hotlist = s.hotlist := by
  simp [queueStatement]
@[simp] theorem queueStatement_zones (s : State) (n : Nat) : (queueStatement n s).zones = s.zones := by
  simp [queueStatement]
@[simp] theorem queueStatement_ports (s : State) (n : Nat) : (queueStatement n s).ports = s.ports := by
  simp [queueStatement]

/-! ### settleWith -/

@[simp] theorem settleWith_base (s : State) (figures : Nat → Case → Settlement) (n : Nat) : (settleWith figures n s).base = s.base := by
  simp [settleWith]
@[simp] theorem settleWith_terminal (s : State) (figures : Nat → Case → Settlement) (n : Nat) : (settleWith figures n s).terminal = s.terminal := terminal_of_base (settleWith_base s figures n)
@[simp] theorem settleWith_links (s : State) (figures : Nat → Case → Settlement) (n : Nat) : (settleWith figures n s).links = s.links := links_of_base (settleWith_base s figures n)
@[simp] theorem settleWith_nextCase (s : State) (figures : Nat → Case → Settlement) (n : Nat) : (settleWith figures n s).nextCase = s.nextCase := nextCase_of_base (settleWith_base s figures n)
@[simp] theorem settleWith_concession (s : State) (figures : Nat → Case → Settlement) (n : Nat) : (settleWith figures n s).concession = s.concession := concession_of_base (settleWith_base s figures n)
@[simp] theorem settleWith_clock (s : State) (figures : Nat → Case → Settlement) (n : Nat) : (settleWith figures n s).clock = s.clock := clock_of_base (settleWith_base s figures n)
@[simp] theorem settleWith_settings (s : State) (figures : Nat → Case → Settlement) (n : Nat) : (settleWith figures n s).settings = s.settings := settings_of_base (settleWith_base s figures n)
@[simp] theorem settleWith_choices (s : State) (figures : Nat → Case → Settlement) (n : Nat) : (settleWith figures n s).choices = s.choices := choices_of_base (settleWith_base s figures n)
@[simp] theorem settleWith_pending (s : State) (figures : Nat → Case → Settlement) (n : Nat) : (settleWith figures n s).pending = s.pending := pending_of_base (settleWith_base s figures n)
@[simp] theorem settleWith_channels (s : State) (figures : Nat → Case → Settlement) (n : Nat) : (settleWith figures n s).channels = s.channels := by
  simp [settleWith]
@[simp] theorem settleWith_hotlist (s : State) (figures : Nat → Case → Settlement) (n : Nat) : (settleWith figures n s).hotlist = s.hotlist := by
  simp [settleWith]
@[simp] theorem settleWith_zones (s : State) (figures : Nat → Case → Settlement) (n : Nat) : (settleWith figures n s).zones = s.zones := by
  simp [settleWith]
@[simp] theorem settleWith_ports (s : State) (figures : Nat → Case → Settlement) (n : Nat) : (settleWith figures n s).ports = s.ports := by
  simp [settleWith]

/-! ### settle -/

@[simp] theorem settle_base (s : State) (kind : SettlementKind) (n : Nat) : (settle kind n s).base = s.base := by
  simp [settle]
@[simp] theorem settle_terminal (s : State) (kind : SettlementKind) (n : Nat) : (settle kind n s).terminal = s.terminal := terminal_of_base (settle_base s kind n)
@[simp] theorem settle_links (s : State) (kind : SettlementKind) (n : Nat) : (settle kind n s).links = s.links := links_of_base (settle_base s kind n)
@[simp] theorem settle_nextCase (s : State) (kind : SettlementKind) (n : Nat) : (settle kind n s).nextCase = s.nextCase := nextCase_of_base (settle_base s kind n)
@[simp] theorem settle_concession (s : State) (kind : SettlementKind) (n : Nat) : (settle kind n s).concession = s.concession := concession_of_base (settle_base s kind n)
@[simp] theorem settle_clock (s : State) (kind : SettlementKind) (n : Nat) : (settle kind n s).clock = s.clock := clock_of_base (settle_base s kind n)
@[simp] theorem settle_settings (s : State) (kind : SettlementKind) (n : Nat) : (settle kind n s).settings = s.settings := settings_of_base (settle_base s kind n)
@[simp] theorem settle_choices (s : State) (kind : SettlementKind) (n : Nat) : (settle kind n s).choices = s.choices := choices_of_base (settle_base s kind n)
@[simp] theorem settle_pending (s : State) (kind : SettlementKind) (n : Nat) : (settle kind n s).pending = s.pending := pending_of_base (settle_base s kind n)
@[simp] theorem settle_channels (s : State) (kind : SettlementKind) (n : Nat) : (settle kind n s).channels = s.channels := by
  simp [settle]
@[simp] theorem settle_hotlist (s : State) (kind : SettlementKind) (n : Nat) : (settle kind n s).hotlist = s.hotlist := by
  simp [settle]
@[simp] theorem settle_zones (s : State) (kind : SettlementKind) (n : Nat) : (settle kind n s).zones = s.zones := by
  simp [settle]
@[simp] theorem settle_ports (s : State) (kind : SettlementKind) (n : Nat) : (settle kind n s).ports = s.ports := by
  simp [settle]

/-! ### settleFromCard -/

@[simp] theorem settleFromCard_base (s : State) (r : ReadContents) (n : Nat) : (settleFromCard r n s).base = s.base := by
  simp [settleFromCard]
@[simp] theorem settleFromCard_terminal (s : State) (r : ReadContents) (n : Nat) : (settleFromCard r n s).terminal = s.terminal := terminal_of_base (settleFromCard_base s r n)
@[simp] theorem settleFromCard_links (s : State) (r : ReadContents) (n : Nat) : (settleFromCard r n s).links = s.links := links_of_base (settleFromCard_base s r n)
@[simp] theorem settleFromCard_nextCase (s : State) (r : ReadContents) (n : Nat) : (settleFromCard r n s).nextCase = s.nextCase := nextCase_of_base (settleFromCard_base s r n)
@[simp] theorem settleFromCard_concession (s : State) (r : ReadContents) (n : Nat) : (settleFromCard r n s).concession = s.concession := concession_of_base (settleFromCard_base s r n)
@[simp] theorem settleFromCard_clock (s : State) (r : ReadContents) (n : Nat) : (settleFromCard r n s).clock = s.clock := clock_of_base (settleFromCard_base s r n)
@[simp] theorem settleFromCard_settings (s : State) (r : ReadContents) (n : Nat) : (settleFromCard r n s).settings = s.settings := settings_of_base (settleFromCard_base s r n)
@[simp] theorem settleFromCard_choices (s : State) (r : ReadContents) (n : Nat) : (settleFromCard r n s).choices = s.choices := choices_of_base (settleFromCard_base s r n)
@[simp] theorem settleFromCard_pending (s : State) (r : ReadContents) (n : Nat) : (settleFromCard r n s).pending = s.pending := pending_of_base (settleFromCard_base s r n)
@[simp] theorem settleFromCard_channels (s : State) (r : ReadContents) (n : Nat) : (settleFromCard r n s).channels = s.channels := by
  simp [settleFromCard]
@[simp] theorem settleFromCard_hotlist (s : State) (r : ReadContents) (n : Nat) : (settleFromCard r n s).hotlist = s.hotlist := by
  simp [settleFromCard]
@[simp] theorem settleFromCard_zones (s : State) (r : ReadContents) (n : Nat) : (settleFromCard r n s).zones = s.zones := by
  simp [settleFromCard]
@[simp] theorem settleFromCard_ports (s : State) (r : ReadContents) (n : Nat) : (settleFromCard r n s).ports = s.ports := by
  simp [settleFromCard]

/-! ### raiseReview -/

@[simp] theorem raiseReview_base (s : State) (reason : Reason) (n : Nat) : (raiseReview reason n s).base = s.base := by
  unfold raiseReview; (repeat' split) <;> simp
@[simp] theorem raiseReview_terminal (s : State) (reason : Reason) (n : Nat) : (raiseReview reason n s).terminal = s.terminal := terminal_of_base (raiseReview_base s reason n)
@[simp] theorem raiseReview_links (s : State) (reason : Reason) (n : Nat) : (raiseReview reason n s).links = s.links := links_of_base (raiseReview_base s reason n)
@[simp] theorem raiseReview_nextCase (s : State) (reason : Reason) (n : Nat) : (raiseReview reason n s).nextCase = s.nextCase := nextCase_of_base (raiseReview_base s reason n)
@[simp] theorem raiseReview_concession (s : State) (reason : Reason) (n : Nat) : (raiseReview reason n s).concession = s.concession := concession_of_base (raiseReview_base s reason n)
@[simp] theorem raiseReview_clock (s : State) (reason : Reason) (n : Nat) : (raiseReview reason n s).clock = s.clock := clock_of_base (raiseReview_base s reason n)
@[simp] theorem raiseReview_settings (s : State) (reason : Reason) (n : Nat) : (raiseReview reason n s).settings = s.settings := settings_of_base (raiseReview_base s reason n)
@[simp] theorem raiseReview_choices (s : State) (reason : Reason) (n : Nat) : (raiseReview reason n s).choices = s.choices := choices_of_base (raiseReview_base s reason n)
@[simp] theorem raiseReview_pending (s : State) (reason : Reason) (n : Nat) : (raiseReview reason n s).pending = s.pending := pending_of_base (raiseReview_base s reason n)
@[simp] theorem raiseReview_hotlist (s : State) (reason : Reason) (n : Nat) : (raiseReview reason n s).hotlist = s.hotlist := by
  unfold raiseReview; (repeat' split) <;> simp
@[simp] theorem raiseReview_zones (s : State) (reason : Reason) (n : Nat) : (raiseReview reason n s).zones = s.zones := by
  unfold raiseReview; (repeat' split) <;> simp
@[simp] theorem raiseReview_ports (s : State) (reason : Reason) (n : Nat) : (raiseReview reason n s).ports = s.ports := by
  unfold raiseReview; (repeat' split) <;> simp
@[simp] theorem raiseReview_signing (s : State) (reason : Reason) (n : Nat) : (raiseReview reason n s).signing = s.signing := by
  unfold raiseReview; (repeat' split) <;> simp

/-! ### automaticTrigger -/

@[simp] theorem automaticTrigger_base (s : State) (n : Nat) : (automaticTrigger n s).base = s.base := by
  unfold automaticTrigger; (repeat' split) <;> simp
@[simp] theorem automaticTrigger_terminal (s : State) (n : Nat) : (automaticTrigger n s).terminal = s.terminal := terminal_of_base (automaticTrigger_base s n)
@[simp] theorem automaticTrigger_links (s : State) (n : Nat) : (automaticTrigger n s).links = s.links := links_of_base (automaticTrigger_base s n)
@[simp] theorem automaticTrigger_nextCase (s : State) (n : Nat) : (automaticTrigger n s).nextCase = s.nextCase := nextCase_of_base (automaticTrigger_base s n)
@[simp] theorem automaticTrigger_concession (s : State) (n : Nat) : (automaticTrigger n s).concession = s.concession := concession_of_base (automaticTrigger_base s n)
@[simp] theorem automaticTrigger_clock (s : State) (n : Nat) : (automaticTrigger n s).clock = s.clock := clock_of_base (automaticTrigger_base s n)
@[simp] theorem automaticTrigger_settings (s : State) (n : Nat) : (automaticTrigger n s).settings = s.settings := settings_of_base (automaticTrigger_base s n)
@[simp] theorem automaticTrigger_choices (s : State) (n : Nat) : (automaticTrigger n s).choices = s.choices := choices_of_base (automaticTrigger_base s n)
@[simp] theorem automaticTrigger_pending (s : State) (n : Nat) : (automaticTrigger n s).pending = s.pending := pending_of_base (automaticTrigger_base s n)
@[simp] theorem automaticTrigger_hotlist (s : State) (n : Nat) : (automaticTrigger n s).hotlist = s.hotlist := by
  unfold automaticTrigger; (repeat' split) <;> simp
@[simp] theorem automaticTrigger_zones (s : State) (n : Nat) : (automaticTrigger n s).zones = s.zones := by
  unfold automaticTrigger; (repeat' split) <;> simp
@[simp] theorem automaticTrigger_ports (s : State) (n : Nat) : (automaticTrigger n s).ports = s.ports := by
  unfold automaticTrigger; (repeat' split) <;> simp

/-! ### testCase -/

@[simp] theorem testCase_base (s : State) (n : Nat) : (testCase n s).base = s.base := by
  unfold testCase; (repeat' split) <;> simp
@[simp] theorem testCase_terminal (s : State) (n : Nat) : (testCase n s).terminal = s.terminal := terminal_of_base (testCase_base s n)
@[simp] theorem testCase_links (s : State) (n : Nat) : (testCase n s).links = s.links := links_of_base (testCase_base s n)
@[simp] theorem testCase_nextCase (s : State) (n : Nat) : (testCase n s).nextCase = s.nextCase := nextCase_of_base (testCase_base s n)
@[simp] theorem testCase_concession (s : State) (n : Nat) : (testCase n s).concession = s.concession := concession_of_base (testCase_base s n)
@[simp] theorem testCase_clock (s : State) (n : Nat) : (testCase n s).clock = s.clock := clock_of_base (testCase_base s n)
@[simp] theorem testCase_settings (s : State) (n : Nat) : (testCase n s).settings = s.settings := settings_of_base (testCase_base s n)
@[simp] theorem testCase_choices (s : State) (n : Nat) : (testCase n s).choices = s.choices := choices_of_base (testCase_base s n)
@[simp] theorem testCase_pending (s : State) (n : Nat) : (testCase n s).pending = s.pending := pending_of_base (testCase_base s n)
@[simp] theorem testCase_hotlist (s : State) (n : Nat) : (testCase n s).hotlist = s.hotlist := by
  unfold testCase; (repeat' split) <;> simp
@[simp] theorem testCase_zones (s : State) (n : Nat) : (testCase n s).zones = s.zones := by
  unfold testCase; (repeat' split) <;> simp
@[simp] theorem testCase_ports (s : State) (n : Nat) : (testCase n s).ports = s.ports := by
  unfold testCase; (repeat' split) <;> simp

/-! ### takeDue -/

@[simp] theorem takeDue_base (s : State) (n : Nat) : (takeDue n s).base = s.base := by
  unfold takeDue; (repeat' split) <;> simp
@[simp] theorem takeDue_terminal (s : State) (n : Nat) : (takeDue n s).terminal = s.terminal := terminal_of_base (takeDue_base s n)
@[simp] theorem takeDue_links (s : State) (n : Nat) : (takeDue n s).links = s.links := links_of_base (takeDue_base s n)
@[simp] theorem takeDue_nextCase (s : State) (n : Nat) : (takeDue n s).nextCase = s.nextCase := nextCase_of_base (takeDue_base s n)
@[simp] theorem takeDue_concession (s : State) (n : Nat) : (takeDue n s).concession = s.concession := concession_of_base (takeDue_base s n)
@[simp] theorem takeDue_clock (s : State) (n : Nat) : (takeDue n s).clock = s.clock := clock_of_base (takeDue_base s n)
@[simp] theorem takeDue_settings (s : State) (n : Nat) : (takeDue n s).settings = s.settings := settings_of_base (takeDue_base s n)
@[simp] theorem takeDue_choices (s : State) (n : Nat) : (takeDue n s).choices = s.choices := choices_of_base (takeDue_base s n)
@[simp] theorem takeDue_pending (s : State) (n : Nat) : (takeDue n s).pending = s.pending := pending_of_base (takeDue_base s n)
@[simp] theorem takeDue_hotlist (s : State) (n : Nat) : (takeDue n s).hotlist = s.hotlist := by
  unfold takeDue; (repeat' split) <;> simp
@[simp] theorem takeDue_zones (s : State) (n : Nat) : (takeDue n s).zones = s.zones := by
  unfold takeDue; (repeat' split) <;> simp
@[simp] theorem takeDue_ports (s : State) (n : Nat) : (takeDue n s).ports = s.ports := by
  unfold takeDue; (repeat' split) <;> simp

/-! ### triggerA -/

@[simp] theorem triggerA_base (s : State) (n : Nat) : (triggerA n s).base = s.base := by
  unfold triggerA; (repeat' split) <;> simp
@[simp] theorem triggerA_terminal (s : State) (n : Nat) : (triggerA n s).terminal = s.terminal := terminal_of_base (triggerA_base s n)
@[simp] theorem triggerA_links (s : State) (n : Nat) : (triggerA n s).links = s.links := links_of_base (triggerA_base s n)
@[simp] theorem triggerA_nextCase (s : State) (n : Nat) : (triggerA n s).nextCase = s.nextCase := nextCase_of_base (triggerA_base s n)
@[simp] theorem triggerA_concession (s : State) (n : Nat) : (triggerA n s).concession = s.concession := concession_of_base (triggerA_base s n)
@[simp] theorem triggerA_clock (s : State) (n : Nat) : (triggerA n s).clock = s.clock := clock_of_base (triggerA_base s n)
@[simp] theorem triggerA_settings (s : State) (n : Nat) : (triggerA n s).settings = s.settings := settings_of_base (triggerA_base s n)
@[simp] theorem triggerA_choices (s : State) (n : Nat) : (triggerA n s).choices = s.choices := choices_of_base (triggerA_base s n)
@[simp] theorem triggerA_pending (s : State) (n : Nat) : (triggerA n s).pending = s.pending := pending_of_base (triggerA_base s n)
@[simp] theorem triggerA_hotlist (s : State) (n : Nat) : (triggerA n s).hotlist = s.hotlist := by
  unfold triggerA; (repeat' split) <;> simp
@[simp] theorem triggerA_zones (s : State) (n : Nat) : (triggerA n s).zones = s.zones := by
  unfold triggerA; (repeat' split) <;> simp
@[simp] theorem triggerA_ports (s : State) (n : Nat) : (triggerA n s).ports = s.ports := by
  unfold triggerA; (repeat' split) <;> simp

/-! ### endCase -/

@[simp] theorem endCase_base (s : State) (cancelled : Bool) (n : Nat) : (endCase cancelled n s).base = s.base := by
  unfold endCase; split
  · rfl
  · exact (hotlistWithdraw_base _ _ _).trans (reportOn_base _ _ _)
@[simp] theorem endCase_terminal (s : State) (cancelled : Bool) (n : Nat) : (endCase cancelled n s).terminal = s.terminal := terminal_of_base (endCase_base s cancelled n)
@[simp] theorem endCase_links (s : State) (cancelled : Bool) (n : Nat) : (endCase cancelled n s).links = s.links := links_of_base (endCase_base s cancelled n)
@[simp] theorem endCase_nextCase (s : State) (cancelled : Bool) (n : Nat) : (endCase cancelled n s).nextCase = s.nextCase := nextCase_of_base (endCase_base s cancelled n)
@[simp] theorem endCase_concession (s : State) (cancelled : Bool) (n : Nat) : (endCase cancelled n s).concession = s.concession := concession_of_base (endCase_base s cancelled n)
@[simp] theorem endCase_clock (s : State) (cancelled : Bool) (n : Nat) : (endCase cancelled n s).clock = s.clock := clock_of_base (endCase_base s cancelled n)
@[simp] theorem endCase_settings (s : State) (cancelled : Bool) (n : Nat) : (endCase cancelled n s).settings = s.settings := settings_of_base (endCase_base s cancelled n)
@[simp] theorem endCase_choices (s : State) (cancelled : Bool) (n : Nat) : (endCase cancelled n s).choices = s.choices := choices_of_base (endCase_base s cancelled n)
@[simp] theorem endCase_pending (s : State) (cancelled : Bool) (n : Nat) : (endCase cancelled n s).pending = s.pending := pending_of_base (endCase_base s cancelled n)
@[simp] theorem endCase_zones (s : State) (cancelled : Bool) (n : Nat) : (endCase cancelled n s).zones = s.zones := by
  unfold endCase; split
  · rfl
  · exact (hotlistWithdraw_zones _ _ _).trans (reportOn_zones _ _ _)
@[simp] theorem endCase_ports (s : State) (cancelled : Bool) (n : Nat) : (endCase cancelled n s).ports = s.ports := by
  unfold endCase; split
  · rfl
  · exact (hotlistWithdraw_ports _ _ _).trans (reportOn_ports _ _ _)

/-! ### retentionTest -/

@[simp] theorem retentionTest_base (s : State) (n : Nat) : (retentionTest n s).base = s.base := by
  unfold retentionTest; (repeat' split) <;> simp
@[simp] theorem retentionTest_terminal (s : State) (n : Nat) : (retentionTest n s).terminal = s.terminal := terminal_of_base (retentionTest_base s n)
@[simp] theorem retentionTest_links (s : State) (n : Nat) : (retentionTest n s).links = s.links := links_of_base (retentionTest_base s n)
@[simp] theorem retentionTest_nextCase (s : State) (n : Nat) : (retentionTest n s).nextCase = s.nextCase := nextCase_of_base (retentionTest_base s n)
@[simp] theorem retentionTest_concession (s : State) (n : Nat) : (retentionTest n s).concession = s.concession := concession_of_base (retentionTest_base s n)
@[simp] theorem retentionTest_clock (s : State) (n : Nat) : (retentionTest n s).clock = s.clock := clock_of_base (retentionTest_base s n)
@[simp] theorem retentionTest_settings (s : State) (n : Nat) : (retentionTest n s).settings = s.settings := settings_of_base (retentionTest_base s n)
@[simp] theorem retentionTest_choices (s : State) (n : Nat) : (retentionTest n s).choices = s.choices := choices_of_base (retentionTest_base s n)
@[simp] theorem retentionTest_pending (s : State) (n : Nat) : (retentionTest n s).pending = s.pending := pending_of_base (retentionTest_base s n)
@[simp] theorem retentionTest_zones (s : State) (n : Nat) : (retentionTest n s).zones = s.zones := by
  unfold retentionTest; (repeat' split) <;> simp
@[simp] theorem retentionTest_ports (s : State) (n : Nat) : (retentionTest n s).ports = s.ports := by
  unfold retentionTest; (repeat' split) <;> simp

/-! ### rolloverCase -/

@[simp] theorem rolloverCase_base (s : State) (n : Nat) : (rolloverCase n s).base = s.base := by
  unfold rolloverCase; (repeat' split) <;> simp
@[simp] theorem rolloverCase_terminal (s : State) (n : Nat) : (rolloverCase n s).terminal = s.terminal := terminal_of_base (rolloverCase_base s n)
@[simp] theorem rolloverCase_links (s : State) (n : Nat) : (rolloverCase n s).links = s.links := links_of_base (rolloverCase_base s n)
@[simp] theorem rolloverCase_nextCase (s : State) (n : Nat) : (rolloverCase n s).nextCase = s.nextCase := nextCase_of_base (rolloverCase_base s n)
@[simp] theorem rolloverCase_concession (s : State) (n : Nat) : (rolloverCase n s).concession = s.concession := concession_of_base (rolloverCase_base s n)
@[simp] theorem rolloverCase_clock (s : State) (n : Nat) : (rolloverCase n s).clock = s.clock := clock_of_base (rolloverCase_base s n)
@[simp] theorem rolloverCase_settings (s : State) (n : Nat) : (rolloverCase n s).settings = s.settings := settings_of_base (rolloverCase_base s n)
@[simp] theorem rolloverCase_choices (s : State) (n : Nat) : (rolloverCase n s).choices = s.choices := choices_of_base (rolloverCase_base s n)
@[simp] theorem rolloverCase_pending (s : State) (n : Nat) : (rolloverCase n s).pending = s.pending := pending_of_base (rolloverCase_base s n)
@[simp] theorem rolloverCase_zones (s : State) (n : Nat) : (rolloverCase n s).zones = s.zones := by
  unfold rolloverCase; (repeat' split) <;> simp
@[simp] theorem rolloverCase_ports (s : State) (n : Nat) : (rolloverCase n s).ports = s.ports := by
  unfold rolloverCase; (repeat' split) <;> simp

/-! ### rolloverCases -/

@[simp] theorem rolloverCases_base (s : State) : (rolloverCases s).base = s.base := by
  unfold rolloverCases; exact (foldl_keeps State.base _ (fun a t => by simp) _ _)
@[simp] theorem rolloverCases_terminal (s : State) : (rolloverCases s).terminal = s.terminal := terminal_of_base (rolloverCases_base s)
@[simp] theorem rolloverCases_links (s : State) : (rolloverCases s).links = s.links := links_of_base (rolloverCases_base s)
@[simp] theorem rolloverCases_nextCase (s : State) : (rolloverCases s).nextCase = s.nextCase := nextCase_of_base (rolloverCases_base s)
@[simp] theorem rolloverCases_concession (s : State) : (rolloverCases s).concession = s.concession := concession_of_base (rolloverCases_base s)
@[simp] theorem rolloverCases_clock (s : State) : (rolloverCases s).clock = s.clock := clock_of_base (rolloverCases_base s)
@[simp] theorem rolloverCases_settings (s : State) : (rolloverCases s).settings = s.settings := settings_of_base (rolloverCases_base s)
@[simp] theorem rolloverCases_choices (s : State) : (rolloverCases s).choices = s.choices := choices_of_base (rolloverCases_base s)
@[simp] theorem rolloverCases_pending (s : State) : (rolloverCases s).pending = s.pending := pending_of_base (rolloverCases_base s)
@[simp] theorem rolloverCases_zones (s : State) : (rolloverCases s).zones = s.zones := by
  unfold rolloverCases; exact (foldl_keeps State.zones _ (fun a t => by simp) _ _)
@[simp] theorem rolloverCases_ports (s : State) : (rolloverCases s).ports = s.ports := by
  unfold rolloverCases; exact (foldl_keeps State.ports _ (fun a t => by simp) _ _)

/-! ### completeStatement -/

@[simp] theorem completeStatement_base (s : State) (code : Code) : (completeStatement code s).base = s.base := by
  unfold completeStatement; dsimp only; (repeat' split) <;> simp
@[simp] theorem completeStatement_terminal (s : State) (code : Code) : (completeStatement code s).terminal = s.terminal := terminal_of_base (completeStatement_base s code)
@[simp] theorem completeStatement_links (s : State) (code : Code) : (completeStatement code s).links = s.links := links_of_base (completeStatement_base s code)
@[simp] theorem completeStatement_nextCase (s : State) (code : Code) : (completeStatement code s).nextCase = s.nextCase := nextCase_of_base (completeStatement_base s code)
@[simp] theorem completeStatement_concession (s : State) (code : Code) : (completeStatement code s).concession = s.concession := concession_of_base (completeStatement_base s code)
@[simp] theorem completeStatement_clock (s : State) (code : Code) : (completeStatement code s).clock = s.clock := clock_of_base (completeStatement_base s code)
@[simp] theorem completeStatement_settings (s : State) (code : Code) : (completeStatement code s).settings = s.settings := settings_of_base (completeStatement_base s code)
@[simp] theorem completeStatement_choices (s : State) (code : Code) : (completeStatement code s).choices = s.choices := choices_of_base (completeStatement_base s code)
@[simp] theorem completeStatement_pending (s : State) (code : Code) : (completeStatement code s).pending = s.pending := pending_of_base (completeStatement_base s code)
@[simp] theorem completeStatement_zones (s : State) (code : Code) : (completeStatement code s).zones = s.zones := by
  unfold completeStatement; dsimp only; (repeat' split) <;> simp
@[simp] theorem completeStatement_ports (s : State) (code : Code) : (completeStatement code s).ports = s.ports := by
  unfold completeStatement; dsimp only; (repeat' split) <;> simp

/-! ### adjust -/

@[simp] theorem adjust_base (s : State) (n : Nat) (e : CardEvent) : (adjust n e s).base = s.base := by
  unfold adjust; (repeat' split) <;> simp
@[simp] theorem adjust_terminal (s : State) (n : Nat) (e : CardEvent) : (adjust n e s).terminal = s.terminal := terminal_of_base (adjust_base s n e)
@[simp] theorem adjust_links (s : State) (n : Nat) (e : CardEvent) : (adjust n e s).links = s.links := links_of_base (adjust_base s n e)
@[simp] theorem adjust_nextCase (s : State) (n : Nat) (e : CardEvent) : (adjust n e s).nextCase = s.nextCase := nextCase_of_base (adjust_base s n e)
@[simp] theorem adjust_concession (s : State) (n : Nat) (e : CardEvent) : (adjust n e s).concession = s.concession := concession_of_base (adjust_base s n e)
@[simp] theorem adjust_clock (s : State) (n : Nat) (e : CardEvent) : (adjust n e s).clock = s.clock := clock_of_base (adjust_base s n e)
@[simp] theorem adjust_settings (s : State) (n : Nat) (e : CardEvent) : (adjust n e s).settings = s.settings := settings_of_base (adjust_base s n e)
@[simp] theorem adjust_choices (s : State) (n : Nat) (e : CardEvent) : (adjust n e s).choices = s.choices := choices_of_base (adjust_base s n e)
@[simp] theorem adjust_pending (s : State) (n : Nat) (e : CardEvent) : (adjust n e s).pending = s.pending := pending_of_base (adjust_base s n e)
@[simp] theorem adjust_hotlist (s : State) (n : Nat) (e : CardEvent) : (adjust n e s).hotlist = s.hotlist := by
  unfold adjust; (repeat' split) <;> simp
@[simp] theorem adjust_zones (s : State) (n : Nat) (e : CardEvent) : (adjust n e s).zones = s.zones := by
  unfold adjust; (repeat' split) <;> simp
@[simp] theorem adjust_ports (s : State) (n : Nat) (e : CardEvent) : (adjust n e s).ports = s.ports := by
  unfold adjust; (repeat' split) <;> simp
@[simp] theorem adjust_signing (s : State) (n : Nat) (e : CardEvent) : (adjust n e s).signing = s.signing := by
  unfold adjust; (repeat' split) <;> simp

/-! ### afterArrival -/

@[simp] theorem afterArrival_base (s : State) (k : ArrivalClass) (settled : Bool) (n : Nat) (e : CardEvent) : (afterArrival k settled n e s).base = s.base := by
  cases k <;> cases settled <;> simp [afterArrival]
@[simp] theorem afterArrival_terminal (s : State) (k : ArrivalClass) (settled : Bool) (n : Nat) (e : CardEvent) : (afterArrival k settled n e s).terminal = s.terminal := terminal_of_base (afterArrival_base s k settled n e)
@[simp] theorem afterArrival_links (s : State) (k : ArrivalClass) (settled : Bool) (n : Nat) (e : CardEvent) : (afterArrival k settled n e s).links = s.links := links_of_base (afterArrival_base s k settled n e)
@[simp] theorem afterArrival_nextCase (s : State) (k : ArrivalClass) (settled : Bool) (n : Nat) (e : CardEvent) : (afterArrival k settled n e s).nextCase = s.nextCase := nextCase_of_base (afterArrival_base s k settled n e)
@[simp] theorem afterArrival_concession (s : State) (k : ArrivalClass) (settled : Bool) (n : Nat) (e : CardEvent) : (afterArrival k settled n e s).concession = s.concession := concession_of_base (afterArrival_base s k settled n e)
@[simp] theorem afterArrival_clock (s : State) (k : ArrivalClass) (settled : Bool) (n : Nat) (e : CardEvent) : (afterArrival k settled n e s).clock = s.clock := clock_of_base (afterArrival_base s k settled n e)
@[simp] theorem afterArrival_settings (s : State) (k : ArrivalClass) (settled : Bool) (n : Nat) (e : CardEvent) : (afterArrival k settled n e s).settings = s.settings := settings_of_base (afterArrival_base s k settled n e)
@[simp] theorem afterArrival_choices (s : State) (k : ArrivalClass) (settled : Bool) (n : Nat) (e : CardEvent) : (afterArrival k settled n e s).choices = s.choices := choices_of_base (afterArrival_base s k settled n e)
@[simp] theorem afterArrival_pending (s : State) (k : ArrivalClass) (settled : Bool) (n : Nat) (e : CardEvent) : (afterArrival k settled n e s).pending = s.pending := pending_of_base (afterArrival_base s k settled n e)
@[simp] theorem afterArrival_hotlist (s : State) (k : ArrivalClass) (settled : Bool) (n : Nat) (e : CardEvent) : (afterArrival k settled n e s).hotlist = s.hotlist := by
  cases k <;> cases settled <;> simp [afterArrival]
@[simp] theorem afterArrival_zones (s : State) (k : ArrivalClass) (settled : Bool) (n : Nat) (e : CardEvent) : (afterArrival k settled n e s).zones = s.zones := by
  cases k <;> cases settled <;> simp [afterArrival]
@[simp] theorem afterArrival_ports (s : State) (k : ArrivalClass) (settled : Bool) (n : Nat) (e : CardEvent) : (afterArrival k settled n e s).ports = s.ports := by
  cases k <;> cases settled <;> simp [afterArrival]
@[simp] theorem afterArrival_signing (s : State) (k : ArrivalClass) (settled : Bool) (n : Nat) (e : CardEvent) : (afterArrival k settled n e s).signing = s.signing := by
  cases k <;> cases settled <;> simp [afterArrival]

/-! ### arrival -/

@[simp] theorem arrival_base (s : State) (n : Nat) (e : CardEvent) : (arrival n e s).base = s.base := by
  unfold arrival; split <;> simp
@[simp] theorem arrival_terminal (s : State) (n : Nat) (e : CardEvent) : (arrival n e s).terminal = s.terminal := terminal_of_base (arrival_base s n e)
@[simp] theorem arrival_links (s : State) (n : Nat) (e : CardEvent) : (arrival n e s).links = s.links := links_of_base (arrival_base s n e)
@[simp] theorem arrival_nextCase (s : State) (n : Nat) (e : CardEvent) : (arrival n e s).nextCase = s.nextCase := nextCase_of_base (arrival_base s n e)
@[simp] theorem arrival_concession (s : State) (n : Nat) (e : CardEvent) : (arrival n e s).concession = s.concession := concession_of_base (arrival_base s n e)
@[simp] theorem arrival_clock (s : State) (n : Nat) (e : CardEvent) : (arrival n e s).clock = s.clock := clock_of_base (arrival_base s n e)
@[simp] theorem arrival_settings (s : State) (n : Nat) (e : CardEvent) : (arrival n e s).settings = s.settings := settings_of_base (arrival_base s n e)
@[simp] theorem arrival_choices (s : State) (n : Nat) (e : CardEvent) : (arrival n e s).choices = s.choices := choices_of_base (arrival_base s n e)
@[simp] theorem arrival_pending (s : State) (n : Nat) (e : CardEvent) : (arrival n e s).pending = s.pending := pending_of_base (arrival_base s n e)
@[simp] theorem arrival_hotlist (s : State) (n : Nat) (e : CardEvent) : (arrival n e s).hotlist = s.hotlist := by
  unfold arrival; split <;> simp
@[simp] theorem arrival_zones (s : State) (n : Nat) (e : CardEvent) : (arrival n e s).zones = s.zones := by
  unfold arrival; split <;> simp
@[simp] theorem arrival_ports (s : State) (n : Nat) (e : CardEvent) : (arrival n e s).ports = s.ports := by
  unfold arrival; split <;> simp
@[simp] theorem arrival_signing (s : State) (n : Nat) (e : CardEvent) : (arrival n e s).signing = s.signing := by
  unfold arrival; split <;> simp

/-! ### afterRuling -/

@[simp] theorem afterRuling_base (s : State) (n : Nat) : (afterRuling n s).base = s.base := by
  unfold afterRuling; (repeat' split) <;> simp
@[simp] theorem afterRuling_terminal (s : State) (n : Nat) : (afterRuling n s).terminal = s.terminal := terminal_of_base (afterRuling_base s n)
@[simp] theorem afterRuling_links (s : State) (n : Nat) : (afterRuling n s).links = s.links := links_of_base (afterRuling_base s n)
@[simp] theorem afterRuling_nextCase (s : State) (n : Nat) : (afterRuling n s).nextCase = s.nextCase := nextCase_of_base (afterRuling_base s n)
@[simp] theorem afterRuling_concession (s : State) (n : Nat) : (afterRuling n s).concession = s.concession := concession_of_base (afterRuling_base s n)
@[simp] theorem afterRuling_clock (s : State) (n : Nat) : (afterRuling n s).clock = s.clock := clock_of_base (afterRuling_base s n)
@[simp] theorem afterRuling_settings (s : State) (n : Nat) : (afterRuling n s).settings = s.settings := settings_of_base (afterRuling_base s n)
@[simp] theorem afterRuling_choices (s : State) (n : Nat) : (afterRuling n s).choices = s.choices := choices_of_base (afterRuling_base s n)
@[simp] theorem afterRuling_pending (s : State) (n : Nat) : (afterRuling n s).pending = s.pending := pending_of_base (afterRuling_base s n)
@[simp] theorem afterRuling_hotlist (s : State) (n : Nat) : (afterRuling n s).hotlist = s.hotlist := by
  unfold afterRuling; (repeat' split) <;> simp
@[simp] theorem afterRuling_zones (s : State) (n : Nat) : (afterRuling n s).zones = s.zones := by
  unfold afterRuling; (repeat' split) <;> simp
@[simp] theorem afterRuling_ports (s : State) (n : Nat) : (afterRuling n s).ports = s.ports := by
  unfold afterRuling; (repeat' split) <;> simp

/-! ### applyClosures -/

@[simp] theorem applyClosures_base (s : State) (z : ZoneId) (byRecord : List Nat) (rise : Option Nat) : (applyClosures z byRecord rise s).base = s.base := by
  unfold applyClosures; exact (foldl_keeps State.base _ (fun a t => by simp) _ _)
@[simp] theorem applyClosures_terminal (s : State) (z : ZoneId) (byRecord : List Nat) (rise : Option Nat) : (applyClosures z byRecord rise s).terminal = s.terminal := terminal_of_base (applyClosures_base s z byRecord rise)
@[simp] theorem applyClosures_links (s : State) (z : ZoneId) (byRecord : List Nat) (rise : Option Nat) : (applyClosures z byRecord rise s).links = s.links := links_of_base (applyClosures_base s z byRecord rise)
@[simp] theorem applyClosures_nextCase (s : State) (z : ZoneId) (byRecord : List Nat) (rise : Option Nat) : (applyClosures z byRecord rise s).nextCase = s.nextCase := nextCase_of_base (applyClosures_base s z byRecord rise)
@[simp] theorem applyClosures_concession (s : State) (z : ZoneId) (byRecord : List Nat) (rise : Option Nat) : (applyClosures z byRecord rise s).concession = s.concession := concession_of_base (applyClosures_base s z byRecord rise)
@[simp] theorem applyClosures_clock (s : State) (z : ZoneId) (byRecord : List Nat) (rise : Option Nat) : (applyClosures z byRecord rise s).clock = s.clock := clock_of_base (applyClosures_base s z byRecord rise)
@[simp] theorem applyClosures_settings (s : State) (z : ZoneId) (byRecord : List Nat) (rise : Option Nat) : (applyClosures z byRecord rise s).settings = s.settings := settings_of_base (applyClosures_base s z byRecord rise)
@[simp] theorem applyClosures_choices (s : State) (z : ZoneId) (byRecord : List Nat) (rise : Option Nat) : (applyClosures z byRecord rise s).choices = s.choices := choices_of_base (applyClosures_base s z byRecord rise)
@[simp] theorem applyClosures_pending (s : State) (z : ZoneId) (byRecord : List Nat) (rise : Option Nat) : (applyClosures z byRecord rise s).pending = s.pending := pending_of_base (applyClosures_base s z byRecord rise)
@[simp] theorem applyClosures_hotlist (s : State) (z : ZoneId) (byRecord : List Nat) (rise : Option Nat) : (applyClosures z byRecord rise s).hotlist = s.hotlist := by
  unfold applyClosures; exact (foldl_keeps State.hotlist _ (fun a t => by simp) _ _)
@[simp] theorem applyClosures_zones (s : State) (z : ZoneId) (byRecord : List Nat) (rise : Option Nat) : (applyClosures z byRecord rise s).zones = s.zones := by
  unfold applyClosures; exact (foldl_keeps State.zones _ (fun a t => by simp) _ _)
@[simp] theorem applyClosures_ports (s : State) (z : ZoneId) (byRecord : List Nat) (rise : Option Nat) : (applyClosures z byRecord rise s).ports = s.ports := by
  unfold applyClosures; exact (foldl_keeps State.ports _ (fun a t => by simp) _ _)

/-! ### testLacking -/

@[simp] theorem testLacking_base (s : State) (z : ZoneId) : (testLacking z s).base = s.base := by
  unfold testLacking; exact (foldl_keeps State.base _ (fun a t => by simp) _ _)
@[simp] theorem testLacking_terminal (s : State) (z : ZoneId) : (testLacking z s).terminal = s.terminal := terminal_of_base (testLacking_base s z)
@[simp] theorem testLacking_links (s : State) (z : ZoneId) : (testLacking z s).links = s.links := links_of_base (testLacking_base s z)
@[simp] theorem testLacking_nextCase (s : State) (z : ZoneId) : (testLacking z s).nextCase = s.nextCase := nextCase_of_base (testLacking_base s z)
@[simp] theorem testLacking_concession (s : State) (z : ZoneId) : (testLacking z s).concession = s.concession := concession_of_base (testLacking_base s z)
@[simp] theorem testLacking_clock (s : State) (z : ZoneId) : (testLacking z s).clock = s.clock := clock_of_base (testLacking_base s z)
@[simp] theorem testLacking_settings (s : State) (z : ZoneId) : (testLacking z s).settings = s.settings := settings_of_base (testLacking_base s z)
@[simp] theorem testLacking_choices (s : State) (z : ZoneId) : (testLacking z s).choices = s.choices := choices_of_base (testLacking_base s z)
@[simp] theorem testLacking_pending (s : State) (z : ZoneId) : (testLacking z s).pending = s.pending := pending_of_base (testLacking_base s z)
@[simp] theorem testLacking_hotlist (s : State) (z : ZoneId) : (testLacking z s).hotlist = s.hotlist := by
  unfold testLacking; exact (foldl_keeps State.hotlist _ (fun a t => by simp) _ _)
@[simp] theorem testLacking_zones (s : State) (z : ZoneId) : (testLacking z s).zones = s.zones := by
  unfold testLacking; exact (foldl_keeps State.zones _ (fun a t => by simp) _ _)
@[simp] theorem testLacking_ports (s : State) (z : ZoneId) : (testLacking z s).ports = s.ports := by
  unfold testLacking; exact (foldl_keeps State.ports _ (fun a t => by simp) _ _)

/-! ### raiseError -/

@[simp] theorem raiseError_base (s : State) (count : ErrorCount) (z : ZoneId) : (raiseError count z s).base = s.base := by
  unfold raiseError; dsimp only; split <;> simp
@[simp] theorem raiseError_terminal (s : State) (count : ErrorCount) (z : ZoneId) : (raiseError count z s).terminal = s.terminal := terminal_of_base (raiseError_base s count z)
@[simp] theorem raiseError_links (s : State) (count : ErrorCount) (z : ZoneId) : (raiseError count z s).links = s.links := links_of_base (raiseError_base s count z)
@[simp] theorem raiseError_nextCase (s : State) (count : ErrorCount) (z : ZoneId) : (raiseError count z s).nextCase = s.nextCase := nextCase_of_base (raiseError_base s count z)
@[simp] theorem raiseError_concession (s : State) (count : ErrorCount) (z : ZoneId) : (raiseError count z s).concession = s.concession := concession_of_base (raiseError_base s count z)
@[simp] theorem raiseError_clock (s : State) (count : ErrorCount) (z : ZoneId) : (raiseError count z s).clock = s.clock := clock_of_base (raiseError_base s count z)
@[simp] theorem raiseError_settings (s : State) (count : ErrorCount) (z : ZoneId) : (raiseError count z s).settings = s.settings := settings_of_base (raiseError_base s count z)
@[simp] theorem raiseError_choices (s : State) (count : ErrorCount) (z : ZoneId) : (raiseError count z s).choices = s.choices := choices_of_base (raiseError_base s count z)
@[simp] theorem raiseError_pending (s : State) (count : ErrorCount) (z : ZoneId) : (raiseError count z s).pending = s.pending := pending_of_base (raiseError_base s count z)
@[simp] theorem raiseError_cases (s : State) (count : ErrorCount) (z : ZoneId) : (raiseError count z s).cases = s.cases := by
  unfold raiseError; dsimp only; split <;> simp
@[simp] theorem raiseError_hotlist (s : State) (count : ErrorCount) (z : ZoneId) : (raiseError count z s).hotlist = s.hotlist := by
  unfold raiseError; dsimp only; split <;> simp
@[simp] theorem raiseError_ports (s : State) (count : ErrorCount) (z : ZoneId) : (raiseError count z s).ports = s.ports := by
  unfold raiseError; dsimp only; split <;> simp
@[simp] theorem raiseError_signing (s : State) (count : ErrorCount) (z : ZoneId) : (raiseError count z s).signing = s.signing := by
  unfold raiseError; dsimp only; split <;> simp

/-! ### overflowBatch -/

@[simp] theorem overflowBatch_base (s : State) (z : ZoneId) : (overflowBatch z s).base = s.base := by
  simp [overflowBatch]
@[simp] theorem overflowBatch_terminal (s : State) (z : ZoneId) : (overflowBatch z s).terminal = s.terminal := terminal_of_base (overflowBatch_base s z)
@[simp] theorem overflowBatch_links (s : State) (z : ZoneId) : (overflowBatch z s).links = s.links := links_of_base (overflowBatch_base s z)
@[simp] theorem overflowBatch_nextCase (s : State) (z : ZoneId) : (overflowBatch z s).nextCase = s.nextCase := nextCase_of_base (overflowBatch_base s z)
@[simp] theorem overflowBatch_concession (s : State) (z : ZoneId) : (overflowBatch z s).concession = s.concession := concession_of_base (overflowBatch_base s z)
@[simp] theorem overflowBatch_clock (s : State) (z : ZoneId) : (overflowBatch z s).clock = s.clock := clock_of_base (overflowBatch_base s z)
@[simp] theorem overflowBatch_settings (s : State) (z : ZoneId) : (overflowBatch z s).settings = s.settings := settings_of_base (overflowBatch_base s z)
@[simp] theorem overflowBatch_choices (s : State) (z : ZoneId) : (overflowBatch z s).choices = s.choices := choices_of_base (overflowBatch_base s z)
@[simp] theorem overflowBatch_pending (s : State) (z : ZoneId) : (overflowBatch z s).pending = s.pending := pending_of_base (overflowBatch_base s z)
@[simp] theorem overflowBatch_cases (s : State) (z : ZoneId) : (overflowBatch z s).cases = s.cases := by
  simp [overflowBatch]
@[simp] theorem overflowBatch_hotlist (s : State) (z : ZoneId) : (overflowBatch z s).hotlist = s.hotlist := by
  simp [overflowBatch]
@[simp] theorem overflowBatch_ports (s : State) (z : ZoneId) : (overflowBatch z s).ports = s.ports := by
  simp [overflowBatch]
@[simp] theorem overflowBatch_signing (s : State) (z : ZoneId) : (overflowBatch z s).signing = s.signing := by
  simp [overflowBatch]

/-! ### takeRecord -/

@[simp] theorem takeRecord_base (s : State) (z : ZoneId) (bytes : List Byte) : (takeRecord z bytes s).1.base = s.base := by
  unfold takeRecord; (repeat' split) <;> simp
@[simp] theorem takeRecord_terminal (s : State) (z : ZoneId) (bytes : List Byte) : (takeRecord z bytes s).1.terminal = s.terminal := terminal_of_base (takeRecord_base s z bytes)
@[simp] theorem takeRecord_links (s : State) (z : ZoneId) (bytes : List Byte) : (takeRecord z bytes s).1.links = s.links := links_of_base (takeRecord_base s z bytes)
@[simp] theorem takeRecord_nextCase (s : State) (z : ZoneId) (bytes : List Byte) : (takeRecord z bytes s).1.nextCase = s.nextCase := nextCase_of_base (takeRecord_base s z bytes)
@[simp] theorem takeRecord_concession (s : State) (z : ZoneId) (bytes : List Byte) : (takeRecord z bytes s).1.concession = s.concession := concession_of_base (takeRecord_base s z bytes)
@[simp] theorem takeRecord_clock (s : State) (z : ZoneId) (bytes : List Byte) : (takeRecord z bytes s).1.clock = s.clock := clock_of_base (takeRecord_base s z bytes)
@[simp] theorem takeRecord_settings (s : State) (z : ZoneId) (bytes : List Byte) : (takeRecord z bytes s).1.settings = s.settings := settings_of_base (takeRecord_base s z bytes)
@[simp] theorem takeRecord_choices (s : State) (z : ZoneId) (bytes : List Byte) : (takeRecord z bytes s).1.choices = s.choices := choices_of_base (takeRecord_base s z bytes)
@[simp] theorem takeRecord_pending (s : State) (z : ZoneId) (bytes : List Byte) : (takeRecord z bytes s).1.pending = s.pending := pending_of_base (takeRecord_base s z bytes)
@[simp] theorem takeRecord_cases (s : State) (z : ZoneId) (bytes : List Byte) : (takeRecord z bytes s).1.cases = s.cases := by
  unfold takeRecord; (repeat' split) <;> simp
@[simp] theorem takeRecord_hotlist (s : State) (z : ZoneId) (bytes : List Byte) : (takeRecord z bytes s).1.hotlist = s.hotlist := by
  unfold takeRecord; (repeat' split) <;> simp
@[simp] theorem takeRecord_ports (s : State) (z : ZoneId) (bytes : List Byte) : (takeRecord z bytes s).1.ports = s.ports := by
  unfold takeRecord; (repeat' split) <;> simp
@[simp] theorem takeRecord_signing (s : State) (z : ZoneId) (bytes : List Byte) : (takeRecord z bytes s).1.signing = s.signing := by
  unfold takeRecord; (repeat' split) <;> simp

/-! ### takeRecords -/

@[simp] theorem takeRecords_base (s : State) (z : ZoneId) (l : List (List Byte)) : (takeRecords z l s).1.base = s.base := by
  induction l generalizing s with
  | nil => rfl
  | cons r l ih =>
    have h := takeRecord_base s z r
    unfold takeRecords; split <;> simp_all
@[simp] theorem takeRecords_terminal (s : State) (z : ZoneId) (l : List (List Byte)) : (takeRecords z l s).1.terminal = s.terminal := terminal_of_base (takeRecords_base s z l)
@[simp] theorem takeRecords_links (s : State) (z : ZoneId) (l : List (List Byte)) : (takeRecords z l s).1.links = s.links := links_of_base (takeRecords_base s z l)
@[simp] theorem takeRecords_nextCase (s : State) (z : ZoneId) (l : List (List Byte)) : (takeRecords z l s).1.nextCase = s.nextCase := nextCase_of_base (takeRecords_base s z l)
@[simp] theorem takeRecords_concession (s : State) (z : ZoneId) (l : List (List Byte)) : (takeRecords z l s).1.concession = s.concession := concession_of_base (takeRecords_base s z l)
@[simp] theorem takeRecords_clock (s : State) (z : ZoneId) (l : List (List Byte)) : (takeRecords z l s).1.clock = s.clock := clock_of_base (takeRecords_base s z l)
@[simp] theorem takeRecords_settings (s : State) (z : ZoneId) (l : List (List Byte)) : (takeRecords z l s).1.settings = s.settings := settings_of_base (takeRecords_base s z l)
@[simp] theorem takeRecords_choices (s : State) (z : ZoneId) (l : List (List Byte)) : (takeRecords z l s).1.choices = s.choices := choices_of_base (takeRecords_base s z l)
@[simp] theorem takeRecords_pending (s : State) (z : ZoneId) (l : List (List Byte)) : (takeRecords z l s).1.pending = s.pending := pending_of_base (takeRecords_base s z l)
@[simp] theorem takeRecords_cases (s : State) (z : ZoneId) (l : List (List Byte)) : (takeRecords z l s).1.cases = s.cases := by
  induction l generalizing s with
  | nil => rfl
  | cons r l ih =>
    have h := takeRecord_cases s z r
    unfold takeRecords; split <;> simp_all
@[simp] theorem takeRecords_hotlist (s : State) (z : ZoneId) (l : List (List Byte)) : (takeRecords z l s).1.hotlist = s.hotlist := by
  induction l generalizing s with
  | nil => rfl
  | cons r l ih =>
    have h := takeRecord_hotlist s z r
    unfold takeRecords; split <;> simp_all
@[simp] theorem takeRecords_ports (s : State) (z : ZoneId) (l : List (List Byte)) : (takeRecords z l s).1.ports = s.ports := by
  induction l generalizing s with
  | nil => rfl
  | cons r l ih =>
    have h := takeRecord_ports s z r
    unfold takeRecords; split <;> simp_all
@[simp] theorem takeRecords_signing (s : State) (z : ZoneId) (l : List (List Byte)) : (takeRecords z l s).1.signing = s.signing := by
  induction l generalizing s with
  | nil => rfl
  | cons r l ih =>
    have h := takeRecord_signing s z r
    unfold takeRecords; split <;> simp_all

/-! ### dormancyTest -/

@[simp] theorem dormancyTest_base (s : State) (day : Nat) (z : ZoneId) : (dormancyTest day z s).base = s.base := by
  unfold dormancyTest; dsimp only; (repeat' split) <;> simp
@[simp] theorem dormancyTest_terminal (s : State) (day : Nat) (z : ZoneId) : (dormancyTest day z s).terminal = s.terminal := terminal_of_base (dormancyTest_base s day z)
@[simp] theorem dormancyTest_links (s : State) (day : Nat) (z : ZoneId) : (dormancyTest day z s).links = s.links := links_of_base (dormancyTest_base s day z)
@[simp] theorem dormancyTest_nextCase (s : State) (day : Nat) (z : ZoneId) : (dormancyTest day z s).nextCase = s.nextCase := nextCase_of_base (dormancyTest_base s day z)
@[simp] theorem dormancyTest_concession (s : State) (day : Nat) (z : ZoneId) : (dormancyTest day z s).concession = s.concession := concession_of_base (dormancyTest_base s day z)
@[simp] theorem dormancyTest_clock (s : State) (day : Nat) (z : ZoneId) : (dormancyTest day z s).clock = s.clock := clock_of_base (dormancyTest_base s day z)
@[simp] theorem dormancyTest_settings (s : State) (day : Nat) (z : ZoneId) : (dormancyTest day z s).settings = s.settings := settings_of_base (dormancyTest_base s day z)
@[simp] theorem dormancyTest_choices (s : State) (day : Nat) (z : ZoneId) : (dormancyTest day z s).choices = s.choices := choices_of_base (dormancyTest_base s day z)
@[simp] theorem dormancyTest_pending (s : State) (day : Nat) (z : ZoneId) : (dormancyTest day z s).pending = s.pending := pending_of_base (dormancyTest_base s day z)
@[simp] theorem dormancyTest_cases (s : State) (day : Nat) (z : ZoneId) : (dormancyTest day z s).cases = s.cases := by
  unfold dormancyTest; dsimp only; (repeat' split) <;> simp
@[simp] theorem dormancyTest_hotlist (s : State) (day : Nat) (z : ZoneId) : (dormancyTest day z s).hotlist = s.hotlist := by
  unfold dormancyTest; dsimp only; (repeat' split) <;> simp
@[simp] theorem dormancyTest_ports (s : State) (day : Nat) (z : ZoneId) : (dormancyTest day z s).ports = s.ports := by
  unfold dormancyTest; dsimp only; (repeat' split) <;> simp
@[simp] theorem dormancyTest_signing (s : State) (day : Nat) (z : ZoneId) : (dormancyTest day z s).signing = s.signing := by
  unfold dormancyTest; dsimp only; (repeat' split) <;> simp

/-! ### rolloverZones -/

@[simp] theorem rolloverZones_terminal (s : State) (day : Nat) : (rolloverZones day s).terminal = s.terminal := by
  unfold rolloverZones; exact runFree_frame State.terminal (fun _ _ => rfl) _ _ _ (fun z u => by simp)
@[simp] theorem rolloverZones_links (s : State) (day : Nat) : (rolloverZones day s).links = s.links := by
  unfold rolloverZones; exact runFree_frame State.links (fun _ _ => rfl) _ _ _ (fun z u => by simp)
@[simp] theorem rolloverZones_nextCase (s : State) (day : Nat) : (rolloverZones day s).nextCase = s.nextCase := by
  unfold rolloverZones; exact runFree_frame State.nextCase (fun _ _ => rfl) _ _ _ (fun z u => by simp)
@[simp] theorem rolloverZones_concession (s : State) (day : Nat) : (rolloverZones day s).concession = s.concession := by
  unfold rolloverZones; exact runFree_frame State.concession (fun _ _ => rfl) _ _ _ (fun z u => by simp)
@[simp] theorem rolloverZones_clock (s : State) (day : Nat) : (rolloverZones day s).clock = s.clock := by
  unfold rolloverZones; exact runFree_frame State.clock (fun _ _ => rfl) _ _ _ (fun z u => by simp)
@[simp] theorem rolloverZones_settings (s : State) (day : Nat) : (rolloverZones day s).settings = s.settings := by
  unfold rolloverZones; exact runFree_frame State.settings (fun _ _ => rfl) _ _ _ (fun z u => by simp)
@[simp] theorem rolloverZones_pending (s : State) (day : Nat) : (rolloverZones day s).pending = s.pending := by
  unfold rolloverZones; exact runFree_frame State.pending (fun _ _ => rfl) _ _ _ (fun z u => by simp)
@[simp] theorem rolloverZones_cases (s : State) (day : Nat) : (rolloverZones day s).cases = s.cases := by
  unfold rolloverZones; exact runFree_frame State.cases (fun _ _ => rfl) _ _ _ (fun z u => by simp)
@[simp] theorem rolloverZones_hotlist (s : State) (day : Nat) : (rolloverZones day s).hotlist = s.hotlist := by
  unfold rolloverZones; exact runFree_frame State.hotlist (fun _ _ => rfl) _ _ _ (fun z u => by simp)
@[simp] theorem rolloverZones_ports (s : State) (day : Nat) : (rolloverZones day s).ports = s.ports := by
  unfold rolloverZones; exact runFree_frame State.ports (fun _ _ => rfl) _ _ _ (fun z u => by simp)
@[simp] theorem rolloverZones_signing (s : State) (day : Nat) : (rolloverZones day s).signing = s.signing := by
  unfold rolloverZones; exact runFree_frame State.signing (fun _ _ => rfl) _ _ _ (fun z u => by simp)

/-! ### commitRecord -/

@[simp] theorem commitRecord_base (s : State) (e : CardEvent) (n : CommitCount) : (commitRecord e (s, n)).1.base = s.base := by
  unfold commitRecord; dsimp only; split <;> simp
@[simp] theorem commitRecord_terminal (s : State) (e : CardEvent) (n : CommitCount) : (commitRecord e (s, n)).1.terminal = s.terminal := terminal_of_base (commitRecord_base s e n)
@[simp] theorem commitRecord_links (s : State) (e : CardEvent) (n : CommitCount) : (commitRecord e (s, n)).1.links = s.links := links_of_base (commitRecord_base s e n)
@[simp] theorem commitRecord_nextCase (s : State) (e : CardEvent) (n : CommitCount) : (commitRecord e (s, n)).1.nextCase = s.nextCase := nextCase_of_base (commitRecord_base s e n)
@[simp] theorem commitRecord_concession (s : State) (e : CardEvent) (n : CommitCount) : (commitRecord e (s, n)).1.concession = s.concession := concession_of_base (commitRecord_base s e n)
@[simp] theorem commitRecord_clock (s : State) (e : CardEvent) (n : CommitCount) : (commitRecord e (s, n)).1.clock = s.clock := clock_of_base (commitRecord_base s e n)
@[simp] theorem commitRecord_settings (s : State) (e : CardEvent) (n : CommitCount) : (commitRecord e (s, n)).1.settings = s.settings := settings_of_base (commitRecord_base s e n)
@[simp] theorem commitRecord_choices (s : State) (e : CardEvent) (n : CommitCount) : (commitRecord e (s, n)).1.choices = s.choices := choices_of_base (commitRecord_base s e n)
@[simp] theorem commitRecord_pending (s : State) (e : CardEvent) (n : CommitCount) : (commitRecord e (s, n)).1.pending = s.pending := pending_of_base (commitRecord_base s e n)
@[simp] theorem commitRecord_hotlist (s : State) (e : CardEvent) (n : CommitCount) : (commitRecord e (s, n)).1.hotlist = s.hotlist := by
  unfold commitRecord; dsimp only; split <;> simp
@[simp] theorem commitRecord_zones (s : State) (e : CardEvent) (n : CommitCount) : (commitRecord e (s, n)).1.zones = s.zones := by
  unfold commitRecord; dsimp only; split <;> simp
@[simp] theorem commitRecord_ports (s : State) (e : CardEvent) (n : CommitCount) : (commitRecord e (s, n)).1.ports = s.ports := by
  unfold commitRecord; dsimp only; split <;> simp
@[simp] theorem commitRecord_signing (s : State) (e : CardEvent) (n : CommitCount) : (commitRecord e (s, n)).1.signing = s.signing := by
  unfold commitRecord; dsimp only; split <;> simp

/-! ### commitRecords -/

@[simp] theorem commitRecords_base (s : State) (l : List CardEvent) : (commitRecords l s).1.base = s.base := by
  unfold commitRecords; exact foldl_keeps (fun x : State × CommitCount => x.1.base) _ (fun a t => by cases t; simp) _ _
@[simp] theorem commitRecords_terminal (s : State) (l : List CardEvent) : (commitRecords l s).1.terminal = s.terminal := terminal_of_base (commitRecords_base s l)
@[simp] theorem commitRecords_links (s : State) (l : List CardEvent) : (commitRecords l s).1.links = s.links := links_of_base (commitRecords_base s l)
@[simp] theorem commitRecords_nextCase (s : State) (l : List CardEvent) : (commitRecords l s).1.nextCase = s.nextCase := nextCase_of_base (commitRecords_base s l)
@[simp] theorem commitRecords_concession (s : State) (l : List CardEvent) : (commitRecords l s).1.concession = s.concession := concession_of_base (commitRecords_base s l)
@[simp] theorem commitRecords_clock (s : State) (l : List CardEvent) : (commitRecords l s).1.clock = s.clock := clock_of_base (commitRecords_base s l)
@[simp] theorem commitRecords_settings (s : State) (l : List CardEvent) : (commitRecords l s).1.settings = s.settings := settings_of_base (commitRecords_base s l)
@[simp] theorem commitRecords_choices (s : State) (l : List CardEvent) : (commitRecords l s).1.choices = s.choices := choices_of_base (commitRecords_base s l)
@[simp] theorem commitRecords_pending (s : State) (l : List CardEvent) : (commitRecords l s).1.pending = s.pending := pending_of_base (commitRecords_base s l)
@[simp] theorem commitRecords_hotlist (s : State) (l : List CardEvent) : (commitRecords l s).1.hotlist = s.hotlist := by
  unfold commitRecords; exact foldl_keeps (fun x : State × CommitCount => x.1.hotlist) _ (fun a t => by cases t; simp) _ _
@[simp] theorem commitRecords_zones (s : State) (l : List CardEvent) : (commitRecords l s).1.zones = s.zones := by
  unfold commitRecords; exact foldl_keeps (fun x : State × CommitCount => x.1.zones) _ (fun a t => by cases t; simp) _ _
@[simp] theorem commitRecords_ports (s : State) (l : List CardEvent) : (commitRecords l s).1.ports = s.ports := by
  unfold commitRecords; exact foldl_keeps (fun x : State × CommitCount => x.1.ports) _ (fun a t => by cases t; simp) _ _
@[simp] theorem commitRecords_signing (s : State) (l : List CardEvent) : (commitRecords l s).1.signing = s.signing := by
  unfold commitRecords; exact foldl_keeps (fun x : State × CommitCount => x.1.signing) _ (fun a t => by cases t; simp) _ _

/-! ### commitBatch -/

@[simp] theorem commitBatch_base (s : State) (z : ZoneId) (b : OpenBatch) : (commitBatch z b s).1.base = s.base := by
  simp [commitBatch]
@[simp] theorem commitBatch_terminal (s : State) (z : ZoneId) (b : OpenBatch) : (commitBatch z b s).1.terminal = s.terminal := terminal_of_base (commitBatch_base s z b)
@[simp] theorem commitBatch_links (s : State) (z : ZoneId) (b : OpenBatch) : (commitBatch z b s).1.links = s.links := links_of_base (commitBatch_base s z b)
@[simp] theorem commitBatch_nextCase (s : State) (z : ZoneId) (b : OpenBatch) : (commitBatch z b s).1.nextCase = s.nextCase := nextCase_of_base (commitBatch_base s z b)
@[simp] theorem commitBatch_concession (s : State) (z : ZoneId) (b : OpenBatch) : (commitBatch z b s).1.concession = s.concession := concession_of_base (commitBatch_base s z b)
@[simp] theorem commitBatch_clock (s : State) (z : ZoneId) (b : OpenBatch) : (commitBatch z b s).1.clock = s.clock := clock_of_base (commitBatch_base s z b)
@[simp] theorem commitBatch_settings (s : State) (z : ZoneId) (b : OpenBatch) : (commitBatch z b s).1.settings = s.settings := settings_of_base (commitBatch_base s z b)
@[simp] theorem commitBatch_choices (s : State) (z : ZoneId) (b : OpenBatch) : (commitBatch z b s).1.choices = s.choices := choices_of_base (commitBatch_base s z b)
@[simp] theorem commitBatch_pending (s : State) (z : ZoneId) (b : OpenBatch) : (commitBatch z b s).1.pending = s.pending := pending_of_base (commitBatch_base s z b)
@[simp] theorem commitBatch_hotlist (s : State) (z : ZoneId) (b : OpenBatch) : (commitBatch z b s).1.hotlist = s.hotlist := by
  simp [commitBatch]
@[simp] theorem commitBatch_ports (s : State) (z : ZoneId) (b : OpenBatch) : (commitBatch z b s).1.ports = s.ports := by
  simp [commitBatch]

/-! ### applyOutcome -/

@[simp] theorem applyOutcome_base (s : State) (o : JobOutcome) (j : Job) : (applyOutcome o j s).base = s.base := by
  unfold applyOutcome; (repeat' split) <;> simp
@[simp] theorem applyOutcome_terminal (s : State) (o : JobOutcome) (j : Job) : (applyOutcome o j s).terminal = s.terminal := terminal_of_base (applyOutcome_base s o j)
@[simp] theorem applyOutcome_links (s : State) (o : JobOutcome) (j : Job) : (applyOutcome o j s).links = s.links := links_of_base (applyOutcome_base s o j)
@[simp] theorem applyOutcome_nextCase (s : State) (o : JobOutcome) (j : Job) : (applyOutcome o j s).nextCase = s.nextCase := nextCase_of_base (applyOutcome_base s o j)
@[simp] theorem applyOutcome_concession (s : State) (o : JobOutcome) (j : Job) : (applyOutcome o j s).concession = s.concession := concession_of_base (applyOutcome_base s o j)
@[simp] theorem applyOutcome_clock (s : State) (o : JobOutcome) (j : Job) : (applyOutcome o j s).clock = s.clock := clock_of_base (applyOutcome_base s o j)
@[simp] theorem applyOutcome_settings (s : State) (o : JobOutcome) (j : Job) : (applyOutcome o j s).settings = s.settings := settings_of_base (applyOutcome_base s o j)
@[simp] theorem applyOutcome_choices (s : State) (o : JobOutcome) (j : Job) : (applyOutcome o j s).choices = s.choices := choices_of_base (applyOutcome_base s o j)
@[simp] theorem applyOutcome_pending (s : State) (o : JobOutcome) (j : Job) : (applyOutcome o j s).pending = s.pending := pending_of_base (applyOutcome_base s o j)
@[simp] theorem applyOutcome_zones (s : State) (o : JobOutcome) (j : Job) : (applyOutcome o j s).zones = s.zones := by
  unfold applyOutcome; (repeat' split) <;> simp
@[simp] theorem applyOutcome_ports (s : State) (o : JobOutcome) (j : Job) : (applyOutcome o j s).ports = s.ports := by
  unfold applyOutcome; (repeat' split) <;> simp

/-! ### endJob -/

@[simp] theorem endJob_base (s : State) (p : Port) (o : JobOutcome) : (endJob p o s).base = s.base := by
  unfold endJob; split <;> simp
@[simp] theorem endJob_terminal (s : State) (p : Port) (o : JobOutcome) : (endJob p o s).terminal = s.terminal := terminal_of_base (endJob_base s p o)
@[simp] theorem endJob_links (s : State) (p : Port) (o : JobOutcome) : (endJob p o s).links = s.links := links_of_base (endJob_base s p o)
@[simp] theorem endJob_nextCase (s : State) (p : Port) (o : JobOutcome) : (endJob p o s).nextCase = s.nextCase := nextCase_of_base (endJob_base s p o)
@[simp] theorem endJob_concession (s : State) (p : Port) (o : JobOutcome) : (endJob p o s).concession = s.concession := concession_of_base (endJob_base s p o)
@[simp] theorem endJob_clock (s : State) (p : Port) (o : JobOutcome) : (endJob p o s).clock = s.clock := clock_of_base (endJob_base s p o)
@[simp] theorem endJob_settings (s : State) (p : Port) (o : JobOutcome) : (endJob p o s).settings = s.settings := settings_of_base (endJob_base s p o)
@[simp] theorem endJob_choices (s : State) (p : Port) (o : JobOutcome) : (endJob p o s).choices = s.choices := choices_of_base (endJob_base s p o)
@[simp] theorem endJob_pending (s : State) (p : Port) (o : JobOutcome) : (endJob p o s).pending = s.pending := pending_of_base (endJob_base s p o)
@[simp] theorem endJob_zones (s : State) (p : Port) (o : JobOutcome) : (endJob p o s).zones = s.zones := by
  unfold endJob; split <;> simp

/-! ### startCheck -/

@[simp] theorem startCheck_base (s : State) (p : Port) (mode : CheckMode) : (startCheck p mode s).base = s.base := by
  simp [startCheck]
@[simp] theorem startCheck_terminal (s : State) (p : Port) (mode : CheckMode) : (startCheck p mode s).terminal = s.terminal := terminal_of_base (startCheck_base s p mode)
@[simp] theorem startCheck_links (s : State) (p : Port) (mode : CheckMode) : (startCheck p mode s).links = s.links := links_of_base (startCheck_base s p mode)
@[simp] theorem startCheck_nextCase (s : State) (p : Port) (mode : CheckMode) : (startCheck p mode s).nextCase = s.nextCase := nextCase_of_base (startCheck_base s p mode)
@[simp] theorem startCheck_concession (s : State) (p : Port) (mode : CheckMode) : (startCheck p mode s).concession = s.concession := concession_of_base (startCheck_base s p mode)
@[simp] theorem startCheck_clock (s : State) (p : Port) (mode : CheckMode) : (startCheck p mode s).clock = s.clock := clock_of_base (startCheck_base s p mode)
@[simp] theorem startCheck_settings (s : State) (p : Port) (mode : CheckMode) : (startCheck p mode s).settings = s.settings := settings_of_base (startCheck_base s p mode)
@[simp] theorem startCheck_choices (s : State) (p : Port) (mode : CheckMode) : (startCheck p mode s).choices = s.choices := choices_of_base (startCheck_base s p mode)
@[simp] theorem startCheck_pending (s : State) (p : Port) (mode : CheckMode) : (startCheck p mode s).pending = s.pending := pending_of_base (startCheck_base s p mode)
@[simp] theorem startCheck_cases (s : State) (p : Port) (mode : CheckMode) : (startCheck p mode s).cases = s.cases := by
  simp [startCheck]
@[simp] theorem startCheck_channels (s : State) (p : Port) (mode : CheckMode) : (startCheck p mode s).channels = s.channels := by
  simp [startCheck]
@[simp] theorem startCheck_hotlist (s : State) (p : Port) (mode : CheckMode) : (startCheck p mode s).hotlist = s.hotlist := by
  simp [startCheck]
@[simp] theorem startCheck_zones (s : State) (p : Port) (mode : CheckMode) : (startCheck p mode s).zones = s.zones := by
  simp [startCheck]
@[simp] theorem startCheck_signing (s : State) (p : Port) (mode : CheckMode) : (startCheck p mode s).signing = s.signing := by
  simp [startCheck]

/-! ### enterWrite -/

@[simp] theorem enterWrite_base (s : State) (p : Port) (next : Nat) : (enterWrite p next s).base = s.base := by
  simp [enterWrite]
@[simp] theorem enterWrite_terminal (s : State) (p : Port) (next : Nat) : (enterWrite p next s).terminal = s.terminal := terminal_of_base (enterWrite_base s p next)
@[simp] theorem enterWrite_links (s : State) (p : Port) (next : Nat) : (enterWrite p next s).links = s.links := links_of_base (enterWrite_base s p next)
@[simp] theorem enterWrite_nextCase (s : State) (p : Port) (next : Nat) : (enterWrite p next s).nextCase = s.nextCase := nextCase_of_base (enterWrite_base s p next)
@[simp] theorem enterWrite_concession (s : State) (p : Port) (next : Nat) : (enterWrite p next s).concession = s.concession := concession_of_base (enterWrite_base s p next)
@[simp] theorem enterWrite_clock (s : State) (p : Port) (next : Nat) : (enterWrite p next s).clock = s.clock := clock_of_base (enterWrite_base s p next)
@[simp] theorem enterWrite_settings (s : State) (p : Port) (next : Nat) : (enterWrite p next s).settings = s.settings := settings_of_base (enterWrite_base s p next)
@[simp] theorem enterWrite_choices (s : State) (p : Port) (next : Nat) : (enterWrite p next s).choices = s.choices := choices_of_base (enterWrite_base s p next)
@[simp] theorem enterWrite_pending (s : State) (p : Port) (next : Nat) : (enterWrite p next s).pending = s.pending := pending_of_base (enterWrite_base s p next)
@[simp] theorem enterWrite_cases (s : State) (p : Port) (next : Nat) : (enterWrite p next s).cases = s.cases := by
  simp [enterWrite]
@[simp] theorem enterWrite_channels (s : State) (p : Port) (next : Nat) : (enterWrite p next s).channels = s.channels := by
  simp [enterWrite]
@[simp] theorem enterWrite_hotlist (s : State) (p : Port) (next : Nat) : (enterWrite p next s).hotlist = s.hotlist := by
  simp [enterWrite]
@[simp] theorem enterWrite_zones (s : State) (p : Port) (next : Nat) : (enterWrite p next s).zones = s.zones := by
  simp [enterWrite]

/-! ### cardCheck -/

@[simp] theorem cardCheck_base (s : State) (p : Port) (target : Family) (card : Card) (caseNo : Nat) : (cardCheck p target card caseNo s).base = s.base := by
  simp [cardCheck]
@[simp] theorem cardCheck_terminal (s : State) (p : Port) (target : Family) (card : Card) (caseNo : Nat) : (cardCheck p target card caseNo s).terminal = s.terminal := terminal_of_base (cardCheck_base s p target card caseNo)
@[simp] theorem cardCheck_links (s : State) (p : Port) (target : Family) (card : Card) (caseNo : Nat) : (cardCheck p target card caseNo s).links = s.links := links_of_base (cardCheck_base s p target card caseNo)
@[simp] theorem cardCheck_nextCase (s : State) (p : Port) (target : Family) (card : Card) (caseNo : Nat) : (cardCheck p target card caseNo s).nextCase = s.nextCase := nextCase_of_base (cardCheck_base s p target card caseNo)
@[simp] theorem cardCheck_concession (s : State) (p : Port) (target : Family) (card : Card) (caseNo : Nat) : (cardCheck p target card caseNo s).concession = s.concession := concession_of_base (cardCheck_base s p target card caseNo)
@[simp] theorem cardCheck_clock (s : State) (p : Port) (target : Family) (card : Card) (caseNo : Nat) : (cardCheck p target card caseNo s).clock = s.clock := clock_of_base (cardCheck_base s p target card caseNo)
@[simp] theorem cardCheck_settings (s : State) (p : Port) (target : Family) (card : Card) (caseNo : Nat) : (cardCheck p target card caseNo s).settings = s.settings := settings_of_base (cardCheck_base s p target card caseNo)
@[simp] theorem cardCheck_choices (s : State) (p : Port) (target : Family) (card : Card) (caseNo : Nat) : (cardCheck p target card caseNo s).choices = s.choices := choices_of_base (cardCheck_base s p target card caseNo)
@[simp] theorem cardCheck_pending (s : State) (p : Port) (target : Family) (card : Card) (caseNo : Nat) : (cardCheck p target card caseNo s).pending = s.pending := pending_of_base (cardCheck_base s p target card caseNo)
@[simp] theorem cardCheck_channels (s : State) (p : Port) (target : Family) (card : Card) (caseNo : Nat) : (cardCheck p target card caseNo s).channels = s.channels := by
  simp [cardCheck]
@[simp] theorem cardCheck_hotlist (s : State) (p : Port) (target : Family) (card : Card) (caseNo : Nat) : (cardCheck p target card caseNo s).hotlist = s.hotlist := by
  simp [cardCheck]
@[simp] theorem cardCheck_zones (s : State) (p : Port) (target : Family) (card : Card) (caseNo : Nat) : (cardCheck p target card caseNo s).zones = s.zones := by
  simp [cardCheck]

/-! ### takeCheckResult -/

@[simp] theorem takeCheckResult_base (s : State) (p : Port) (target : Family) (card : Card) (caseNo : Nat) (r : CheckResult) : (takeCheckResult p target card caseNo r s).base = s.base := by
  unfold takeCheckResult; split <;> simp
@[simp] theorem takeCheckResult_terminal (s : State) (p : Port) (target : Family) (card : Card) (caseNo : Nat) (r : CheckResult) : (takeCheckResult p target card caseNo r s).terminal = s.terminal := terminal_of_base (takeCheckResult_base s p target card caseNo r)
@[simp] theorem takeCheckResult_links (s : State) (p : Port) (target : Family) (card : Card) (caseNo : Nat) (r : CheckResult) : (takeCheckResult p target card caseNo r s).links = s.links := links_of_base (takeCheckResult_base s p target card caseNo r)
@[simp] theorem takeCheckResult_nextCase (s : State) (p : Port) (target : Family) (card : Card) (caseNo : Nat) (r : CheckResult) : (takeCheckResult p target card caseNo r s).nextCase = s.nextCase := nextCase_of_base (takeCheckResult_base s p target card caseNo r)
@[simp] theorem takeCheckResult_concession (s : State) (p : Port) (target : Family) (card : Card) (caseNo : Nat) (r : CheckResult) : (takeCheckResult p target card caseNo r s).concession = s.concession := concession_of_base (takeCheckResult_base s p target card caseNo r)
@[simp] theorem takeCheckResult_clock (s : State) (p : Port) (target : Family) (card : Card) (caseNo : Nat) (r : CheckResult) : (takeCheckResult p target card caseNo r s).clock = s.clock := clock_of_base (takeCheckResult_base s p target card caseNo r)
@[simp] theorem takeCheckResult_settings (s : State) (p : Port) (target : Family) (card : Card) (caseNo : Nat) (r : CheckResult) : (takeCheckResult p target card caseNo r s).settings = s.settings := settings_of_base (takeCheckResult_base s p target card caseNo r)
@[simp] theorem takeCheckResult_choices (s : State) (p : Port) (target : Family) (card : Card) (caseNo : Nat) (r : CheckResult) : (takeCheckResult p target card caseNo r s).choices = s.choices := choices_of_base (takeCheckResult_base s p target card caseNo r)
@[simp] theorem takeCheckResult_pending (s : State) (p : Port) (target : Family) (card : Card) (caseNo : Nat) (r : CheckResult) : (takeCheckResult p target card caseNo r s).pending = s.pending := pending_of_base (takeCheckResult_base s p target card caseNo r)
@[simp] theorem takeCheckResult_zones (s : State) (p : Port) (target : Family) (card : Card) (caseNo : Nat) (r : CheckResult) : (takeCheckResult p target card caseNo r s).zones = s.zones := by
  unfold takeCheckResult; split <;> simp

/-! ### checkIssueRead -/

@[simp] theorem checkIssueRead_base (s : State) (p : Port) (target : Family) (j : Job) (card : Card) (content : Option Segment) : (checkIssueRead p target j card content s).base = s.base := by
  unfold checkIssueRead; split <;> simp
@[simp] theorem checkIssueRead_terminal (s : State) (p : Port) (target : Family) (j : Job) (card : Card) (content : Option Segment) : (checkIssueRead p target j card content s).terminal = s.terminal := terminal_of_base (checkIssueRead_base s p target j card content)
@[simp] theorem checkIssueRead_links (s : State) (p : Port) (target : Family) (j : Job) (card : Card) (content : Option Segment) : (checkIssueRead p target j card content s).links = s.links := links_of_base (checkIssueRead_base s p target j card content)
@[simp] theorem checkIssueRead_nextCase (s : State) (p : Port) (target : Family) (j : Job) (card : Card) (content : Option Segment) : (checkIssueRead p target j card content s).nextCase = s.nextCase := nextCase_of_base (checkIssueRead_base s p target j card content)
@[simp] theorem checkIssueRead_concession (s : State) (p : Port) (target : Family) (j : Job) (card : Card) (content : Option Segment) : (checkIssueRead p target j card content s).concession = s.concession := concession_of_base (checkIssueRead_base s p target j card content)
@[simp] theorem checkIssueRead_clock (s : State) (p : Port) (target : Family) (j : Job) (card : Card) (content : Option Segment) : (checkIssueRead p target j card content s).clock = s.clock := clock_of_base (checkIssueRead_base s p target j card content)
@[simp] theorem checkIssueRead_settings (s : State) (p : Port) (target : Family) (j : Job) (card : Card) (content : Option Segment) : (checkIssueRead p target j card content s).settings = s.settings := settings_of_base (checkIssueRead_base s p target j card content)
@[simp] theorem checkIssueRead_choices (s : State) (p : Port) (target : Family) (j : Job) (card : Card) (content : Option Segment) : (checkIssueRead p target j card content s).choices = s.choices := choices_of_base (checkIssueRead_base s p target j card content)
@[simp] theorem checkIssueRead_pending (s : State) (p : Port) (target : Family) (j : Job) (card : Card) (content : Option Segment) : (checkIssueRead p target j card content s).pending = s.pending := pending_of_base (checkIssueRead_base s p target j card content)
@[simp] theorem checkIssueRead_zones (s : State) (p : Port) (target : Family) (j : Job) (card : Card) (content : Option Segment) : (checkIssueRead p target j card content s).zones = s.zones := by
  unfold checkIssueRead; split <;> simp

/-! ### checkRecoverRead -/

@[simp] theorem checkRecoverRead_base (s : State) (p : Port) (j : Job) (card : Card) (content : Option Segment) : (checkRecoverRead p j card content s).base = s.base := by
  unfold checkRecoverRead; (repeat' split) <;> simp
@[simp] theorem checkRecoverRead_terminal (s : State) (p : Port) (j : Job) (card : Card) (content : Option Segment) : (checkRecoverRead p j card content s).terminal = s.terminal := terminal_of_base (checkRecoverRead_base s p j card content)
@[simp] theorem checkRecoverRead_links (s : State) (p : Port) (j : Job) (card : Card) (content : Option Segment) : (checkRecoverRead p j card content s).links = s.links := links_of_base (checkRecoverRead_base s p j card content)
@[simp] theorem checkRecoverRead_nextCase (s : State) (p : Port) (j : Job) (card : Card) (content : Option Segment) : (checkRecoverRead p j card content s).nextCase = s.nextCase := nextCase_of_base (checkRecoverRead_base s p j card content)
@[simp] theorem checkRecoverRead_concession (s : State) (p : Port) (j : Job) (card : Card) (content : Option Segment) : (checkRecoverRead p j card content s).concession = s.concession := concession_of_base (checkRecoverRead_base s p j card content)
@[simp] theorem checkRecoverRead_clock (s : State) (p : Port) (j : Job) (card : Card) (content : Option Segment) : (checkRecoverRead p j card content s).clock = s.clock := clock_of_base (checkRecoverRead_base s p j card content)
@[simp] theorem checkRecoverRead_settings (s : State) (p : Port) (j : Job) (card : Card) (content : Option Segment) : (checkRecoverRead p j card content s).settings = s.settings := settings_of_base (checkRecoverRead_base s p j card content)
@[simp] theorem checkRecoverRead_choices (s : State) (p : Port) (j : Job) (card : Card) (content : Option Segment) : (checkRecoverRead p j card content s).choices = s.choices := choices_of_base (checkRecoverRead_base s p j card content)
@[simp] theorem checkRecoverRead_pending (s : State) (p : Port) (j : Job) (card : Card) (content : Option Segment) : (checkRecoverRead p j card content s).pending = s.pending := pending_of_base (checkRecoverRead_base s p j card content)
@[simp] theorem checkRecoverRead_zones (s : State) (p : Port) (j : Job) (card : Card) (content : Option Segment) : (checkRecoverRead p j card content s).zones = s.zones := by
  unfold checkRecoverRead; (repeat' split) <;> simp

/-! ### recoverRead -/

@[simp] theorem recoverRead_base (s : State) (p : Port) (seg : Nat) (card : Card) (content : Option Segment) : (recoverRead p seg card content s).base = s.base := by
  unfold recoverRead; (repeat' split) <;> simp
@[simp] theorem recoverRead_terminal (s : State) (p : Port) (seg : Nat) (card : Card) (content : Option Segment) : (recoverRead p seg card content s).terminal = s.terminal := terminal_of_base (recoverRead_base s p seg card content)
@[simp] theorem recoverRead_links (s : State) (p : Port) (seg : Nat) (card : Card) (content : Option Segment) : (recoverRead p seg card content s).links = s.links := links_of_base (recoverRead_base s p seg card content)
@[simp] theorem recoverRead_nextCase (s : State) (p : Port) (seg : Nat) (card : Card) (content : Option Segment) : (recoverRead p seg card content s).nextCase = s.nextCase := nextCase_of_base (recoverRead_base s p seg card content)
@[simp] theorem recoverRead_concession (s : State) (p : Port) (seg : Nat) (card : Card) (content : Option Segment) : (recoverRead p seg card content s).concession = s.concession := concession_of_base (recoverRead_base s p seg card content)
@[simp] theorem recoverRead_clock (s : State) (p : Port) (seg : Nat) (card : Card) (content : Option Segment) : (recoverRead p seg card content s).clock = s.clock := clock_of_base (recoverRead_base s p seg card content)
@[simp] theorem recoverRead_settings (s : State) (p : Port) (seg : Nat) (card : Card) (content : Option Segment) : (recoverRead p seg card content s).settings = s.settings := settings_of_base (recoverRead_base s p seg card content)
@[simp] theorem recoverRead_choices (s : State) (p : Port) (seg : Nat) (card : Card) (content : Option Segment) : (recoverRead p seg card content s).choices = s.choices := choices_of_base (recoverRead_base s p seg card content)
@[simp] theorem recoverRead_pending (s : State) (p : Port) (seg : Nat) (card : Card) (content : Option Segment) : (recoverRead p seg card content s).pending = s.pending := pending_of_base (recoverRead_base s p seg card content)
@[simp] theorem recoverRead_zones (s : State) (p : Port) (seg : Nat) (card : Card) (content : Option Segment) : (recoverRead p seg card content s).zones = s.zones := by
  unfold recoverRead; (repeat' split) <;> simp

/-! ### confirmSegment -/

@[simp] theorem confirmSegment_base (s : State) (p : Port) : (confirmSegment p s).base = s.base := by
  simp [confirmSegment]
@[simp] theorem confirmSegment_terminal (s : State) (p : Port) : (confirmSegment p s).terminal = s.terminal := terminal_of_base (confirmSegment_base s p)
@[simp] theorem confirmSegment_links (s : State) (p : Port) : (confirmSegment p s).links = s.links := links_of_base (confirmSegment_base s p)
@[simp] theorem confirmSegment_nextCase (s : State) (p : Port) : (confirmSegment p s).nextCase = s.nextCase := nextCase_of_base (confirmSegment_base s p)
@[simp] theorem confirmSegment_concession (s : State) (p : Port) : (confirmSegment p s).concession = s.concession := concession_of_base (confirmSegment_base s p)
@[simp] theorem confirmSegment_clock (s : State) (p : Port) : (confirmSegment p s).clock = s.clock := clock_of_base (confirmSegment_base s p)
@[simp] theorem confirmSegment_settings (s : State) (p : Port) : (confirmSegment p s).settings = s.settings := settings_of_base (confirmSegment_base s p)
@[simp] theorem confirmSegment_choices (s : State) (p : Port) : (confirmSegment p s).choices = s.choices := choices_of_base (confirmSegment_base s p)
@[simp] theorem confirmSegment_pending (s : State) (p : Port) : (confirmSegment p s).pending = s.pending := pending_of_base (confirmSegment_base s p)
@[simp] theorem confirmSegment_cases (s : State) (p : Port) : (confirmSegment p s).cases = s.cases := by
  simp [confirmSegment]
@[simp] theorem confirmSegment_channels (s : State) (p : Port) : (confirmSegment p s).channels = s.channels := by
  simp [confirmSegment]
@[simp] theorem confirmSegment_hotlist (s : State) (p : Port) : (confirmSegment p s).hotlist = s.hotlist := by
  simp [confirmSegment]
@[simp] theorem confirmSegment_zones (s : State) (p : Port) : (confirmSegment p s).zones = s.zones := by
  simp [confirmSegment]
@[simp] theorem confirmSegment_signing (s : State) (p : Port) : (confirmSegment p s).signing = s.signing := by
  simp [confirmSegment]

/-! ### afterConfirm -/

@[simp] theorem afterConfirm_base (s : State) (p : Port) (target : Family) (seg : Nat) : (afterConfirm p target seg s).base = s.base := by
  unfold afterConfirm; (repeat' split) <;> simp
@[simp] theorem afterConfirm_terminal (s : State) (p : Port) (target : Family) (seg : Nat) : (afterConfirm p target seg s).terminal = s.terminal := terminal_of_base (afterConfirm_base s p target seg)
@[simp] theorem afterConfirm_links (s : State) (p : Port) (target : Family) (seg : Nat) : (afterConfirm p target seg s).links = s.links := links_of_base (afterConfirm_base s p target seg)
@[simp] theorem afterConfirm_nextCase (s : State) (p : Port) (target : Family) (seg : Nat) : (afterConfirm p target seg s).nextCase = s.nextCase := nextCase_of_base (afterConfirm_base s p target seg)
@[simp] theorem afterConfirm_concession (s : State) (p : Port) (target : Family) (seg : Nat) : (afterConfirm p target seg s).concession = s.concession := concession_of_base (afterConfirm_base s p target seg)
@[simp] theorem afterConfirm_clock (s : State) (p : Port) (target : Family) (seg : Nat) : (afterConfirm p target seg s).clock = s.clock := clock_of_base (afterConfirm_base s p target seg)
@[simp] theorem afterConfirm_settings (s : State) (p : Port) (target : Family) (seg : Nat) : (afterConfirm p target seg s).settings = s.settings := settings_of_base (afterConfirm_base s p target seg)
@[simp] theorem afterConfirm_choices (s : State) (p : Port) (target : Family) (seg : Nat) : (afterConfirm p target seg s).choices = s.choices := choices_of_base (afterConfirm_base s p target seg)
@[simp] theorem afterConfirm_pending (s : State) (p : Port) (target : Family) (seg : Nat) : (afterConfirm p target seg s).pending = s.pending := pending_of_base (afterConfirm_base s p target seg)
@[simp] theorem afterConfirm_zones (s : State) (p : Port) (target : Family) (seg : Nat) : (afterConfirm p target seg s).zones = s.zones := by
  unfold afterConfirm; (repeat' split) <;> simp

/-! ### writeDone -/

@[simp] theorem writeDone_base (s : State) (p : Port) (target : Family) (seg : Nat) (j : Job) : (writeDone p target seg j s).base = s.base := by
  unfold writeDone; (repeat' split) <;> simp
@[simp] theorem writeDone_terminal (s : State) (p : Port) (target : Family) (seg : Nat) (j : Job) : (writeDone p target seg j s).terminal = s.terminal := terminal_of_base (writeDone_base s p target seg j)
@[simp] theorem writeDone_links (s : State) (p : Port) (target : Family) (seg : Nat) (j : Job) : (writeDone p target seg j s).links = s.links := links_of_base (writeDone_base s p target seg j)
@[simp] theorem writeDone_nextCase (s : State) (p : Port) (target : Family) (seg : Nat) (j : Job) : (writeDone p target seg j s).nextCase = s.nextCase := nextCase_of_base (writeDone_base s p target seg j)
@[simp] theorem writeDone_concession (s : State) (p : Port) (target : Family) (seg : Nat) (j : Job) : (writeDone p target seg j s).concession = s.concession := concession_of_base (writeDone_base s p target seg j)
@[simp] theorem writeDone_clock (s : State) (p : Port) (target : Family) (seg : Nat) (j : Job) : (writeDone p target seg j s).clock = s.clock := clock_of_base (writeDone_base s p target seg j)
@[simp] theorem writeDone_settings (s : State) (p : Port) (target : Family) (seg : Nat) (j : Job) : (writeDone p target seg j s).settings = s.settings := settings_of_base (writeDone_base s p target seg j)
@[simp] theorem writeDone_choices (s : State) (p : Port) (target : Family) (seg : Nat) (j : Job) : (writeDone p target seg j s).choices = s.choices := choices_of_base (writeDone_base s p target seg j)
@[simp] theorem writeDone_pending (s : State) (p : Port) (target : Family) (seg : Nat) (j : Job) : (writeDone p target seg j s).pending = s.pending := pending_of_base (writeDone_base s p target seg j)
@[simp] theorem writeDone_zones (s : State) (p : Port) (target : Family) (seg : Nat) (j : Job) : (writeDone p target seg j s).zones = s.zones := by
  unfold writeDone; (repeat' split) <;> simp

/-! ### retrySame -/

@[simp] theorem retrySame_base (s : State) (p : Port) (failed : Command) : (retrySame p failed s).base = s.base := by
  unfold retrySame; (repeat' split) <;> simp [failCommand] <;> (repeat' split) <;> simp
@[simp] theorem retrySame_terminal (s : State) (p : Port) (failed : Command) : (retrySame p failed s).terminal = s.terminal := terminal_of_base (retrySame_base s p failed)
@[simp] theorem retrySame_links (s : State) (p : Port) (failed : Command) : (retrySame p failed s).links = s.links := links_of_base (retrySame_base s p failed)
@[simp] theorem retrySame_nextCase (s : State) (p : Port) (failed : Command) : (retrySame p failed s).nextCase = s.nextCase := nextCase_of_base (retrySame_base s p failed)
@[simp] theorem retrySame_concession (s : State) (p : Port) (failed : Command) : (retrySame p failed s).concession = s.concession := concession_of_base (retrySame_base s p failed)
@[simp] theorem retrySame_clock (s : State) (p : Port) (failed : Command) : (retrySame p failed s).clock = s.clock := clock_of_base (retrySame_base s p failed)
@[simp] theorem retrySame_settings (s : State) (p : Port) (failed : Command) : (retrySame p failed s).settings = s.settings := settings_of_base (retrySame_base s p failed)
@[simp] theorem retrySame_choices (s : State) (p : Port) (failed : Command) : (retrySame p failed s).choices = s.choices := choices_of_base (retrySame_base s p failed)
@[simp] theorem retrySame_pending (s : State) (p : Port) (failed : Command) : (retrySame p failed s).pending = s.pending := pending_of_base (retrySame_base s p failed)
@[simp] theorem retrySame_zones (s : State) (p : Port) (failed : Command) : (retrySame p failed s).zones = s.zones := by
  unfold retrySame; (repeat' split) <;> simp [failCommand] <;> (repeat' split) <;> simp

/-! ### verifyRead -/

@[simp] theorem verifyRead_base (s : State) (p : Port) (target : Family) (seg : Nat) (j : Job) (content : Option Segment) : (verifyRead p target seg j content s).base = s.base := by
  unfold verifyRead; (repeat' split) <;> simp [failCommand] <;> (repeat' split) <;> simp
@[simp] theorem verifyRead_terminal (s : State) (p : Port) (target : Family) (seg : Nat) (j : Job) (content : Option Segment) : (verifyRead p target seg j content s).terminal = s.terminal := terminal_of_base (verifyRead_base s p target seg j content)
@[simp] theorem verifyRead_links (s : State) (p : Port) (target : Family) (seg : Nat) (j : Job) (content : Option Segment) : (verifyRead p target seg j content s).links = s.links := links_of_base (verifyRead_base s p target seg j content)
@[simp] theorem verifyRead_nextCase (s : State) (p : Port) (target : Family) (seg : Nat) (j : Job) (content : Option Segment) : (verifyRead p target seg j content s).nextCase = s.nextCase := nextCase_of_base (verifyRead_base s p target seg j content)
@[simp] theorem verifyRead_concession (s : State) (p : Port) (target : Family) (seg : Nat) (j : Job) (content : Option Segment) : (verifyRead p target seg j content s).concession = s.concession := concession_of_base (verifyRead_base s p target seg j content)
@[simp] theorem verifyRead_clock (s : State) (p : Port) (target : Family) (seg : Nat) (j : Job) (content : Option Segment) : (verifyRead p target seg j content s).clock = s.clock := clock_of_base (verifyRead_base s p target seg j content)
@[simp] theorem verifyRead_settings (s : State) (p : Port) (target : Family) (seg : Nat) (j : Job) (content : Option Segment) : (verifyRead p target seg j content s).settings = s.settings := settings_of_base (verifyRead_base s p target seg j content)
@[simp] theorem verifyRead_choices (s : State) (p : Port) (target : Family) (seg : Nat) (j : Job) (content : Option Segment) : (verifyRead p target seg j content s).choices = s.choices := choices_of_base (verifyRead_base s p target seg j content)
@[simp] theorem verifyRead_pending (s : State) (p : Port) (target : Family) (seg : Nat) (j : Job) (content : Option Segment) : (verifyRead p target seg j content s).pending = s.pending := pending_of_base (verifyRead_base s p target seg j content)
@[simp] theorem verifyRead_zones (s : State) (p : Port) (target : Family) (seg : Nat) (j : Job) (content : Option Segment) : (verifyRead p target seg j content s).zones = s.zones := by
  unfold verifyRead; (repeat' split) <;> simp [failCommand] <;> (repeat' split) <;> simp

/-! ### takeRead -/

@[simp] theorem takeRead_base (s : State) (p : Port) (seg : Nat) (content : Option Segment) : (takeRead p seg content s).base = s.base := by
  unfold takeRead; (repeat' split) <;> simp
@[simp] theorem takeRead_terminal (s : State) (p : Port) (seg : Nat) (content : Option Segment) : (takeRead p seg content s).terminal = s.terminal := terminal_of_base (takeRead_base s p seg content)
@[simp] theorem takeRead_links (s : State) (p : Port) (seg : Nat) (content : Option Segment) : (takeRead p seg content s).links = s.links := links_of_base (takeRead_base s p seg content)
@[simp] theorem takeRead_nextCase (s : State) (p : Port) (seg : Nat) (content : Option Segment) : (takeRead p seg content s).nextCase = s.nextCase := nextCase_of_base (takeRead_base s p seg content)
@[simp] theorem takeRead_concession (s : State) (p : Port) (seg : Nat) (content : Option Segment) : (takeRead p seg content s).concession = s.concession := concession_of_base (takeRead_base s p seg content)
@[simp] theorem takeRead_clock (s : State) (p : Port) (seg : Nat) (content : Option Segment) : (takeRead p seg content s).clock = s.clock := clock_of_base (takeRead_base s p seg content)
@[simp] theorem takeRead_settings (s : State) (p : Port) (seg : Nat) (content : Option Segment) : (takeRead p seg content s).settings = s.settings := settings_of_base (takeRead_base s p seg content)
@[simp] theorem takeRead_choices (s : State) (p : Port) (seg : Nat) (content : Option Segment) : (takeRead p seg content s).choices = s.choices := choices_of_base (takeRead_base s p seg content)
@[simp] theorem takeRead_pending (s : State) (p : Port) (seg : Nat) (content : Option Segment) : (takeRead p seg content s).pending = s.pending := pending_of_base (takeRead_base s p seg content)
@[simp] theorem takeRead_zones (s : State) (p : Port) (seg : Nat) (content : Option Segment) : (takeRead p seg content s).zones = s.zones := by
  unfold takeRead; (repeat' split) <;> simp

/-! ### enterTorn -/

@[simp] theorem enterTorn_base (s : State) (p : Port) : (enterTorn p s).base = s.base := by
  simp [enterTorn]
@[simp] theorem enterTorn_terminal (s : State) (p : Port) : (enterTorn p s).terminal = s.terminal := terminal_of_base (enterTorn_base s p)
@[simp] theorem enterTorn_links (s : State) (p : Port) : (enterTorn p s).links = s.links := links_of_base (enterTorn_base s p)
@[simp] theorem enterTorn_nextCase (s : State) (p : Port) : (enterTorn p s).nextCase = s.nextCase := nextCase_of_base (enterTorn_base s p)
@[simp] theorem enterTorn_concession (s : State) (p : Port) : (enterTorn p s).concession = s.concession := concession_of_base (enterTorn_base s p)
@[simp] theorem enterTorn_clock (s : State) (p : Port) : (enterTorn p s).clock = s.clock := clock_of_base (enterTorn_base s p)
@[simp] theorem enterTorn_settings (s : State) (p : Port) : (enterTorn p s).settings = s.settings := settings_of_base (enterTorn_base s p)
@[simp] theorem enterTorn_choices (s : State) (p : Port) : (enterTorn p s).choices = s.choices := choices_of_base (enterTorn_base s p)
@[simp] theorem enterTorn_pending (s : State) (p : Port) : (enterTorn p s).pending = s.pending := pending_of_base (enterTorn_base s p)
@[simp] theorem enterTorn_cases (s : State) (p : Port) : (enterTorn p s).cases = s.cases := by
  simp [enterTorn]
@[simp] theorem enterTorn_channels (s : State) (p : Port) : (enterTorn p s).channels = s.channels := by
  simp [enterTorn]
@[simp] theorem enterTorn_hotlist (s : State) (p : Port) : (enterTorn p s).hotlist = s.hotlist := by
  simp [enterTorn]
@[simp] theorem enterTorn_zones (s : State) (p : Port) : (enterTorn p s).zones = s.zones := by
  simp [enterTorn]

/-! ### departure -/

@[simp] theorem departure_base (s : State) (p : Port) : (departure p s).base = s.base := by
  unfold departure; (repeat' split) <;> simp
@[simp] theorem departure_terminal (s : State) (p : Port) : (departure p s).terminal = s.terminal := terminal_of_base (departure_base s p)
@[simp] theorem departure_links (s : State) (p : Port) : (departure p s).links = s.links := links_of_base (departure_base s p)
@[simp] theorem departure_nextCase (s : State) (p : Port) : (departure p s).nextCase = s.nextCase := nextCase_of_base (departure_base s p)
@[simp] theorem departure_concession (s : State) (p : Port) : (departure p s).concession = s.concession := concession_of_base (departure_base s p)
@[simp] theorem departure_clock (s : State) (p : Port) : (departure p s).clock = s.clock := clock_of_base (departure_base s p)
@[simp] theorem departure_settings (s : State) (p : Port) : (departure p s).settings = s.settings := settings_of_base (departure_base s p)
@[simp] theorem departure_choices (s : State) (p : Port) : (departure p s).choices = s.choices := choices_of_base (departure_base s p)
@[simp] theorem departure_pending (s : State) (p : Port) : (departure p s).pending = s.pending := pending_of_base (departure_base s p)
@[simp] theorem departure_zones (s : State) (p : Port) : (departure p s).zones = s.zones := by
  unfold departure; (repeat' split) <;> simp

/-! ### cardToJob -/

@[simp] theorem cardToJob_base (s : State) (p : Port) (j : Job) (serial : Serial) : (cardToJob p j serial s).base = s.base := by
  unfold cardToJob; (repeat' split) <;> simp
@[simp] theorem cardToJob_terminal (s : State) (p : Port) (j : Job) (serial : Serial) : (cardToJob p j serial s).terminal = s.terminal := terminal_of_base (cardToJob_base s p j serial)
@[simp] theorem cardToJob_links (s : State) (p : Port) (j : Job) (serial : Serial) : (cardToJob p j serial s).links = s.links := links_of_base (cardToJob_base s p j serial)
@[simp] theorem cardToJob_nextCase (s : State) (p : Port) (j : Job) (serial : Serial) : (cardToJob p j serial s).nextCase = s.nextCase := nextCase_of_base (cardToJob_base s p j serial)
@[simp] theorem cardToJob_concession (s : State) (p : Port) (j : Job) (serial : Serial) : (cardToJob p j serial s).concession = s.concession := concession_of_base (cardToJob_base s p j serial)
@[simp] theorem cardToJob_clock (s : State) (p : Port) (j : Job) (serial : Serial) : (cardToJob p j serial s).clock = s.clock := clock_of_base (cardToJob_base s p j serial)
@[simp] theorem cardToJob_settings (s : State) (p : Port) (j : Job) (serial : Serial) : (cardToJob p j serial s).settings = s.settings := settings_of_base (cardToJob_base s p j serial)
@[simp] theorem cardToJob_choices (s : State) (p : Port) (j : Job) (serial : Serial) : (cardToJob p j serial s).choices = s.choices := choices_of_base (cardToJob_base s p j serial)
@[simp] theorem cardToJob_pending (s : State) (p : Port) (j : Job) (serial : Serial) : (cardToJob p j serial s).pending = s.pending := pending_of_base (cardToJob_base s p j serial)
@[simp] theorem cardToJob_cases (s : State) (p : Port) (j : Job) (serial : Serial) : (cardToJob p j serial s).cases = s.cases := by
  unfold cardToJob; (repeat' split) <;> simp
@[simp] theorem cardToJob_channels (s : State) (p : Port) (j : Job) (serial : Serial) : (cardToJob p j serial s).channels = s.channels := by
  unfold cardToJob; (repeat' split) <;> simp
@[simp] theorem cardToJob_hotlist (s : State) (p : Port) (j : Job) (serial : Serial) : (cardToJob p j serial s).hotlist = s.hotlist := by
  unfold cardToJob; (repeat' split) <;> simp
@[simp] theorem cardToJob_zones (s : State) (p : Port) (j : Job) (serial : Serial) : (cardToJob p j serial s).zones = s.zones := by
  unfold cardToJob; (repeat' split) <;> simp
@[simp] theorem cardToJob_signing (s : State) (p : Port) (j : Job) (serial : Serial) : (cardToJob p j serial s).signing = s.signing := by
  unfold cardToJob; (repeat' split) <;> simp

/-! ### clearTimeouts -/

@[simp] theorem clearTimeouts_base (s : State) (p : Port) : (clearTimeouts p s).base = s.base := by
  simp [clearTimeouts]
@[simp] theorem clearTimeouts_terminal (s : State) (p : Port) : (clearTimeouts p s).terminal = s.terminal := terminal_of_base (clearTimeouts_base s p)
@[simp] theorem clearTimeouts_links (s : State) (p : Port) : (clearTimeouts p s).links = s.links := links_of_base (clearTimeouts_base s p)
@[simp] theorem clearTimeouts_nextCase (s : State) (p : Port) : (clearTimeouts p s).nextCase = s.nextCase := nextCase_of_base (clearTimeouts_base s p)
@[simp] theorem clearTimeouts_concession (s : State) (p : Port) : (clearTimeouts p s).concession = s.concession := concession_of_base (clearTimeouts_base s p)
@[simp] theorem clearTimeouts_clock (s : State) (p : Port) : (clearTimeouts p s).clock = s.clock := clock_of_base (clearTimeouts_base s p)
@[simp] theorem clearTimeouts_settings (s : State) (p : Port) : (clearTimeouts p s).settings = s.settings := settings_of_base (clearTimeouts_base s p)
@[simp] theorem clearTimeouts_choices (s : State) (p : Port) : (clearTimeouts p s).choices = s.choices := choices_of_base (clearTimeouts_base s p)
@[simp] theorem clearTimeouts_pending (s : State) (p : Port) : (clearTimeouts p s).pending = s.pending := pending_of_base (clearTimeouts_base s p)
@[simp] theorem clearTimeouts_cases (s : State) (p : Port) : (clearTimeouts p s).cases = s.cases := by
  simp [clearTimeouts]
@[simp] theorem clearTimeouts_channels (s : State) (p : Port) : (clearTimeouts p s).channels = s.channels := by
  simp [clearTimeouts]
@[simp] theorem clearTimeouts_hotlist (s : State) (p : Port) : (clearTimeouts p s).hotlist = s.hotlist := by
  simp [clearTimeouts]
@[simp] theorem clearTimeouts_zones (s : State) (p : Port) : (clearTimeouts p s).zones = s.zones := by
  simp [clearTimeouts]
@[simp] theorem clearTimeouts_signing (s : State) (p : Port) : (clearTimeouts p s).signing = s.signing := by
  simp [clearTimeouts]

/-! ### cardLeaves -/

@[simp] theorem cardLeaves_base (s : State) (p : Port) : (cardLeaves p s).base = s.base := by
  unfold cardLeaves; dsimp only; split <;> simp
@[simp] theorem cardLeaves_terminal (s : State) (p : Port) : (cardLeaves p s).terminal = s.terminal := terminal_of_base (cardLeaves_base s p)
@[simp] theorem cardLeaves_links (s : State) (p : Port) : (cardLeaves p s).links = s.links := links_of_base (cardLeaves_base s p)
@[simp] theorem cardLeaves_nextCase (s : State) (p : Port) : (cardLeaves p s).nextCase = s.nextCase := nextCase_of_base (cardLeaves_base s p)
@[simp] theorem cardLeaves_concession (s : State) (p : Port) : (cardLeaves p s).concession = s.concession := concession_of_base (cardLeaves_base s p)
@[simp] theorem cardLeaves_clock (s : State) (p : Port) : (cardLeaves p s).clock = s.clock := clock_of_base (cardLeaves_base s p)
@[simp] theorem cardLeaves_settings (s : State) (p : Port) : (cardLeaves p s).settings = s.settings := settings_of_base (cardLeaves_base s p)
@[simp] theorem cardLeaves_choices (s : State) (p : Port) : (cardLeaves p s).choices = s.choices := choices_of_base (cardLeaves_base s p)
@[simp] theorem cardLeaves_pending (s : State) (p : Port) : (cardLeaves p s).pending = s.pending := pending_of_base (cardLeaves_base s p)
@[simp] theorem cardLeaves_zones (s : State) (p : Port) : (cardLeaves p s).zones = s.zones := by
  unfold cardLeaves; dsimp only; split <;> simp

/-! ### cardEnters -/

@[simp] theorem cardEnters_base (s : State) (p : Port) (card : Card) : (cardEnters p card s).base = s.base := by
  unfold cardEnters; dsimp only; split <;> simp
@[simp] theorem cardEnters_terminal (s : State) (p : Port) (card : Card) : (cardEnters p card s).terminal = s.terminal := terminal_of_base (cardEnters_base s p card)
@[simp] theorem cardEnters_links (s : State) (p : Port) (card : Card) : (cardEnters p card s).links = s.links := links_of_base (cardEnters_base s p card)
@[simp] theorem cardEnters_nextCase (s : State) (p : Port) (card : Card) : (cardEnters p card s).nextCase = s.nextCase := nextCase_of_base (cardEnters_base s p card)
@[simp] theorem cardEnters_concession (s : State) (p : Port) (card : Card) : (cardEnters p card s).concession = s.concession := concession_of_base (cardEnters_base s p card)
@[simp] theorem cardEnters_clock (s : State) (p : Port) (card : Card) : (cardEnters p card s).clock = s.clock := clock_of_base (cardEnters_base s p card)
@[simp] theorem cardEnters_settings (s : State) (p : Port) (card : Card) : (cardEnters p card s).settings = s.settings := settings_of_base (cardEnters_base s p card)
@[simp] theorem cardEnters_choices (s : State) (p : Port) (card : Card) : (cardEnters p card s).choices = s.choices := choices_of_base (cardEnters_base s p card)
@[simp] theorem cardEnters_pending (s : State) (p : Port) (card : Card) : (cardEnters p card s).pending = s.pending := pending_of_base (cardEnters_base s p card)
@[simp] theorem cardEnters_cases (s : State) (p : Port) (card : Card) : (cardEnters p card s).cases = s.cases := by
  unfold cardEnters; dsimp only; split <;> simp
@[simp] theorem cardEnters_hotlist (s : State) (p : Port) (card : Card) : (cardEnters p card s).hotlist = s.hotlist := by
  unfold cardEnters; dsimp only; split <;> simp
@[simp] theorem cardEnters_zones (s : State) (p : Port) (card : Card) : (cardEnters p card s).zones = s.zones := by
  unfold cardEnters; dsimp only; split <;> simp
@[simp] theorem cardEnters_signing (s : State) (p : Port) (card : Card) : (cardEnters p card s).signing = s.signing := by
  unfold cardEnters; dsimp only; split <;> simp

/-! ### answerSense -/

@[simp] theorem answerSense_base (s : State) (p : Port) : (answerSense p s).base = s.base := by
  simp [answerSense]
@[simp] theorem answerSense_terminal (s : State) (p : Port) : (answerSense p s).terminal = s.terminal := terminal_of_base (answerSense_base s p)
@[simp] theorem answerSense_links (s : State) (p : Port) : (answerSense p s).links = s.links := links_of_base (answerSense_base s p)
@[simp] theorem answerSense_nextCase (s : State) (p : Port) : (answerSense p s).nextCase = s.nextCase := nextCase_of_base (answerSense_base s p)
@[simp] theorem answerSense_concession (s : State) (p : Port) : (answerSense p s).concession = s.concession := concession_of_base (answerSense_base s p)
@[simp] theorem answerSense_clock (s : State) (p : Port) : (answerSense p s).clock = s.clock := clock_of_base (answerSense_base s p)
@[simp] theorem answerSense_settings (s : State) (p : Port) : (answerSense p s).settings = s.settings := settings_of_base (answerSense_base s p)
@[simp] theorem answerSense_choices (s : State) (p : Port) : (answerSense p s).choices = s.choices := choices_of_base (answerSense_base s p)
@[simp] theorem answerSense_pending (s : State) (p : Port) : (answerSense p s).pending = s.pending := pending_of_base (answerSense_base s p)
@[simp] theorem answerSense_cases (s : State) (p : Port) : (answerSense p s).cases = s.cases := by
  simp [answerSense]
@[simp] theorem answerSense_channels (s : State) (p : Port) : (answerSense p s).channels = s.channels := by
  simp [answerSense]
@[simp] theorem answerSense_hotlist (s : State) (p : Port) : (answerSense p s).hotlist = s.hotlist := by
  simp [answerSense]
@[simp] theorem answerSense_zones (s : State) (p : Port) : (answerSense p s).zones = s.zones := by
  simp [answerSense]
@[simp] theorem answerSense_signing (s : State) (p : Port) : (answerSense p s).signing = s.signing := by
  simp [answerSense]

/-! ### takeArrived -/

@[simp] theorem takeArrived_base (s : State) (p : Port) (card : Card) : (takeArrived p card s).base = s.base := by
  unfold takeArrived; dsimp only; (repeat' split) <;> simp
@[simp] theorem takeArrived_terminal (s : State) (p : Port) (card : Card) : (takeArrived p card s).terminal = s.terminal := terminal_of_base (takeArrived_base s p card)
@[simp] theorem takeArrived_links (s : State) (p : Port) (card : Card) : (takeArrived p card s).links = s.links := links_of_base (takeArrived_base s p card)
@[simp] theorem takeArrived_nextCase (s : State) (p : Port) (card : Card) : (takeArrived p card s).nextCase = s.nextCase := nextCase_of_base (takeArrived_base s p card)
@[simp] theorem takeArrived_concession (s : State) (p : Port) (card : Card) : (takeArrived p card s).concession = s.concession := concession_of_base (takeArrived_base s p card)
@[simp] theorem takeArrived_clock (s : State) (p : Port) (card : Card) : (takeArrived p card s).clock = s.clock := clock_of_base (takeArrived_base s p card)
@[simp] theorem takeArrived_settings (s : State) (p : Port) (card : Card) : (takeArrived p card s).settings = s.settings := settings_of_base (takeArrived_base s p card)
@[simp] theorem takeArrived_choices (s : State) (p : Port) (card : Card) : (takeArrived p card s).choices = s.choices := choices_of_base (takeArrived_base s p card)
@[simp] theorem takeArrived_pending (s : State) (p : Port) (card : Card) : (takeArrived p card s).pending = s.pending := pending_of_base (takeArrived_base s p card)
@[simp] theorem takeArrived_zones (s : State) (p : Port) (card : Card) : (takeArrived p card s).zones = s.zones := by
  unfold takeArrived; dsimp only; (repeat' split) <;> simp

/-! ### takeLeft -/

@[simp] theorem takeLeft_base (s : State) (p : Port) : (takeLeft p s).base = s.base := by
  simp [takeLeft]
@[simp] theorem takeLeft_terminal (s : State) (p : Port) : (takeLeft p s).terminal = s.terminal := terminal_of_base (takeLeft_base s p)
@[simp] theorem takeLeft_links (s : State) (p : Port) : (takeLeft p s).links = s.links := links_of_base (takeLeft_base s p)
@[simp] theorem takeLeft_nextCase (s : State) (p : Port) : (takeLeft p s).nextCase = s.nextCase := nextCase_of_base (takeLeft_base s p)
@[simp] theorem takeLeft_concession (s : State) (p : Port) : (takeLeft p s).concession = s.concession := concession_of_base (takeLeft_base s p)
@[simp] theorem takeLeft_clock (s : State) (p : Port) : (takeLeft p s).clock = s.clock := clock_of_base (takeLeft_base s p)
@[simp] theorem takeLeft_settings (s : State) (p : Port) : (takeLeft p s).settings = s.settings := settings_of_base (takeLeft_base s p)
@[simp] theorem takeLeft_choices (s : State) (p : Port) : (takeLeft p s).choices = s.choices := choices_of_base (takeLeft_base s p)
@[simp] theorem takeLeft_pending (s : State) (p : Port) : (takeLeft p s).pending = s.pending := pending_of_base (takeLeft_base s p)
@[simp] theorem takeLeft_zones (s : State) (p : Port) : (takeLeft p s).zones = s.zones := by
  simp [takeLeft]

/-! ### takeData -/

@[simp] theorem takeData_base (s : State) (p : Port) (content : Option Segment) : (takeData p content s).base = s.base := by
  unfold takeData; dsimp only; (repeat' split) <;> simp
@[simp] theorem takeData_terminal (s : State) (p : Port) (content : Option Segment) : (takeData p content s).terminal = s.terminal := terminal_of_base (takeData_base s p content)
@[simp] theorem takeData_links (s : State) (p : Port) (content : Option Segment) : (takeData p content s).links = s.links := links_of_base (takeData_base s p content)
@[simp] theorem takeData_nextCase (s : State) (p : Port) (content : Option Segment) : (takeData p content s).nextCase = s.nextCase := nextCase_of_base (takeData_base s p content)
@[simp] theorem takeData_concession (s : State) (p : Port) (content : Option Segment) : (takeData p content s).concession = s.concession := concession_of_base (takeData_base s p content)
@[simp] theorem takeData_clock (s : State) (p : Port) (content : Option Segment) : (takeData p content s).clock = s.clock := clock_of_base (takeData_base s p content)
@[simp] theorem takeData_settings (s : State) (p : Port) (content : Option Segment) : (takeData p content s).settings = s.settings := settings_of_base (takeData_base s p content)
@[simp] theorem takeData_choices (s : State) (p : Port) (content : Option Segment) : (takeData p content s).choices = s.choices := choices_of_base (takeData_base s p content)
@[simp] theorem takeData_pending (s : State) (p : Port) (content : Option Segment) : (takeData p content s).pending = s.pending := pending_of_base (takeData_base s p content)
@[simp] theorem takeData_zones (s : State) (p : Port) (content : Option Segment) : (takeData p content s).zones = s.zones := by
  unfold takeData; dsimp only; (repeat' split) <;> simp

/-! ### takeDone -/

@[simp] theorem takeDone_base (s : State) (p : Port) : (takeDone p s).base = s.base := by
  unfold takeDone; dsimp only; (repeat' split) <;> simp
@[simp] theorem takeDone_terminal (s : State) (p : Port) : (takeDone p s).terminal = s.terminal := terminal_of_base (takeDone_base s p)
@[simp] theorem takeDone_links (s : State) (p : Port) : (takeDone p s).links = s.links := links_of_base (takeDone_base s p)
@[simp] theorem takeDone_nextCase (s : State) (p : Port) : (takeDone p s).nextCase = s.nextCase := nextCase_of_base (takeDone_base s p)
@[simp] theorem takeDone_concession (s : State) (p : Port) : (takeDone p s).concession = s.concession := concession_of_base (takeDone_base s p)
@[simp] theorem takeDone_clock (s : State) (p : Port) : (takeDone p s).clock = s.clock := clock_of_base (takeDone_base s p)
@[simp] theorem takeDone_settings (s : State) (p : Port) : (takeDone p s).settings = s.settings := settings_of_base (takeDone_base s p)
@[simp] theorem takeDone_choices (s : State) (p : Port) : (takeDone p s).choices = s.choices := choices_of_base (takeDone_base s p)
@[simp] theorem takeDone_pending (s : State) (p : Port) : (takeDone p s).pending = s.pending := pending_of_base (takeDone_base s p)
@[simp] theorem takeDone_zones (s : State) (p : Port) : (takeDone p s).zones = s.zones := by
  unfold takeDone; dsimp only; (repeat' split) <;> simp

/-! ### takeFault -/

@[simp] theorem takeFault_base (s : State) (p : Port) : (takeFault p s).base = s.base := by
  unfold takeFault; dsimp only; split <;> simp
@[simp] theorem takeFault_terminal (s : State) (p : Port) : (takeFault p s).terminal = s.terminal := terminal_of_base (takeFault_base s p)
@[simp] theorem takeFault_links (s : State) (p : Port) : (takeFault p s).links = s.links := links_of_base (takeFault_base s p)
@[simp] theorem takeFault_nextCase (s : State) (p : Port) : (takeFault p s).nextCase = s.nextCase := nextCase_of_base (takeFault_base s p)
@[simp] theorem takeFault_concession (s : State) (p : Port) : (takeFault p s).concession = s.concession := concession_of_base (takeFault_base s p)
@[simp] theorem takeFault_clock (s : State) (p : Port) : (takeFault p s).clock = s.clock := clock_of_base (takeFault_base s p)
@[simp] theorem takeFault_settings (s : State) (p : Port) : (takeFault p s).settings = s.settings := settings_of_base (takeFault_base s p)
@[simp] theorem takeFault_choices (s : State) (p : Port) : (takeFault p s).choices = s.choices := choices_of_base (takeFault_base s p)
@[simp] theorem takeFault_pending (s : State) (p : Port) : (takeFault p s).pending = s.pending := pending_of_base (takeFault_base s p)
@[simp] theorem takeFault_zones (s : State) (p : Port) : (takeFault p s).zones = s.zones := by
  unfold takeFault; dsimp only; split <;> simp

/-! ### fencePort -/

@[simp] theorem fencePort_base (s : State) (p : Port) : (fencePort p s).base = s.base := by
  simp [fencePort]
@[simp] theorem fencePort_terminal (s : State) (p : Port) : (fencePort p s).terminal = s.terminal := terminal_of_base (fencePort_base s p)
@[simp] theorem fencePort_links (s : State) (p : Port) : (fencePort p s).links = s.links := links_of_base (fencePort_base s p)
@[simp] theorem fencePort_nextCase (s : State) (p : Port) : (fencePort p s).nextCase = s.nextCase := nextCase_of_base (fencePort_base s p)
@[simp] theorem fencePort_concession (s : State) (p : Port) : (fencePort p s).concession = s.concession := concession_of_base (fencePort_base s p)
@[simp] theorem fencePort_clock (s : State) (p : Port) : (fencePort p s).clock = s.clock := clock_of_base (fencePort_base s p)
@[simp] theorem fencePort_settings (s : State) (p : Port) : (fencePort p s).settings = s.settings := settings_of_base (fencePort_base s p)
@[simp] theorem fencePort_choices (s : State) (p : Port) : (fencePort p s).choices = s.choices := choices_of_base (fencePort_base s p)
@[simp] theorem fencePort_pending (s : State) (p : Port) : (fencePort p s).pending = s.pending := pending_of_base (fencePort_base s p)
@[simp] theorem fencePort_zones (s : State) (p : Port) : (fencePort p s).zones = s.zones := by
  simp [fencePort]

/-! ### takeTimeout -/

@[simp] theorem takeTimeout_base (s : State) (p : Port) : (takeTimeout p s).base = s.base := by
  unfold takeTimeout; dsimp only; (repeat' split) <;> simp
@[simp] theorem takeTimeout_terminal (s : State) (p : Port) : (takeTimeout p s).terminal = s.terminal := terminal_of_base (takeTimeout_base s p)
@[simp] theorem takeTimeout_links (s : State) (p : Port) : (takeTimeout p s).links = s.links := links_of_base (takeTimeout_base s p)
@[simp] theorem takeTimeout_nextCase (s : State) (p : Port) : (takeTimeout p s).nextCase = s.nextCase := nextCase_of_base (takeTimeout_base s p)
@[simp] theorem takeTimeout_concession (s : State) (p : Port) : (takeTimeout p s).concession = s.concession := concession_of_base (takeTimeout_base s p)
@[simp] theorem takeTimeout_clock (s : State) (p : Port) : (takeTimeout p s).clock = s.clock := clock_of_base (takeTimeout_base s p)
@[simp] theorem takeTimeout_settings (s : State) (p : Port) : (takeTimeout p s).settings = s.settings := settings_of_base (takeTimeout_base s p)
@[simp] theorem takeTimeout_choices (s : State) (p : Port) : (takeTimeout p s).choices = s.choices := choices_of_base (takeTimeout_base s p)
@[simp] theorem takeTimeout_pending (s : State) (p : Port) : (takeTimeout p s).pending = s.pending := pending_of_base (takeTimeout_base s p)
@[simp] theorem takeTimeout_zones (s : State) (p : Port) : (takeTimeout p s).zones = s.zones := by
  unfold takeTimeout; dsimp only; (repeat' split) <;> simp

/-! ### expireWindow -/

@[simp] theorem expireWindow_base (s : State) (p : Port) : (expireWindow p s).base = s.base := by
  unfold expireWindow; split <;> simp
@[simp] theorem expireWindow_terminal (s : State) (p : Port) : (expireWindow p s).terminal = s.terminal := terminal_of_base (expireWindow_base s p)
@[simp] theorem expireWindow_links (s : State) (p : Port) : (expireWindow p s).links = s.links := links_of_base (expireWindow_base s p)
@[simp] theorem expireWindow_nextCase (s : State) (p : Port) : (expireWindow p s).nextCase = s.nextCase := nextCase_of_base (expireWindow_base s p)
@[simp] theorem expireWindow_concession (s : State) (p : Port) : (expireWindow p s).concession = s.concession := concession_of_base (expireWindow_base s p)
@[simp] theorem expireWindow_clock (s : State) (p : Port) : (expireWindow p s).clock = s.clock := clock_of_base (expireWindow_base s p)
@[simp] theorem expireWindow_settings (s : State) (p : Port) : (expireWindow p s).settings = s.settings := settings_of_base (expireWindow_base s p)
@[simp] theorem expireWindow_choices (s : State) (p : Port) : (expireWindow p s).choices = s.choices := choices_of_base (expireWindow_base s p)
@[simp] theorem expireWindow_pending (s : State) (p : Port) : (expireWindow p s).pending = s.pending := pending_of_base (expireWindow_base s p)
@[simp] theorem expireWindow_zones (s : State) (p : Port) : (expireWindow p s).zones = s.zones := by
  unfold expireWindow; split <;> simp

/-! ### createJob -/

@[simp] theorem createJob_base (s : State) (p : Port) (kind : JobKind) (caseNo : Nat) : (createJob p kind caseNo s).base = s.base := by
  unfold createJob; dsimp only; split <;> simp
@[simp] theorem createJob_terminal (s : State) (p : Port) (kind : JobKind) (caseNo : Nat) : (createJob p kind caseNo s).terminal = s.terminal := terminal_of_base (createJob_base s p kind caseNo)
@[simp] theorem createJob_links (s : State) (p : Port) (kind : JobKind) (caseNo : Nat) : (createJob p kind caseNo s).links = s.links := links_of_base (createJob_base s p kind caseNo)
@[simp] theorem createJob_nextCase (s : State) (p : Port) (kind : JobKind) (caseNo : Nat) : (createJob p kind caseNo s).nextCase = s.nextCase := nextCase_of_base (createJob_base s p kind caseNo)
@[simp] theorem createJob_concession (s : State) (p : Port) (kind : JobKind) (caseNo : Nat) : (createJob p kind caseNo s).concession = s.concession := concession_of_base (createJob_base s p kind caseNo)
@[simp] theorem createJob_clock (s : State) (p : Port) (kind : JobKind) (caseNo : Nat) : (createJob p kind caseNo s).clock = s.clock := clock_of_base (createJob_base s p kind caseNo)
@[simp] theorem createJob_settings (s : State) (p : Port) (kind : JobKind) (caseNo : Nat) : (createJob p kind caseNo s).settings = s.settings := settings_of_base (createJob_base s p kind caseNo)
@[simp] theorem createJob_choices (s : State) (p : Port) (kind : JobKind) (caseNo : Nat) : (createJob p kind caseNo s).choices = s.choices := choices_of_base (createJob_base s p kind caseNo)
@[simp] theorem createJob_pending (s : State) (p : Port) (kind : JobKind) (caseNo : Nat) : (createJob p kind caseNo s).pending = s.pending := pending_of_base (createJob_base s p kind caseNo)
@[simp] theorem createJob_cases (s : State) (p : Port) (kind : JobKind) (caseNo : Nat) : (createJob p kind caseNo s).cases = s.cases := by
  unfold createJob; dsimp only; split <;> simp
@[simp] theorem createJob_channels (s : State) (p : Port) (kind : JobKind) (caseNo : Nat) : (createJob p kind caseNo s).channels = s.channels := by
  unfold createJob; dsimp only; split <;> simp
@[simp] theorem createJob_hotlist (s : State) (p : Port) (kind : JobKind) (caseNo : Nat) : (createJob p kind caseNo s).hotlist = s.hotlist := by
  unfold createJob; dsimp only; split <;> simp
@[simp] theorem createJob_zones (s : State) (p : Port) (kind : JobKind) (caseNo : Nat) : (createJob p kind caseNo s).zones = s.zones := by
  unfold createJob; dsimp only; split <;> simp
@[simp] theorem createJob_signing (s : State) (p : Port) (kind : JobKind) (caseNo : Nat) : (createJob p kind caseNo s).signing = s.signing := by
  unfold createJob; dsimp only; split <;> simp

/-! ### deliverRollover -/

@[simp] theorem deliverRollover_terminal (s : State) (b : RolloverBlock) : (deliverRollover b s).terminal = s.terminal := by
  unfold deliverRollover; split <;> simp
@[simp] theorem deliverRollover_links (s : State) (b : RolloverBlock) : (deliverRollover b s).links = s.links := by
  unfold deliverRollover; split <;> simp
@[simp] theorem deliverRollover_nextCase (s : State) (b : RolloverBlock) : (deliverRollover b s).nextCase = s.nextCase := by
  unfold deliverRollover; split <;> simp
@[simp] theorem deliverRollover_concession (s : State) (b : RolloverBlock) : (deliverRollover b s).concession = s.concession := by
  unfold deliverRollover; split <;> simp
@[simp] theorem deliverRollover_clock (s : State) (b : RolloverBlock) : (deliverRollover b s).clock = s.clock := by
  unfold deliverRollover; split <;> simp
@[simp] theorem deliverRollover_settings (s : State) (b : RolloverBlock) : (deliverRollover b s).settings = s.settings := by
  unfold deliverRollover; split <;> simp
@[simp] theorem deliverRollover_pending (s : State) (b : RolloverBlock) : (deliverRollover b s).pending = s.pending := by
  unfold deliverRollover; split <;> simp
@[simp] theorem deliverRollover_ports (s : State) (b : RolloverBlock) : (deliverRollover b s).ports = s.ports := by
  unfold deliverRollover; split <;> simp

/-! ### The tasks of a moved clock -/

/-- No block's rollover event and no end of a tear window moves the clock: each finds the same day (R192). -/
@[simp] theorem runTimeTask_clock (s : State) (t : TimeTask) : (runTimeTask t s).clock = s.clock := by
  unfold runTimeTask; split <;> simp

/-- Where no rollover is due, the day stays. -/
theorem moveDay_of_not_due {s : State} (h : rolloverDue s = false) : moveDay s = s := by simp [moveDay, h]

/-- Where no rollover is due, the test changes nothing. -/
theorem rolloverTest_of_not_due {s : State} (h : rolloverDue s = false) : rolloverTest s = s := by
  simp [rolloverTest, moveDay_of_not_due h, dueBlocks, h, State.runFree, State.ordered, freeOrder, State.useChoices]

end Sys2Proof.Machine
end

