-- ==== Sys2Proof/Laws/Cases.lean ====
section
/-! SUPPORT. What the shared operations on cases, reports, the signing unit and the hotlist do, one lemma each: a proof cites the
lemma in place of the operation's body. -/

namespace Sys2Proof.Machine

/-! ### Looking up a case -/

theorem findCase_number {s : State} {n : Nat} {c : Case} (h : s.findCase n = some c) : c.number = n := by
  simpa using List.find?_some h

theorem findCase_mem {s : State} {n : Nat} {c : Case} (h : s.findCase n = some c) : c ∈ s.cases :=
  List.mem_of_find?_eq_some h

/-- The lookup reads the case table alone. -/
theorem findCase_of_cases {s t : State} (h : s.cases = t.cases) (n : Nat) : s.findCase n = t.findCase n := by
  unfold State.findCase; rw [h]

/-- The lookup after the same case was replaced by one of its number. -/
theorem findCase_replaced {s : State} {n : Nat} {c k : Case} (h : s.findCase n = some c) (hk : k.number = n) :
    (s.modCase n fun _ => k).findCase n = some k := by
  simp only [State.findCase, modCase_cases] at h ⊢
  revert h
  induction s.cases with
  | nil => intro h; cases h
  | cons a l ih =>
    intro h
    by_cases ha : a.number = n
    · simp [ha, hk]
    · simp only [ha, if_false, List.map_cons, decide_false, List.find?_cons] at h ⊢
      exact ih h

/-- The lookup after a change of the same case that keeps its number. -/
theorem findCase_modCase {s : State} {n : Nat} {f : Case → Case} (hf : ∀ c, (f c).number = c.number) :
    (s.modCase n f).findCase n = (s.findCase n).map f := by
  simp only [State.findCase, modCase_cases]
  induction s.cases with
  | nil => rfl
  | cons c l ih =>
    by_cases h : c.number = n
    · simp [h, hf]
    · simp [h, ih]

/-- The lookup of another case after a change. -/
theorem findCase_modCase_other {s : State} {n m : Nat} {f : Case → Case} (hf : ∀ c, (f c).number = c.number) (hm : m ≠ n) :
    (s.modCase n f).findCase m = s.findCase m := by
  simp only [State.findCase, modCase_cases]
  induction s.cases with
  | nil => rfl
  | cons c l ih =>
    by_cases h : c.number = n
    · have h1 : ¬ (f c).number = m := by rw [hf, h]; exact fun e => hm e.symm
      have h2 : ¬ c.number = m := by rw [h]; exact fun e => hm e.symm
      rw [List.find?_cons_of_neg (by simp [h2]), ← ih, List.map_cons, if_pos h, List.find?_cons_of_neg (by simp [h1])]
    · rw [List.map_cons, if_neg h]
      by_cases h2 : c.number = m
      · rw [List.find?_cons_of_pos (by simp [h2]), List.find?_cons_of_pos (by simp [h2])]
      · rw [List.find?_cons_of_neg (by simp [h2]), List.find?_cons_of_neg (by simp [h2]), ih]

/-- In ascending case numbers a number names one case at most. -/
theorem eq_of_number {l : List Case} (h : l.Pairwise fun a b => a.number < b.number) {c d : Case} (hc : c ∈ l) (hd : d ∈ l)
    (e : c.number = d.number) : c = d := by
  induction l with
  | nil => cases hc
  | cons x l ih =>
    rw [List.pairwise_cons] at h
    rcases List.mem_cons.mp hc with h1 | h1 <;> rcases List.mem_cons.mp hd with h2 | h2
    · rw [h1, h2]
    · have := h.1 d h2; rw [h1] at e; omega
    · have := h.1 c h1; rw [h2] at e; omega
    · exact ih h.2 h1 h2

/-- In ascending case numbers every case of the table is found under its number. -/
theorem findCase_of_mem {s : State} (h : s.cases.Pairwise fun a b => a.number < b.number) {c : Case} (hc : c ∈ s.cases) :
    s.findCase c.number = some c := by
  cases hf : s.findCase c.number with
  | none => exact absurd (List.find?_eq_none.mp hf c hc) (by simp)
  | some d => rw [eq_of_number h (findCase_mem hf) hc (findCase_number hf)]

/-! ### Reports -/

/-- A report of a live case goes to its owner's channel (R182). -/
theorem reportOn_of_find {s : State} {n : Nat} {c : Case} (body : Case → ReportBody) (h : s.findCase n = some c) :
    reportOn n body s = s.caseReport c.owner (body c) := by
  simp only [reportOn, h]

theorem caseReport_withReport (s : State) (o : LinkId) (b : ReportBody) :
    (s.caseReport o b).channels = withReport s.links[o].channel ⟨some o, s.links[o].station, b⟩ s.channels := rfl

theorem systemReport_withReport (s : State) (b : ReportBody) :
    (s.systemReport b).channels = withReport 0 ⟨none, 0, b⟩ s.channels := rfl

/-- A report joins a queue that is not full, or is counted (R183). -/
theorem pushReport_cases (r : Report) (ch : Channel) :
    (ch.queue.length < 16 ∧ pushReport r ch = { ch with queue := ch.queue ++ [r] }) ∨
      (16 ≤ ch.queue.length ∧ pushReport r ch = { ch with dropped := min 255 (ch.dropped + 1) }) := by
  unfold pushReport satSucc
  split
  · exact .inl ⟨‹_›, rfl⟩
  · exact .inr ⟨by omega, rfl⟩

/-! ### Orders the spec leaves open -/

/-- A free order rearranges the list. -/
theorem freeOrder_perm {α : Type} (fuel k : Nat) (l : List α) (h : l.length ≤ fuel) : (freeOrder fuel k l).Perm l := by
  induction fuel generalizing k l with
  | zero => simp [freeOrder]
  | succ n ih =>
    match l, h with
    | [], _ => simp [freeOrder]
    | [x], _ => simp [freeOrder]
    | x :: y :: l, h =>
      simp only [freeOrder]
      have hi : Config.freeChoice k % (x :: y :: l).length < (x :: y :: l).length := Nat.mod_lt _ (by simp)
      generalize Config.freeChoice k % (x :: y :: l).length = i at hi
      have h1 := ih (k + 1) ((x :: y :: l).eraseIdx i) (by rw [List.length_eraseIdx_of_lt hi]; simp at h ⊢; omega)
      refine (h1.append_left _).trans ?_
      rw [List.take_one_drop_eq_of_lt_length hi, List.eraseIdx_eq_take_drop_succ]
      refine (List.perm_append_comm_assoc _ _ _).trans ?_
      rw [List.singleton_append, List.get_eq_getElem]
      exact List.Perm.of_eq (by rw [← List.drop_eq_getElem_cons hi, List.take_append_drop])

/-- What the first task's state and every task keep, a free order of the tasks keeps. -/
theorem runFree_keeps {α : Type} (P : State → Prop) (tasks : List α) (run : α → State → State) (s : State)
    (h0 : P (s.useChoices tasks.length)) (h : ∀ t ∈ tasks, ∀ u, P u → P (run t u)) : P (s.runFree tasks run) := by
  unfold State.runFree
  have hp : ∀ t ∈ s.ordered tasks, t ∈ tasks := fun t ht =>
    (freeOrder_perm _ _ _ (Nat.le_refl _)).mem_iff.mp ht
  generalize s.ordered tasks = l at hp
  generalize s.useChoices tasks.length = u at h0
  induction l generalizing u with
  | nil => exact h0
  | cons t l ih =>
    exact ih (fun x hx => hp x (List.mem_cons_of_mem _ hx)) _ (h t (hp t List.mem_cons_self) _ h0)

/-! ### The signing unit -/

/-- A request of the hotlist or statement member (R166). -/
theorem requestHotlist_eq (s : State) :
    requestGrant .hotlist s = { s with signing := asked .hotlist (some (.package (packageInputs s.hotlist))) s.signing } := by
  cases h : s.signing.grantee <;>
    simp [requestGrant, asked, h, grant, beginGrant, State.modSigning]

/-- The statement member asks when the queue is not empty and it neither waits nor holds the grant (R171). -/
theorem requestStatement_eq (s : State) :
    requestStatement s =
      if s.signing.queue = [] ∨ s.signing.waiting.statement = true ∨ s.signing.grantee = some .statement then s
      else { s with signing := asked .statement (headStatement s) s.signing } := by
  unfold requestStatement
  split
  · rfl
  · cases h : s.signing.grantee <;>
      simp [requestGrant, asked, h, grant, beginGrant, State.modSigning, takeGrant, headStatement, State.findCase]

/-- The ring goes round every first-level place (R167). -/
theorem mem_ringAfter (f x : FirstPlace) : x ∈ ringAfter f := by
  rcases f with p | _ <;> (try cases p) <;> rcases x with q | _ <;> (try cases q) <;> decide

/-- The group ring goes round both members (R167). -/
theorem mem_groupAfter (g : GroupPlace) : Member.hotlist ∈ groupAfter g ∧ Member.statement ∈ groupAfter g := by
  cases g <;> decide

/-- Nobody waits when no place waits. -/
theorem waiting_eq_none {w : Waiting} (h : ∀ x, placeWaits w x = false) : w = {} := by
  have ha := h (.port .A)
  have hb := h (.port .B)
  have hc := h (.port .C)
  have hd := h (.port .D)
  have hg := h .group
  obtain ⟨a, b, c, d, e, f⟩ := w
  simp_all [placeWaits, isWaiting]

/-- A pick finds nobody exactly when nobody waits (R167, R168). -/
theorem pick_none_iff (mode : ArbMode) (u : Signing) : pick mode u = none ↔ u.waiting = {} := by
  have m1 : ∀ x, x ∈ (ringOrders mode u).1 := by
    intro x; cases mode
    · exact mem_ringAfter u.lastFirst x
    · exact mem_ringAfter .group x
  have m2 : Member.hotlist ∈ (ringOrders mode u).2 ∧ Member.statement ∈ (ringOrders mode u).2 := by
    cases mode
    · exact mem_groupAfter u.lastGroup
    · exact mem_groupAfter .statement
  constructor
  · intro h
    unfold pick at h
    split at h
    · rename_i hn
      exact waiting_eq_none fun x => by simpa using List.find?_eq_none.mp hn x (m1 x)
    · cases h
    · rename_i hg
      have hw := List.find?_some hg
      have h1 := List.find?_eq_none.mp h _ m2.1
      have h2 := List.find?_eq_none.mp h _ m2.2
      simp_all [placeWaits, isWaiting]
  · intro h
    unfold pick
    have : (ringOrders mode u).1.find? (placeWaits u.waiting) = none := by
      rw [List.find?_eq_none]
      intro x _
      rw [h]
      rcases x with p | _
      · cases p <;> decide
      · decide
    rw [this]

/-- A released unit is free when nobody waits, and else grants the member picked (R167). -/
theorem releaseGrant_spec (s : State) :
    let u := { s.signing with grantee := none, context := none, computation := none }
    (s.signing.waiting = {} ∧ releaseGrant s = { s with signing := u }) ∨
      ∃ m, pick s.settings.mode u = some m ∧ releaseGrant s = grant m { s with signing := u } := by
  intro u
  unfold releaseGrant
  cases h : pick s.settings.mode u with
  | none =>
    refine .inl ⟨(pick_none_iff _ _).mp h, ?_⟩
    simp only [State.modSigning]
    split
    · rfl
    · simp_all [u]
  | some m =>
    refine .inr ⟨m, rfl, ?_⟩
    simp only [State.modSigning]
    split
    · simp_all [u]
    · simp_all [u]

/-! ### The hotlist -/

/-- The automatic trigger's effect on the hotlist unit (R107, R106). -/
theorem autoCut_hotlist (s : State) : (autoCut s).hotlist = cutIfDue s.settings.autoCut s.hotlist := by
  unfold autoCut cutIfDue startCut canCut
  by_cases h1 : s.hotlist.packaging = .idle <;> by_cases h2 : s.settings.autoCut ≤ s.hotlist.pending.length <;>
    by_cases h3 : s.hotlist.pending = [] <;> by_cases h4 : s.hotlist.generation < max32 <;>
    simp [h1, h2, h3, h4, requestHotlist_eq]

/-- Where no cut starts, the automatic trigger changes nothing. -/
theorem autoCut_spec (s : State) :
    autoCut s = s ∨
      (s.hotlist.packaging = .idle ∧ s.settings.autoCut ≤ s.hotlist.pending.length ∧ s.hotlist.pending ≠ [] ∧
        s.hotlist.generation < max32 ∧ autoCut s = startCut s) := by
  unfold autoCut
  by_cases h1 : s.hotlist.packaging = .idle ∧ s.settings.autoCut ≤ s.hotlist.pending.length
  · rw [if_pos h1]
    by_cases h2 : s.hotlist.pending ≠ [] ∧ s.hotlist.generation < max32
    · exact .inr ⟨h1.1, h1.2, h2.1, h2.2, rfl⟩
    · refine .inl ?_
      unfold startCut canCut
      rw [if_neg (by simp only [decide_eq_true_eq]; exact fun h => h2 h.2)]
  · exact .inl (if_neg h1)

/-- A cut start marks the oldest changes and asks the signing unit (R106). -/
theorem startCut_eq (s : State) (h1 : s.hotlist.packaging = .idle) (h2 : s.hotlist.pending ≠ [])
    (h3 : s.hotlist.generation < max32) :
    startCut s =
      requestGrant .hotlist
        { s with hotlist := { s.hotlist with pending := markTaken 64 s.hotlist.pending, packaging := .packaging } } := by
  simp [startCut, canCut, h1, h2, h3, State.modHotlist]

/-- The changes a cut takes (R106). -/
theorem markTaken_eq (n : Nat) (l : List Change) :
    markTaken n l = ((l.take n).map fun c => { c with taken := true }) ++ l.drop n := by
  induction n generalizing l with
  | zero => simp [markTaken]
  | succ n ih => cases l <;> simp [markTaken, ih]

/-- A new request of the hotlist member leaves the statement queue. -/
@[simp] theorem asked_queue (m : Member) (c : Option Computation) (u : Signing) : (asked m c u).queue = u.queue := by
  unfold asked; split <;> rfl

/-- The automatic trigger leaves the statement queue. -/
@[simp] theorem autoCut_queue (s : State) : (autoCut s).signing.queue = s.signing.queue := by
  rcases autoCut_spec s with h | ⟨h1, _, h2, h3, h⟩
  · rw [h]
  · rw [h, startCut_eq s h1 h2 h3, requestHotlist_eq]; simp

end Sys2Proof.Machine
end

