-- ==== Sys2Proof/Laws/Signing.lean ====
section
/-! SUPPORT. The signing unit's pick and releases: the model's pick finds the member that the ring puts next. -/

namespace Sys2Proof.Machine

/-- The entry a search finds stands before every other that it could have found. -/
theorem find?_idxOf_le {α : Type} [DecidableEq α] {l : List α} {f : α → Bool} {m x : α} (h : l.find? f = some m)
    (hx : f x = true) : l.idxOf m ≤ l.idxOf x := by
  induction l with
  | nil => cases h
  | cons a l ih =>
    rw [List.find?_cons] at h
    by_cases ha : f a = true
    · rw [ha] at h; cases h; simp [List.idxOf_cons]
    · have : a ≠ x := fun e => ha (e ▸ hx)
      have hm : a ≠ m := fun e => ha (by subst e; simp [ha] at h; simpa using List.find?_some h)
      simp only [ha] at h
      simp [this, hm, ih h]

/-- The ring's order is that of the steps after the last grantee (R167, R168). -/
theorem firstSteps_eq (mode : ArbMode) (u : Signing) (m : Member) :
    firstSteps mode u m = (ringOrders mode u).1.idxOf (firstPlaceOf m) := by
  unfold firstSteps ringOrders
  cases mode <;> dsimp only
  · generalize u.lastFirst = f
    rcases f with p | _ <;> (try cases p) <;> rcases m with q | _ | _ <;> (try cases q) <;> decide
  · rcases m with q | _ | _ <;> (try cases q) <;> decide

theorem groupSteps_eq (mode : ArbMode) (u : Signing) (m : Member) (h : m = .hotlist ∨ m = .statement) :
    groupSteps mode u m = (ringOrders mode u).2.idxOf m := by
  unfold groupSteps ringOrders
  cases mode <;> dsimp only
  · generalize u.lastGroup = f
    rcases h with rfl | rfl <;> cases f <;> decide
  · rcases h with rfl | rfl <;> decide

theorem placeWaits_of {w : Waiting} {x : Member} (h : isWaiting w x = true) : placeWaits w (firstPlaceOf x) = true := by
  rcases x with p | _ | _ <;> simp_all [placeWaits, firstPlaceOf, isWaiting]

/-- The member picked is the next one (R167, R168). -/
theorem isNext_of_pick {mode : ArbMode} {u : Signing} {m : Member} (h : pick mode u = some m) : IsNext mode u m := by
  unfold pick at h
  split at h
  · cases h
  · rename_i p hp
    cases h
    have hw := List.find?_some hp
    refine ⟨hw, fun x hx => ⟨?_, fun he => ?_⟩⟩
    · rw [firstSteps_eq, firstSteps_eq]
      exact find?_idxOf_le hp (placeWaits_of hx)
    · have : x = .port p := by
        rcases x with q | _ | _ <;> (try cases q) <;> cases p <;> first | rfl | (exact absurd he (by decide))
      rw [this]
  · rename_i hp
    have hm := List.find?_some h
    have hg : m = .hotlist ∨ m = .statement := by
      have := List.mem_of_find?_eq_some h
      unfold ringOrders at this
      cases mode
      · generalize u.lastGroup = f at this
        cases f <;> simp [groupAfter] at this <;> tauto
      · simp [groupAfter] at this; exact this
    have hf : firstPlaceOf m = .group := by rcases hg with rfl | rfl <;> rfl
    refine ⟨hm, fun x hx => ⟨?_, fun he => ?_⟩⟩
    · rw [firstSteps_eq, firstSteps_eq, hf]
      exact find?_idxOf_le hp (placeWaits_of hx)
    · have hx' : x = .hotlist ∨ x = .statement := by
        rcases x with q | _ | _
        · rcases hg with rfl | rfl <;> cases q <;> exact absurd he (by decide)
        · exact .inl rfl
        · exact .inr rfl
      rw [groupSteps_eq _ _ _ hg, groupSteps_eq _ _ _ hx']
      exact find?_idxOf_le h hx

/-- There is one next member (R167). -/
theorem isNext_unique {mode : ArbMode} {u : Signing} {m n : Member} (hm : IsNext mode u m) (hn : IsNext mode u n) : m = n := by
  have h1 := (hm.2 n hn.1).1
  have h2 := (hn.2 m hm.1).1
  have hp : ringPlace m = ringPlace n := by
    revert h1 h2
    unfold firstSteps
    cases mode <;> dsimp only
    · generalize u.lastFirst = f
      rcases f with p | _ <;> (try cases p) <;> rcases m with q | _ | _ <;> (try cases q) <;>
        rcases n with r | _ | _ <;> (try cases r) <;> decide
    · omega
  have h3 := (hm.2 n hn.1).2 hp.symm
  have h4 := (hn.2 m hm.1).2 hp
  revert h3 h4 hp
  unfold groupSteps
  cases mode <;> dsimp only
  · generalize u.lastGroup = f
    cases f <;> rcases m with q | _ | _ <;> (try cases q) <;> rcases n with r | _ | _ <;> (try cases r) <;> decide
  · rcases m with q | _ | _ <;> (try cases q) <;> rcases n with r | _ | _ <;> (try cases r) <;> decide

/-- The pick finds the next member (R167, R168). -/
theorem pick_eq_some_iff {mode : ArbMode} {u : Signing} {m : Member} : pick mode u = some m ↔ IsNext mode u m := by
  refine ⟨isNext_of_pick, fun h => ?_⟩
  cases hp : pick mode u with
  | none =>
    have := (pick_none_iff mode u).mp hp
    have hw := h.1
    rw [this] at hw
    rcases m with p | _ | _ <;> (try cases p) <;> cases hw
  | some n => rw [isNext_unique h (isNext_of_pick hp)]

/-- What a release leads to (R167). -/
theorem releaseGrant_released (s : State) : Released s (releaseGrant s) := by
  refine ⟨fun h => ?_, fun m h => ?_⟩
  · rcases releaseGrant_spec s with ⟨_, e⟩ | ⟨m, hm, _⟩
    · exact e
    · have := (isNext_of_pick hm).1
      simp only [h] at this
      rcases m with p | _ | _ <;> (try cases p) <;> cases this
  · have hp : pick s.settings.mode { s.signing with grantee := none, context := none, computation := none } = some m :=
      pick_eq_some_iff.mpr h
    rcases releaseGrant_spec s with ⟨hw, _⟩ | ⟨n, hn, e⟩
    · have := h.1
      rw [hw] at this
      rcases m with p | _ | _ <;> (try cases p) <;> cases this
    · rw [e]; rw [hp] at hn; cases hn; rfl

/-- A port gives up its hold (R158, R172). -/
theorem giveUpSigning_givesUp (p : Port) (s : State) : GivesUp p s (giveUpSigning p s) := by
  unfold giveUpSigning
  refine ⟨fun h => ?_, fun h => ?_⟩
  · rw [if_pos h]; exact releaseGrant_released s
  · rw [if_neg h]; rfl
end Sys2Proof.Machine
end

