-- ==== Sys2Proof/Laws/Chains.lean ====
section
/-! SUPPORT. What the chain unit's operations leave in the case table, one lemma each: an arrival, the records of a commit, and the
closures of a zone with the tests that follow them. -/

namespace Sys2Proof.Machine

/-- The case numbers of the table, which stay in ascending order under any change that keeps the numbers. -/
abbrev NumbersRise (s : State) : Prop := s.cases.Pairwise fun a b => a.number < b.number

theorem numbersRise_map {s t : State} {f : Case → Case} (h : NumbersRise s) (hf : ∀ c, (f c).number = c.number)
    (ht : t.cases = s.cases.map f) : NumbersRise t := by
  unfold NumbersRise
  rw [ht, List.pairwise_map]
  exact h.imp fun hab => by simpa [hf] using hab

/-- A number that no case has leaves a change without effect. -/
theorem map_of_not_found {s : State} {n : Nat} (f : Case → Case) (h : s.findCase n = none) :
    (s.cases.map fun c => if c.number = n then f c else c) = s.cases := by
  have h' := List.find?_eq_none.mp h
  have : ∀ c ∈ s.cases, (if c.number = n then f c else c) = c := fun c hc => by
    rw [if_neg (by simpa using h' c hc)]
  exact (List.map_congr_left this).trans (List.map_id' _)

/-- A change of the case found under a number, written as a change of the case itself. -/
theorem map_of_found {s : State} {n : Nat} {c : Case} (hs : NumbersRise s) (h : s.findCase n = some c) {f g : Case → Case}
    (e : f c = g c) :
    (s.cases.map fun d => if d.number = n then f d else d) = s.cases.map fun d => if d.number = n then g d else d := by
  refine List.map_congr_left fun d hd => ?_
  by_cases hn : d.number = n
  · rw [if_pos hn, if_pos hn]
    rw [eq_of_number hs hd (findCase_mem h) (hn.trans (findCase_number h).symm), e]
  · rw [if_neg hn, if_neg hn]

/-- A reason joins review (R39). -/
theorem raiseReview_cases {s : State} (hs : NumbersRise s) (reason : Reason) (n : Nat) :
    (raiseReview reason n s).cases =
      s.cases.map fun c => if c.number = n then { c with review := addReason c.review reason } else c := by
  unfold raiseReview
  cases h : s.findCase n with
  | none => exact (map_of_not_found _ h).symm
  | some c =>
    dsimp only
    split
    · rename_i hi
      refine ((map_of_found hs h (g := fun c => c) ?_).trans ?_).symm
      · have : addReason c.review reason = c.review := by
          cases reason <;> simp [addReason, inReview] at hi ⊢ <;> rw [← hi]
        simp only [this]
      · simp
    · simp

/-- An adjustment of a case that has a settlement (R56, R83). -/
theorem adjust_cases {s : State} {n : Nat} {c : Case} {f : Settlement} (h : s.findCase n = some c) (hf : c.settlement = some f)
    (e : CardEvent) :
    (adjust n e s).cases =
      s.cases.map fun d => if d.number = n then { d with adjustment := d.adjustment + adjustmentDelta c f e } else d := by
  unfold adjust
  rw [h]; dsimp only; rw [hf]; simp

theorem takeArrival_keeps (k : ArrivalClass) (e : CardEvent) (c : Case) :
    (takeArrival k e c).number = c.number ∧ (takeArrival k e c).state = c.state ∧
      (takeArrival k e c).settlement = c.settlement ∧ (takeArrival k e c).snapshot = c.snapshot ∧
      (takeArrival k e c).generation = c.generation ∧ (takeArrival k e c).zonesClosed = c.zonesClosed := by
  unfold takeArrival takeConflict
  cases k <;> dsimp only <;> (try split) <;> exact ⟨rfl, rfl, rfl, rfl, rfl, rfl⟩

theorem seeBlocked_keeps (k : ArrivalClass) (e : CardEvent) (c : Case) :
    (seeBlocked k e c).number = c.number ∧ (seeBlocked k e c).state = c.state ∧
      (seeBlocked k e c).settlement = c.settlement ∧ (seeBlocked k e c).snapshot = c.snapshot ∧
      (seeBlocked k e c).generation = c.generation ∧ (seeBlocked k e c).zonesClosed = c.zonesClosed := by
  unfold seeBlocked
  split <;> exact ⟨rfl, rfl, rfl, rfl, rfl, rfl⟩

/-- An event leaves what it does not name (R46 to R52). -/
theorem eventTaken_keeps (e : CardEvent) (c : Case) :
    (eventTaken e c).number = c.number ∧ (eventTaken e c).state = c.state ∧ (eventTaken e c).settlement = c.settlement ∧
      (eventTaken e c).snapshot = c.snapshot ∧ (eventTaken e c).generation = c.generation ∧
      (eventTaken e c).zonesClosed = c.zonesClosed := by
  have h1 := takeArrival_keeps (classify c e) e c
  have h2 := seeBlocked_keeps (classify c e) e (takeArrival (classify c e) e c)
  unfold eventTaken
  simp only
  split
  · split <;> (simp only [h2, h1]; exact ⟨trivial, trivial, trivial, trivial, trivial, trivial⟩)
  · split <;> (simp only [h2, h1]; exact ⟨trivial, trivial, trivial, trivial, trivial, trivial⟩)

/-- An arrival does to the case table what one card event does to the case it is handed to (R46). -/
theorem arrival_cases {s : State} (hs : NumbersRise s) (n : Nat) (e : CardEvent) :
    (arrival n e s).cases = s.cases.map fun c => if c.number = n then eventTaken e c else c := by
  unfold arrival
  cases h : s.findCase n with
  | none => exact (map_of_not_found _ h).symm
  | some c =>
    dsimp only
    have hk := fun d => ((seeBlocked_keeps (classify c e) e (takeArrival (classify c e) e d)).1.trans
      (takeArrival_keeps (classify c e) e d).1)
    have hf := findCase_modCase (s := s) (n := n) hk
    rw [h] at hf
    have hr : NumbersRise (s.modCase n fun c_1 => seeBlocked (classify c e) e (takeArrival (classify c e) e c_1)) :=
      numbersRise_map (f := fun d => if d.number = n then seeBlocked (classify c e) e (takeArrival (classify c e) e d) else d) hs
        (fun d => by split <;> simp [hk]) (by simp)
    have hst := (seeBlocked_keeps (classify c e) e (takeArrival (classify c e) e c)).2.2.1.trans
      (takeArrival_keeps (classify c e) e c).2.2.1
    have hc : ∀ g : Case → Case, g (seeBlocked (classify c e) e (takeArrival (classify c e) e c)) = eventTaken e c →
        (s.cases.map fun d =>
          if (if d.number = n then seeBlocked (classify c e) e (takeArrival (classify c e) e d) else d).number = n then
            g (if d.number = n then seeBlocked (classify c e) e (takeArrival (classify c e) e d) else d)
          else (if d.number = n then seeBlocked (classify c e) e (takeArrival (classify c e) e d) else d)) =
        s.cases.map fun d => if d.number = n then eventTaken e d else d := by
      intro g hg
      rw [← map_of_found hs h (f := fun d => g (seeBlocked (classify c e) e (takeArrival (classify c e) e d))) hg]
      refine List.map_congr_left fun d _ => ?_
      by_cases hn : d.number = n
      · simp [hn, hk]
      · simp [hn]
    unfold afterArrival
    by_cases hset : c.state = .settled
    · cases hkl : classify c e with
      | inserted =>
        simp only [hset, decide_true]
        cases hse : c.settlement with
        | none =>
          have : adjust n e (s.modCase n fun c_1 => seeBlocked .inserted e (takeArrival .inserted e c_1)) =
              s.modCase n fun c_1 => seeBlocked .inserted e (takeArrival .inserted e c_1) := by
            unfold adjust
            rw [hkl] at hf hst
            rw [hf]; simp only [Option.map_some]
            rw [hst, hse]
          rw [this]
          refine map_of_found hs h ?_
          unfold eventTaken; rw [if_pos hset, hse, hkl]
        | some f =>
          rw [hkl] at hf hst hc
          let delta := adjustmentDelta (seeBlocked .inserted e (takeArrival .inserted e c)) f e
          rw [adjust_cases hf (hst.trans hse)]
          rw [modCase_cases, List.map_map]
          refine Eq.trans rfl (hc (fun d => { d with adjustment := d.adjustment + delta }) ?_)
          unfold eventTaken; rw [if_pos hset, hse, hkl]
      | stale | duplicate | conflict | overflow =>
        simp only [hset, decide_true, modCase_cases]
        refine map_of_found hs h ?_
        unfold eventTaken; rw [if_pos hset, hkl]
        cases c.settlement <;> rfl
    · cases hkl : classify c e with
      | conflict =>
        rw [hkl] at hr hc
        simp only [hset, decide_false]
        rw [raiseReview_cases hr, modCase_cases, List.map_map]
        refine Eq.trans rfl (hc (fun d => { d with review := addReason d.review .conflict }) ?_)
        unfold eventTaken; rw [if_neg hset, hkl]; rfl
      | overflow =>
        rw [hkl] at hr hc
        simp only [hset, decide_false]
        rw [raiseReview_cases hr, modCase_cases, List.map_map]
        refine Eq.trans rfl (hc (fun d => { d with review := addReason d.review .chainFull }) ?_)
        unfold eventTaken; rw [if_neg hset, hkl]; rfl
      | stale | duplicate | inserted =>
        simp only [hset, decide_false, modCase_cases]
        refine map_of_found hs h ?_
        unfold eventTaken; rw [if_neg hset, hkl]

/-! ### The records of a commit (R132) -/

theorem handedTo_keeps (h : Hotlist) (e : CardEvent) (c : Case) :
    (handedTo h e c).number = c.number ∧ (handedTo h e c).state = c.state ∧ (handedTo h e c).settlement = c.settlement ∧
      (handedTo h e c).snapshot = c.snapshot ∧ (handedTo h e c).generation = c.generation ∧
      (handedTo h e c).zonesClosed = c.zonesClosed := by
  unfold handedTo
  split
  · exact eventTaken_keeps e c
  · exact ⟨rfl, rfl, rfl, rfl, rfl, rfl⟩

theorem handedTo_foldl_keeps (h : Hotlist) (l : List CardEvent) (c : Case) :
    (l.foldl (fun d e => handedTo h e d) c).number = c.number ∧ (l.foldl (fun d e => handedTo h e d) c).state = c.state ∧
      (l.foldl (fun d e => handedTo h e d) c).generation = c.generation ∧
      (l.foldl (fun d e => handedTo h e d) c).zonesClosed = c.zonesClosed := by
  induction l generalizing c with
  | nil => exact ⟨rfl, rfl, rfl, rfl⟩
  | cons e l ih =>
    have h1 := handedTo_keeps h e c
    have h2 := ih (handedTo h e c)
    exact ⟨h2.1.trans h1.1, h2.2.1.trans h1.2.1, h2.2.2.1.trans h1.2.2.2.2.1, h2.2.2.2.trans h1.2.2.2.2.2⟩

/-- Whether an event is stale is read from S and the settlement alone (R46). -/
theorem stale_of_keeps {c d : Case} (e : CardEvent) (h1 : d.settlement = c.settlement) (h2 : d.snapshot = c.snapshot) :
    classify d e = .stale ↔ classify c e = .stale := by
  have h : ∀ c : Case, classify c e = .stale ↔ e.counter ≤ c.snapshot.counter ∨ accountedFor c e = true := by
    intro c
    unfold classify
    by_cases a : e.counter ≤ c.snapshot.counter
    · simp [a]
    · rw [if_neg a]
      by_cases b : accountedFor c e = true
      · simp [b]
      · rw [if_neg b]
        simp only [a, b, false_or]
        split
        · simp
        · split
          · simp
          · split
            · simp
            · split <;> simp
  rw [h, h, h2]
  unfold accountedFor recoveredCounter
  rw [h1]

/-- One record of a commit: its case takes it, and the counts follow (R132, R61). -/
theorem commitRecord_eq {s : State} (hs : NumbersRise s) (e : CardEvent) (n : CommitCount) :
    (commitRecord e (s, n)).1.cases = s.cases.map (handedTo s.hotlist e) ∧
      (commitRecord e (s, n)).2.matched = n.matched + (if (masterCase e.cardNo s.hotlist).isSome then 1 else 0) ∧
      (commitRecord e (s, n)).2.unmatched = n.unmatched + (if (masterCase e.cardNo s.hotlist).isSome then 0 else 1) ∧
      ∀ c ∈ s.cases, c.number ∈ (commitRecord e (s, n)).2.blocked ↔ c.number ∈ n.blocked ∨
        (e.kind = .blocked ∧ masterCase e.cardNo s.hotlist = some c.number ∧ classify c e ≠ .stale ∧ c.state ≠ .settled) := by
  unfold commitRecord
  dsimp only
  cases hm : masterCase e.cardNo s.hotlist with
  | none =>
    refine ⟨?_, by simp, by simp, fun c _ => by simp⟩
    refine ((List.map_congr_left fun c _ => ?_).trans (List.map_id' _)).symm
    unfold handedTo; rw [hm]; simp
  | some m =>
    refine ⟨?_, by simp, by simp, fun c hc => ?_⟩
    · dsimp only
      rw [arrival_cases hs]
      refine List.map_congr_left fun c _ => ?_
      unfold handedTo; rw [hm]
      by_cases h : c.number = m
      · rw [if_pos h, if_pos (by rw [h])]
      · rw [if_neg h, if_neg (by simpa using fun e => h e.symm)]
    · dsimp only
      unfold blockedCloses
      by_cases h : c.number = m
      · have hf := findCase_of_mem hs hc
        rw [h] at hf
        rw [hf, h]
        simp only [decide_eq_true_eq, true_and]
        split <;> simp_all
      · have : ¬ m = c.number := fun e => h e.symm
        simp only [Option.some.injEq, this, false_and, and_false, or_false]
        cases s.findCase m with
      | none => simp
      | some d =>
        dsimp only
        split <;> simp [h]

/-- The records of a commit, taken in buffer order (R132, R61). -/
theorem commitRecords_eq {s : State} (hs : NumbersRise s) (l : List CardEvent) :
    (commitRecords l s).1.cases = s.cases.map (fun c => l.foldl (fun d e => handedTo s.hotlist e d) c) ∧
      (commitRecords l s).2.matched = (l.filter fun e => (masterCase e.cardNo s.hotlist).isSome).length ∧
      (commitRecords l s).2.unmatched = l.length - (l.filter fun e => (masterCase e.cardNo s.hotlist).isSome).length ∧
      ∀ c ∈ s.cases, c.number ∈ (commitRecords l s).2.blocked ↔
        ∃ e ∈ l, e.kind = .blocked ∧ masterCase e.cardNo s.hotlist = some c.number ∧ classify c e ≠ .stale ∧
          c.state ≠ .settled := by
  have main : ∀ (l : List CardEvent) (s : State) (n : CommitCount), NumbersRise s →
      (l.foldl (fun acc e => commitRecord e acc) (s, n)).1.cases =
        s.cases.map (fun c => l.foldl (fun d e => handedTo s.hotlist e d) c) ∧
      (l.foldl (fun acc e => commitRecord e acc) (s, n)).2.matched =
        n.matched + (l.filter fun e => (masterCase e.cardNo s.hotlist).isSome).length ∧
      (l.foldl (fun acc e => commitRecord e acc) (s, n)).2.unmatched =
        n.unmatched + (l.length - (l.filter fun e => (masterCase e.cardNo s.hotlist).isSome).length) ∧
      ∀ c ∈ s.cases, c.number ∈ (l.foldl (fun acc e => commitRecord e acc) (s, n)).2.blocked ↔ c.number ∈ n.blocked ∨
        ∃ e ∈ l, e.kind = .blocked ∧ masterCase e.cardNo s.hotlist = some c.number ∧ classify c e ≠ .stale ∧
          c.state ≠ .settled := by
    intro l
    induction l with
    | nil => intro s n _; simp
    | cons e l ih =>
      intro s n hs
      obtain ⟨h1, h2, h3, h4⟩ := commitRecord_eq hs e n
      have hh : (commitRecord e (s, n)).1.hotlist = s.hotlist := by simp
      have hr : NumbersRise (commitRecord e (s, n)).1 := numbersRise_map hs (fun c => (handedTo_keeps s.hotlist e c).1) h1
      obtain ⟨i1, i2, i3, i4⟩ := ih (commitRecord e (s, n)).1 (commitRecord e (s, n)).2 hr
      simp only [List.foldl_cons]
      rw [hh] at i1 i2 i3 i4
      refine ⟨?_, ?_, ?_, fun c hc => ?_⟩
      · rw [i1, h1, List.map_map]; rfl
      · rw [i2, h2, List.filter_cons]
        split
        · simp only [List.length_cons]; omega
        · omega
      · rw [i3, h3, List.filter_cons]
        have := List.length_filter_le (fun e => (masterCase e.cardNo s.hotlist).isSome) l
        split
        · simp only [List.length_cons]; omega
        · simp only [List.length_cons]; omega
      · have hk := handedTo_keeps s.hotlist e c
        have hm : handedTo s.hotlist e c ∈ (commitRecord e (s, n)).1.cases := by rw [h1]; exact List.mem_map_of_mem hc
        have := i4 _ hm
        rw [hk.1, h4 c hc] at this
        rw [this]
        simp only [List.mem_cons, exists_eq_or_imp, or_assoc]
        have hx : ∀ x, (classify (handedTo s.hotlist e c) x ≠ .stale) ↔ (classify c x ≠ .stale) := fun x =>
          not_congr (stale_of_keeps x hk.2.2.1 hk.2.2.2.1)
        simp only [hx, hk.2.1]
  have := main l s ⟨0, 0, []⟩ hs
  simpa [commitRecords] using this

/-! ### Triggers and closures (R26, R61, R62) -/

/-- An automatic trigger on the case found under a number (R26). -/
theorem automaticTrigger_cases {s : State} (hs : NumbersRise s) (n : Nat) :
    (automaticTrigger n s).cases = s.cases.map fun c =>
      if c.number = n then
        (if c.state = .settled then c else autoTriggered (closedAll s.zones c.zonesClosed) s c)
      else c := by
  unfold automaticTrigger
  cases h : s.findCase n with
  | none => exact (map_of_not_found (fun c => if c.state = .settled then c else autoTriggered (closedAll s.zones c.zonesClosed) s c) h).symm
  | some c =>
    dsimp only
    have hsame : ∀ g : Case → Case, g c = c → s.cases = s.cases.map fun d => if d.number = n then g d else d := fun g hg =>
      ((map_of_found hs h (g := fun d => d) hg).trans (by simp)).symm
    by_cases h1 : c.state = .settled
    · rw [if_pos h1]
      exact hsame (fun c => if c.state = .settled then c else autoTriggered (closedAll s.zones c.zonesClosed) s c) (by simp [h1])
    · rw [if_neg h1]
      by_cases h2 : s.clock.second = none
      · rw [if_pos h2]
        exact hsame (fun c => if c.state = .settled then c else autoTriggered (closedAll s.zones c.zonesClosed) s c)
          (by simp [h1, autoTriggered, h2])
      · rw [if_neg h2]
        by_cases h3 : c.job.isSome = true
        · rw [if_pos h3, modCase_cases]
          have h3' : c.job ≠ none := by intro e; rw [e] at h3; cases h3
          exact map_of_found hs h (g := fun c => if c.state = .settled then c else autoTriggered (closedAll s.zones c.zonesClosed) s c)
            (by simp [h1, autoTriggered, h2, h3'])
        · rw [if_neg h3]
          have h3' : c.job = none := by cases hj : c.job with
            | none => rfl
            | some x => rw [hj] at h3; exact absurd rfl h3
          by_cases h4 : (!reviewEmpty c.review) = true
          · rw [if_pos h4]
            have h4' : c.review ≠ ⟨false, false, false⟩ := by intro e; rw [e] at h4; exact absurd h4 (by decide)
            exact hsame (fun c => if c.state = .settled then c else autoTriggered (closedAll s.zones c.zonesClosed) s c)
              (by simp [h1, autoTriggered, h2, h3', h4'])
          · rw [if_neg h4]
            have h4' : c.review = ⟨false, false, false⟩ := by
              rcases hr : c.review with ⟨a, b, d⟩
              rw [hr] at h4
              cases a <;> cases b <;> cases d <;> first | rfl | exact absurd rfl h4
            by_cases h5 : 64 < gapCount c
            · rw [if_pos h5, raiseReview_cases hs]
              exact map_of_found hs h (g := fun c => if c.state = .settled then c else autoTriggered (closedAll s.zones c.zonesClosed) s c)
                (by simp [h1, autoTriggered, h2, h3', h4', h5, addReason])
            · rw [if_neg h5]
              simp only [settle, settleWith, queueStatement, requestStatement_cases, modSigning_cases, modCase_cases]
              exact map_of_found hs h (g := fun c => if c.state = .settled then c else autoTriggered (closedAll s.zones c.zonesClosed) s c)
                (by simp [h1, autoTriggered, h2, h3', h4', h5, automaticKind])

@[simp] theorem requestStatement_queue (s : State) : (requestStatement s).signing.queue = s.signing.queue := by
  rw [requestStatement_eq]; split <;> simp

/-- A case's number joins the statement queue when the trigger settles it (R26, R22). -/
theorem automaticTrigger_queue (s : State) (n : Nat) :
    (automaticTrigger n s).signing.queue = s.signing.queue ++
      (match s.findCase n with
        | none => []
        | some c =>
          if c.state ≠ .settled ∧ (autoTriggered (closedAll s.zones c.zonesClosed) s c).state = .settled then [n] else []) := by
  unfold automaticTrigger
  cases h : s.findCase n with
  | none => simp
  | some c =>
    dsimp only
    by_cases h1 : c.state = .settled
    · simp [h1]
    · by_cases h2 : s.clock.second = none
      · simp [h1, h2, autoTriggered]
      · by_cases h3 : c.job = none
        · have hj : ¬ c.job.isSome = true := by simp [h3]
          by_cases h4 : c.review = ⟨false, false, false⟩
          · have hr : ¬ (!reviewEmpty c.review) = true := by rw [h4]; decide
            by_cases h5 : 64 < gapCount c
            · simp [h1, h2, h3, h4, h5, autoTriggered, reviewEmpty]
            · rw [if_neg h1, if_neg h2, if_neg hj, if_neg hr, if_neg h5]
              have : (autoTriggered (closedAll s.zones c.zonesClosed) s c).state = .settled := by
                simp [autoTriggered, h2, h3, h4, h5, settledCase]
              rw [if_pos ⟨h1, this⟩]
              simp [settle, settleWith, queueStatement, State.modSigning]
          · have hr : (!reviewEmpty c.review) = true := by
              rcases hrv : c.review with ⟨a, b, d⟩
              rw [hrv] at h4
              cases a <;> cases b <;> cases d <;> first | rfl | exact absurd rfl h4
            simp [h1, h2, h3, h4, hr, autoTriggered]
        · have hj : c.job.isSome = true := by cases hjj : c.job with
            | none => exact absurd hjj h3
            | some _ => rfl
          simp [h1, h2, h3, hj, autoTriggered]

/-- What trigger (a) makes of a case: an automatic trigger when every configured zone is closed for it (R24, R62). -/
def testedA (s : State) (c : Case) : Case :=
  if closedAll s.zones c.zonesClosed = true ∧ c.state ≠ .settled then autoTriggered true s c else c

/-- What the test reads of the machine beside the case. -/
theorem testedA_congr {s t : State} (h1 : t.zones = s.zones) (h2 : t.clock = s.clock) (c : Case) : testedA t c = testedA s c := by
  unfold testedA autoTriggered; rw [h1, h2]

theorem autoTriggered_number (b : Bool) (s : State) (c : Case) : (autoTriggered b s c).number = c.number := by
  unfold autoTriggered settledCase
  split
  · rfl
  · split
    · rfl
    · split
      · rfl
      · split <;> rfl

theorem testedA_number (s : State) (c : Case) : (testedA s c).number = c.number := by
  unfold testedA; split
  · exact autoTriggered_number _ _ _
  · rfl

theorem triggerA_eq {s : State} (hs : NumbersRise s) (n : Nat) :
    (triggerA n s).cases = (s.cases.map fun c => if c.number = n then testedA s c else c) ∧
      (triggerA n s).signing.queue = s.signing.queue ++
        (match s.findCase n with
          | none => []
          | some c => if c.state ≠ .settled ∧ (testedA s c).state = .settled then [n] else []) := by
  unfold triggerA
  cases h : s.findCase n with
  | none => exact ⟨(map_of_not_found _ h).symm, by simp⟩
  | some c =>
    dsimp only
    by_cases hc : closedAll s.zones c.zonesClosed = true
    · rw [if_pos hc, automaticTrigger_cases hs, automaticTrigger_queue, h]
      have ht : (if c.state = .settled then c else autoTriggered (closedAll s.zones c.zonesClosed) s c) = testedA s c := by
        unfold testedA
        by_cases h1 : c.state = .settled <;> simp [h1, hc]
      refine ⟨map_of_found hs h ht, ?_⟩
      unfold testedA
      by_cases h1 : c.state = .settled <;> simp [h1, hc]
    · rw [if_neg hc]
      have ht : testedA s c = c := by unfold testedA; simp [hc]
      refine ⟨((map_of_found hs h (g := fun d => d) ht).trans (by simp)).symm, ?_⟩
      rw [ht]
      by_cases h1 : c.state = .settled <;> simp [h1]

/-- Trigger (a) goes through some cases, each number once (R62, R63). -/
theorem triggerA_foldl {s : State} (hs : NumbersRise s) (l : List Nat) (hl : l.Nodup) :
    (l.foldl (fun acc n => triggerA n acc) s).cases =
        (s.cases.map fun c => if c.number ∈ l then testedA s c else c) ∧
      (l.foldl (fun acc n => triggerA n acc) s).signing.queue = s.signing.queue ++
        l.filter fun n => match s.findCase n with
          | none => false
          | some c => decide (c.state ≠ .settled ∧ (testedA s c).state = .settled) := by
  induction l generalizing s with
  | nil => simp
  | cons n l ih =>
    rw [List.nodup_cons] at hl
    obtain ⟨h1, h2⟩ := triggerA_eq hs n
    have hk : ∀ c, (if c.number = n then testedA s c else c).number = c.number := fun c => by
      split
      · exact testedA_number s c
      · rfl
    have hr : NumbersRise (triggerA n s) := numbersRise_map hs hk h1
    obtain ⟨i1, i2⟩ := ih hr hl.2
    have hc : ∀ c, testedA (triggerA n s) c = testedA s c := testedA_congr (by simp) (by simp)
    simp only [List.foldl_cons]
    refine ⟨?_, ?_⟩
    · rw [i1, h1, List.map_map]
      refine List.map_congr_left fun c _ => ?_
      simp only [Function.comp, hk, hc]
      by_cases h : c.number = n
      · simp [h, hl.1]
      · simp [h]
    · rw [i2, h2, List.filter_cons, List.append_assoc]
      congr 1
      have hrest : (l.filter fun m => match (triggerA n s).findCase m with
          | none => false
          | some c => decide (c.state ≠ .settled ∧ (testedA (triggerA n s) c).state = .settled)) =
          l.filter fun m => match s.findCase m with
          | none => false
          | some c => decide (c.state ≠ .settled ∧ (testedA s c).state = .settled) := by
        refine List.filter_congr fun m hm => ?_
        have hne : m ≠ n := fun e => hl.1 (e ▸ hm)
        have : (triggerA n s).findCase m = s.findCase m := by
          have e : (triggerA n s).cases = (s.modCase n (testedA s)).cases := h1
          rw [findCase_of_cases e]
          exact findCase_modCase_other (testedA_number s) hne
        rw [this]
        split
        · rfl
        · rw [hc]
      rw [hrest]
      cases s.findCase n with
      | none => simp
      | some c =>
        dsimp only
        by_cases h : c.state ≠ .settled ∧ (testedA s c).state = .settled
        · rw [if_pos h, if_pos (by simpa using h)]; rfl
        · rw [if_neg h, if_neg (by simpa using h)]; rfl

/-- The configured zones are read from which zones are UNUSED (R62). -/
theorem closedAll_congr {v w : Vector Zone 12} (h : ∀ z : ZoneId, v[z].state = .unused ↔ w[z].state = .unused) (c : ZoneSet) :
    closedAll v c = closedAll w c := by
  have : configuredZones v = configuredZones w := by
    unfold configuredZones
    congr 1
    funext acc z
    simp only [h z]
  unfold closedAll; rw [this]

/-- The closures of a commit and the tests behind them (R61, R62). -/
theorem applyClosures_eq {s : State} (hs : NumbersRise s) (z : ZoneId) (byRecord : List Nat) (rise : Option Nat) :
    (applyClosures z byRecord rise s).cases =
        (s.cases.map fun c => if closesNow z byRecord rise c = true then testedA s (closeZone z c) else c) ∧
      (applyClosures z byRecord rise s).signing.queue = s.signing.queue ++
        (s.cases.filter fun c => closesNow z byRecord rise c &&
          decide ((testedA s (closeZone z c)).state = .settled)).map fun c => c.number := by
  unfold applyClosures
  dsimp only
  let f : Case → Case := fun c => if closesNow z byRecord rise c then closeZone z c else c
  have hf : ∀ c, (f c).number = c.number := fun c => by simp only [f]; split <;> rfl
  let s1 : State := { s with cases := s.cases.map f }
  have hr : NumbersRise s1 := numbersRise_map hs hf rfl
  have hn : (closingCases z byRecord rise s).Nodup := by
    unfold closingCases
    refine (List.Pairwise.map _ (fun a b (h : a.number < b.number) => by omega) (hs.filter _))
  have hmem : ∀ c ∈ s.cases, c.number ∈ closingCases z byRecord rise s ↔ closesNow z byRecord rise c = true := by
    intro c hc
    unfold closingCases
    rw [List.mem_map]
    constructor
    · rintro ⟨d, hd, e⟩
      rw [List.mem_filter] at hd
      rw [← eq_of_number hs hd.1 hc e]; exact hd.2
    · intro h
      exact ⟨c, List.mem_filter.mpr ⟨hc, h⟩, rfl⟩
  obtain ⟨h1, h2⟩ := triggerA_foldl hr (closingCases z byRecord rise s) hn
  have ht : ∀ c, testedA s1 c = testedA s c := testedA_congr rfl rfl
  refine ⟨?_, ?_⟩
  · refine h1.trans ?_
    show (s.cases.map f).map _ = _
    rw [List.map_map]
    refine List.map_congr_left fun c hc => ?_
    simp only [Function.comp, hf, ht, hmem c hc]
    by_cases h : closesNow z byRecord rise c = true
    · simp [f, h]
    · simp [f, h]
  · refine h2.trans ?_
    congr 1
    unfold closingCases
    rw [List.filter_map, List.filter_filter]
    congr 1
    refine List.filter_congr fun c hc => ?_
    simp only [Function.comp]
    by_cases h : closesNow z byRecord rise c = true
    · have hm : f c ∈ s1.cases := List.mem_map_of_mem hc
      have hfind := findCase_of_mem hr hm
      rw [hf] at hfind
      rw [hfind]
      simp only [ht, h, Bool.and_true, Bool.true_and, f, if_true]
      have hns : (closeZone z c).state ≠ .settled := by
        unfold closesNow at h
        simp only [Bool.and_eq_true, decide_eq_true_eq] at h
        exact h.1.1
      simp [hns]
    · simp [h]

end Sys2Proof.Machine
end

