-- ==== Sys2Proof/Laws/Requests.lean ====
section
/-! SUPPORT. What the taking of a request can do, said once: which state and which answer follow from the checks it passes or
fails. A proof about one request cites `completes_of` (or `refuses_of`) and then speaks of the request's own handler alone. -/

namespace Sys2Proof.Machine

/-! ### The time floor -/

/-- stampFloor changes the clock's floor and its age, and nothing else. -/
theorem stampFloor_cases (s t : State) :
    stampFloor s t = t ∨
      ∃ n, t.clock.second = some n ∧ s.cases.map storedCase ≠ t.cases.map storedCase ∧
        stampFloor s t = { t with clock := { t.clock with floor := n, floorAge := 0 } } := by
  unfold stampFloor
  split
  · exact .inl rfl
  · rename_i n hn
    split
    · exact .inl rfl
    · exact .inr ⟨n, hn, ‹_›, rfl⟩

/-- Where the cases stand as they stood, the floor stays. -/
theorem stampFloor_of_cases (s t : State) (h : t.cases = s.cases) : stampFloor s t = t := by
  unfold stampFloor; split
  · rfl
  · simp [h]

/-- Where a stored case differs, the floor of a set clock becomes its second. -/
theorem stampFloor_of_changed {s t : State} (h : s.cases.map storedCase ≠ t.cases.map storedCase)
    (hc : t.clock = s.clock) : stampFloor s t = { t with clock := stamped s.clock } := by
  unfold stampFloor stamped
  rw [hc]
  cases hn : s.clock.second
  · simp [← hc]
  · simp only [if_neg h]; simp [State.modClock, hc, hn]

/-- Where the stored cases stand as they stood, the floor stays. -/
theorem stampFloor_of_stored {s t : State} (h : s.cases.map storedCase = t.cases.map storedCase) : stampFloor s t = t := by
  unfold stampFloor; split
  · rfl
  · rw [if_pos h]

/-- The floor stays or becomes the second of a set clock. -/
theorem stampFloor_clock {s t : State} (hc : t.clock = s.clock) :
    (stampFloor s t).clock = s.clock ∨ (stampFloor s t).clock = stamped s.clock := by
  by_cases h : s.cases.map storedCase = t.cases.map storedCase
  · exact .inl (by rw [stampFloor_of_stored h, hc])
  · exact .inr (by rw [stampFloor_of_changed h hc])

@[simp] theorem stampFloor_self (s : State) : stampFloor s s = s := stampFloor_of_cases s s rfl

@[simp] theorem stampFloor_terminal (s t : State) : (stampFloor s t).terminal = t.terminal := by
  unfold stampFloor; (repeat' split) <;> rfl
@[simp] theorem stampFloor_links (s t : State) : (stampFloor s t).links = t.links := by
  unfold stampFloor; (repeat' split) <;> rfl
@[simp] theorem stampFloor_channels (s t : State) : (stampFloor s t).channels = t.channels := by
  unfold stampFloor; (repeat' split) <;> rfl
@[simp] theorem stampFloor_cases_eq (s t : State) : (stampFloor s t).cases = t.cases := by
  unfold stampFloor; (repeat' split) <;> rfl
@[simp] theorem stampFloor_nextCase (s t : State) : (stampFloor s t).nextCase = t.nextCase := by
  unfold stampFloor; (repeat' split) <;> rfl
@[simp] theorem stampFloor_concession (s t : State) : (stampFloor s t).concession = t.concession := by
  unfold stampFloor; (repeat' split) <;> rfl
@[simp] theorem stampFloor_hotlist (s t : State) : (stampFloor s t).hotlist = t.hotlist := by
  unfold stampFloor; (repeat' split) <;> rfl
@[simp] theorem stampFloor_zones (s t : State) : (stampFloor s t).zones = t.zones := by
  unfold stampFloor; (repeat' split) <;> rfl
@[simp] theorem stampFloor_ports (s t : State) : (stampFloor s t).ports = t.ports := by
  unfold stampFloor; (repeat' split) <;> rfl
@[simp] theorem stampFloor_signing (s t : State) : (stampFloor s t).signing = t.signing := by
  unfold stampFloor; (repeat' split) <;> rfl
@[simp] theorem stampFloor_second (s t : State) : (stampFloor s t).clock.second = t.clock.second := by
  unfold stampFloor; (repeat' split) <;> rfl
@[simp] theorem stampFloor_announcedDay (s t : State) :
    (stampFloor s t).clock.announcedDay = t.clock.announcedDay := by
  unfold stampFloor; (repeat' split) <;> rfl
@[simp] theorem stampFloor_settings (s t : State) : (stampFloor s t).settings = t.settings := by
  unfold stampFloor; (repeat' split) <;> rfl
@[simp] theorem stampFloor_choices (s t : State) : (stampFloor s t).choices = t.choices := by
  unfold stampFloor; (repeat' split) <;> rfl
@[simp] theorem stampFloor_pending (s t : State) : (stampFloor s t).pending = t.pending := by
  unfold stampFloor; (repeat' split) <;> rfl

/-- ATTN depends on the channels alone (R183). -/
theorem attn_of_channels {s t : State} (h : s.channels = t.channels) : attn s = attn t := by
  unfold attn; rw [h]

/-! ### The checks (R188, R176) -/

/-- A request that reaches its own checks is handled by them. -/
theorem handle_of_reaches {k : Kind} {r : Request} {l : LinkId} {rest : List BufferPlace} {s : State} (h : Handler)
    (hr : Reaches k r l rest s) : handle k h r s = h l r.body s := by
  obtain ⟨⟨_, hlen, hflags⟩, hl, hactive, hright⟩ := hr
  simp only [handle, frameStatus, linkStatus, hlen, hflags, hl, hactive, hright]
  simp

/-- The state a taken frame leaves when the work keeps the terminal port. -/
theorem takeFrame_eq {f : Frame} {work : State → State × Reply} {rest : List BufferPlace} {s : State}
    (hb : behindFrame f s.terminal = some rest) (ht : (work s).1.terminal = s.terminal) :
    takeFrame f work s =
      { stampFloor s (work s).1 with
        terminal :=
          { s.terminal with
            buffer := ⟨f, some ⟨f.link, f.kind, f.tag, s.terminal.overrunFlag, attn (stampFloor s (work s).1),
              (work s).2⟩⟩ :: rest
            overrunFlag := false } } := by
  simp only [takeFrame, hb, placeAnswer, State.modTerminal, formAnswer, stampFloor_terminal, ht]

/-- A request that reaches its handler completes with the handler's state, the floor stamped, and the handler's reply. -/
theorem completes_of {k : Kind} {h : Handler} {r : Request} {l : LinkId} {rest : List BufferPlace} {s t : State}
    {reply : Reply} (hx : exec (requestCommand k r) s = .next (take k h r s)) (hr : Reaches k r l rest s)
    (hh : h l r.body s = (t, reply)) (ht : t.terminal = s.terminal) :
    Completes k r rest s (stampFloor s t) reply := by
  have hw : handle k h r s = (t, reply) := (handle_of_reaches h hr).trans hh
  rw [Completes, hx, take, takeFrame_eq hr.1.1 (by rw [hw]; exact ht), hw]
  rfl

/-- The same where the cases stand as they stood, so that the floor stays. -/
theorem completes_of_cases {k : Kind} {h : Handler} {r : Request} {l : LinkId} {rest : List BufferPlace} {s t : State}
    {reply : Reply} (hx : exec (requestCommand k r) s = .next (take k h r s)) (hr : Reaches k r l rest s)
    (hh : h l r.body s = (t, reply)) (ht : t.terminal = s.terminal) (hc : t.cases = s.cases) :
    Completes k r rest s t reply := by
  have h := completes_of hx hr hh ht
  rwa [stampFloor_of_cases s t hc] at h

/-- A request whose checks end in a refusal leaves the state, but for its answer. -/
theorem refuses_of {k : Kind} {h : Handler} {r : Request} {rest : List BufferPlace} {s : State} {st : Status}
    (hx : exec (requestCommand k r) s = .next (take k h r s))
    (hb : behindFrame (r.frame (kindByte k)) s.terminal = some rest) (hh : handle k h r s = refuse st s) :
    Completes k r rest s s ⟨st, .none⟩ := by
  rw [Completes, hx, take, takeFrame_eq hb (by rw [hh]; rfl), hh]
  simp [refuse, answeredTerminal, answerTo, Request.frame]

/-- A frame that is not next leaves the state as it is (log entry 4). -/
theorem takeFrame_of_not_next {f : Frame} {work : State → State × Reply} {s : State}
    (hb : behindFrame f s.terminal = none) : takeFrame f work s = s := by
  simp only [takeFrame, hb]

end Sys2Proof.Machine
end

