-- ==== Sys2Proof/Laws/Jobs.lean ====
section
/-! SUPPORT. The ends of a job, one lemma for each: what the shared operation leaves when a job fails, when a card is activated, and
when the old card was read. -/

namespace Sys2Proof.Machine

/-! ### A port's request (R166, R169) -/

/-- The request of an ISSUE job that entered WRITE (R146, R152). -/
theorem requestGrant_writes {s : State} {p : Port} {k : Job} {c : Case} {fig : IssueFigures} (hk : (s.port p).job = some k)
    (hp : k.phase ≠ .mark) (hc : s.findCase k.caseNo = some c) (hfig : c.issue = some fig) :
    AsksForGrant p k (writeOf (k.target.getD 0) k fig) s (requestGrant (.port p) s) := by
  have hk' : (s.ports.get p).job = some k := hk
  have he : { s.ports.get p with job := some k } = s.ports.get p := by rw [← hk']
  unfold requestGrant
  cases hg : s.signing.grantee with
  | some m =>
    refine ⟨fun _ => ?_, fun h => (by rw [hg] at h; cases h)⟩
    simp only [State.modSigning, State.port, he, ports_set_get]
  | none =>
    refine ⟨fun h => absurd hg h, fun _ => ?_⟩
    have hc' : s.cases.find? (fun c => c.number = k.caseNo) = some c := hc
    simp only [grant, beginGrant, State.modSigning, State.modJob, State.modPort, State.setPort, State.port, ports_get_set, if_true,
      ports_set_set, hk', Option.map_some, Option.bind_some, if_neg hp, sendWrite, State.findCase, hc', hfig, sendCommand,
      writeCodeNow, writeOf]

/-- The request of a RECOVER job that entered MARK (R154, R155). -/
theorem requestGrant_marks {s : State} {p : Port} {k : Job} {read : ReadContents} (hk : (s.port p).job = some k)
    (hp : k.phase = .mark) (hr : k.contents = some read) :
    AsksForGrant p k (markOfContents (k.target.getD 0) read) s (requestGrant (.port p) s) := by
  have hk' : (s.ports.get p).job = some k := hk
  have he : { s.ports.get p with job := some k } = s.ports.get p := by rw [← hk']
  unfold requestGrant
  cases hg : s.signing.grantee with
  | some m =>
    refine ⟨fun _ => ?_, fun h => (by rw [hg] at h; cases h)⟩
    simp only [State.modSigning, State.port, he, ports_set_get]
  | none =>
    refine ⟨fun h => absurd hg h, fun _ => ?_⟩
    simp only [grant, beginGrant, State.modSigning, State.modJob, State.modPort, State.setPort, State.port, ports_get_set, if_true,
      ports_set_set, hk', Option.map_some, Option.bind_some, hp, sendMark, sendCommand, writeCodeNow, markContent, hr,
      markOfContents, markSegment]

/-! ### The end of a job -/

/-- The ports after port `p` lost its job and its command, with its hold on the signing unit given up. -/
abbrev withoutJob (p : Port) (s : State) : State :=
  (giveUpSigning p s).modPort p fun r => { r with outstanding := none, job := none }

/-- What the end of a job without success leaves before a settle due mark is taken (R158, R33). -/
theorem endJob_failed {s : State} {p : Port} {j : Job} {c : Case} (o : JobOutcome) (hj : (s.port p).job = some j)
    (hc : s.findCase j.caseNo = some c) (hi : issueSucceeded o = false) (hr : recoverySucceeded o = false) :
    ∃ v, JobFails p o j c s v ∧
      endJob p o s =
        match j.kind with
        | .issue _ => retentionTest j.caseNo (takeDue j.caseNo v)
        | .recover => takeDue j.caseNo v := by
  have hn := findCase_number hc
  have hf : (reportOn j.caseNo (jobReport p o j) (withoutJob p s)) =
      State.caseReport c.owner (failureReport p o j c) (withoutJob p s) := by
    rw [reportOn_of_find _ ((findCase_of_cases (by simp) _).trans hc)]
    congr 1
    unfold jobReport failureReport reportedFigures reportedResidue
    cases j.kind with
    | issue t => simp only [hi]; split <;> simp <;> split <;> rfl
    | recover => simp [hr]
  refine ⟨_, ⟨giveUpSigning p s, giveUpSigning_givesUp p s, rfl⟩, ?_⟩
  unfold endJob
  rw [hj]
  dsimp only
  rw [hf]
  unfold applyOutcome
  have hv : (State.caseReport c.owner (failureReport p o j c) (withoutJob p s)).modCase j.caseNo (fun c => { c with job := none }) = 
      { giveUpSigning p s with
        ports := (giveUpSigning p s).ports.set p { (giveUpSigning p s).port p with job := none, outstanding := none }
        cases := s.cases.map fun d => if d.number = c.number then { d with job := none } else d
        channels := withReport s.links[c.owner].channel
          ⟨some c.owner, s.links[c.owner].station, failureReport p o j c⟩ s.channels } := by
    have e := caseReport_withReport (withoutJob p s) c.owner (failureReport p o j c)
    simp only [modPort_channels, modPort_links, giveUpSigning_channels, giveUpSigning_links] at e
    rw [← hn]
    simp only [State.modCase]
    rw [← e]
    simp [State.modPort, State.setPort, State.caseReport, State.queueReport, State.setChannel]
  cases hk : j.kind with
  | issue t => dsimp only; rw [hi, if_neg (by simp), hv]
  | recover =>
    dsimp only; rw [hr, hv]

theorem JobFails.cases_eq {p : Port} {o : JobOutcome} {j : Job} {c : Case} {s v : State} (h : JobFails p o j c s v) :
    v.cases = s.cases.map fun d => if d.number = c.number then { d with job := none } else d := by
  obtain ⟨u, _, rfl⟩ := h; rfl

/-- Giving up the signing unit touches it and the ports alone (R167, R172). -/
theorem GivesUp.frame {p : Port} {s u : State} (h : GivesUp p s u) : u = { s with signing := u.signing, ports := u.ports } := by
  by_cases hg : s.signing.grantee = some (.port p)
  · obtain ⟨h0, hm⟩ := h.1 hg
    by_cases hw : s.signing.waiting = {}
    · rw [h0 hw]
    · cases hp : pick s.settings.mode s.signing with
      | none => exact absurd ((pick_none_iff _ _).mp hp) hw
      | some m =>
        rw [hm m (isNext_of_pick hp)]
        have hb := grant_base ({ s with signing := { s.signing with grantee := none, context := none, computation := none } }) m
        simp only [State.base, Prod.mk.injEq] at hb
        obtain ⟨b1, b2, b3, b4, b5, b6, b7, b8⟩ := hb
        rcases hq : grant m { s with signing := { s.signing with grantee := none, context := none, computation := none } } with ⟨⟩
        have e1 := grant_cases ({ s with signing := { s.signing with grantee := none, context := none, computation := none } }) m
        have e2 := grant_channels ({ s with signing := { s.signing with grantee := none, context := none, computation := none } }) m
        have e3 := grant_hotlist ({ s with signing := { s.signing with grantee := none, context := none, computation := none } }) m
        have e4 := grant_zones ({ s with signing := { s.signing with grantee := none, context := none, computation := none } }) m
        simp only [hq] at b1 b2 b3 b4 b5 b6 b7 b8 e1 e2 e3 e4
        simp only [b1, b2, b3, b4, b5, b6, b7, b8, e1, e2, e3, e4]
  · rw [h.2 hg]

theorem JobFails.frame {p : Port} {o : JobOutcome} {j : Job} {c : Case} {s v : State} (h : JobFails p o j c s v) :
    v = { s with signing := v.signing, ports := v.ports, cases := v.cases, channels := v.channels } := by
  obtain ⟨u, hu, rfl⟩ := h
  rw [hu.frame]

theorem JobFails.findCase {p : Port} {o : JobOutcome} {j : Job} {c : Case} {s v : State} (h : JobFails p o j c s v)
    {n : Nat} (hc : s.findCase n = some c) : v.findCase n = some { c with job := none } := by
  have hn := findCase_number hc
  have e : v.cases = (s.modCase n fun c => { c with job := none }).cases := by
    rw [h.cases_eq, hn]; rfl
  rw [findCase_of_cases e, findCase_modCase (f := fun c => { c with job := none }) (fun _ => rfl), hc]; rfl

/-- Nothing due: the case keeps what the failed job left (R33, R35, R37). -/
theorem endJob_fails {s : State} {p : Port} {j : Job} {c : Case} (o : JobOutcome) (hj : (s.port p).job = some j)
    (hc : s.findCase j.caseNo = some c) (hi : issueSucceeded o = false) (hr : recoverySucceeded o = false)
    (hd : NothingDue c s) : JobFails p o j c s (endJob p o s) := by
  obtain ⟨v, hv, e⟩ := endJob_failed o hj hc hi hr
  have hf := hv.findCase hc
  have ht : takeDue j.caseNo v = v := by unfold takeDue; rw [hf]; simp [hd.1]
  rw [ht] at e
  have hret : retentionTest j.caseNo v = v := by
    unfold retentionTest; rw [hf]
    dsimp only
    rw [if_neg]
    intro ⟨h1, h2, _, h4⟩
    have hfr := hv.frame
    have hs : v.settings = s.settings := by rw [hfr]
    have hcl : v.clock = s.clock := by rw [hfr]
    rw [hs, hcl] at h2
    rw [hcl] at h1
    unfold retentionReached at h2
    unfold statementPending at h4
    simp only at h2 h4
    cases hset : c.settlement with
    | none => simp [hset] at h2
    | some f =>
      simp only [hset] at h2 h4
      simp only [decide_eq_true_eq] at h2
      have := hd.2 f h2.1 hset h1 h2.2
      rw [this] at h4; cases h4
  rw [hret] at e
  have : endJob p o s = v := by rw [e]; split <;> rfl
  rw [this]; exact hv

/-- A change of one case that alters its stored fields alters the stored table. -/
theorem storedCases_ne {l : List Case} {f : Case → Case} {c : Case} (hc : c ∈ l) (h : storedCase c ≠ storedCase (f c)) :
    l.map storedCase ≠ (l.map f).map storedCase := by
  intro e
  rw [List.map_map] at e
  exact h (List.map_inj_left.mp e c hc)

/-- An ISSUE job that activated a card, up to the settle due mark and the retention test behind it (R158, R159, R32). -/
theorem endJob_issued {s : State} {p : Port} {j : Job} {c : Case} {target : Family} {fig : IssueFigures} (o : JobOutcome)
    (hj : (s.port p).job = some j) (hk : j.kind = .issue target) (hc : s.findCase j.caseNo = some c)
    (hi : issueSucceeded o = true) (hfig : c.issue = some fig)
    (hst : c.state = .watch ∨ (c.state = .settled ∧ c.newCard = none))
    (huniq : ∀ d ∈ s.cases, d.number = c.number → d = c) :
    ∃ v : State, endJob p o s = retentionTest j.caseNo (takeDue j.caseNo v) ∧ v.clock = s.clock ∧ v.settings = s.settings ∧
      v.findCase j.caseNo = some { c with
        job := none, newCard := some ⟨fig.serial, fig.family⟩
        state := if c.state = .watch then .holding else c.state
        settlement :=
          if c.state = .settled then c.settlement.map fun f => { f with residue := some (lateResidue f fig) }
          else c.settlement } ∧
      s.cases.map storedCase ≠ v.cases.map storedCase ∧
      JobIssues p o target j c fig s { v with clock := stamped s.clock } := by
  have hn := findCase_number hc
  let issued : Case := { c with
            job := none, newCard := some ⟨fig.serial, fig.family⟩
            state := if c.state = .watch then .holding else c.state
            settlement :=
              if c.state = .settled then c.settlement.map fun f => { f with residue := some (lateResidue f fig) }
              else c.settlement }
  let rep : ReportBody := .issueDone j.caseNo p o target j.target j.nextSegment c.attempts (if j.target.isSome then some fig else none)
            (if c.state = .settled then c.settlement.map fun f => lateResidue f fig else none)
  let v : State := { giveUpSigning p s with
      ports := (giveUpSigning p s).ports.set p { (giveUpSigning p s).port p with job := none, outstanding := none }
      cases := s.cases.map fun d => if d.number = c.number then issued else d
      channels := withReport s.links[c.owner].channel ⟨some c.owner, s.links[c.owner].station, rep⟩ s.channels }
  have hcv : v.cases = s.cases.map fun d => if d.number = c.number then issued else d := rfl
  have hclk : v.clock = s.clock := by simp [v]
  have hset : v.settings = s.settings := by simp [v]
  have hne : s.cases.map storedCase ≠ v.cases.map storedCase := by
    rw [hcv]
    refine storedCases_ne (findCase_mem hc) ?_
    rw [if_pos rfl]
    intro e
    rcases hst with h | ⟨h, h2⟩
    · have := congrArg (fun c => c.state) e
      simp [storedCase, issued, h] at this
    · have := congrArg (fun c => c.newCard) e
      simp [storedCase, issued, h2] at this
  have hfv : v.findCase j.caseNo = some issued := by
    have e : v.cases = (s.modCase j.caseNo fun _ => issued).cases := by rw [hcv, hn]; rfl
    rw [findCase_of_cases e]
    exact findCase_replaced hc hn
  have hend : endJob p o s = retentionTest j.caseNo (takeDue j.caseNo v) := by
    have hrep : (reportOn j.caseNo (jobReport p o j) (withoutJob p s)) =
        State.caseReport c.owner rep (withoutJob p s) := by
      rw [reportOn_of_find _ ((findCase_of_cases (by simp) _).trans hc)]
      congr 1
      unfold jobReport reportedFigures reportedResidue
      rw [hk]
      simp only [hi, hfig, rep]
      congr 1
      cases c.settlement with
      | none => simp
      | some f => simp
    unfold endJob
    rw [hj]
    dsimp only
    rw [hrep]
    unfold applyOutcome
    rw [hk]
    dsimp only
    rw [hi, if_pos rfl]
    have hv : ((State.caseReport c.owner rep (withoutJob p s)).modCase j.caseNo (fun c => { c with job := none })).modCase j.caseNo issuedCase = v := by
      have e := caseReport_withReport (withoutJob p s) c.owner rep
      simp only [modPort_channels, modPort_links, giveUpSigning_channels, giveUpSigning_links] at e
      have hcs : (((State.caseReport c.owner rep (withoutJob p s)).modCase j.caseNo (fun c => { c with job := none })).modCase j.caseNo issuedCase).cases = v.cases := by
        rw [hcv]
        simp only [modCase_cases, caseReport_cases, modPort_cases, giveUpSigning_cases, List.map_map]
        refine List.map_congr_left fun d hd => ?_
        simp only [Function.comp, hn]
        by_cases h : d.number = j.caseNo
        · have hdc := huniq d hd (h.trans hn.symm)
          subst hdc
          simp [h, issuedCase, hfig, issued]
        · simp [h]
      have e2 : (((State.caseReport c.owner rep (withoutJob p s)).modCase j.caseNo (fun c => { c with job := none })).modCase j.caseNo issuedCase) =
          { (State.caseReport c.owner rep (withoutJob p s)) with cases := v.cases } := by
        rw [← hcs]; rfl
      rw [e2]
      simp only [v]
      rw [← e]
      simp [State.modPort, State.setPort, State.caseReport, State.queueReport, State.setChannel]
    rw [hv]
  exact ⟨v, hend, hclk, hset, hfv, hne, giveUpSigning p s, giveUpSigning_givesUp p s, rfl⟩

/-- An ISSUE job that activated a card, with nothing due behind it (R158, R159, R32). -/
theorem endJob_issues {s : State} {p : Port} {j : Job} {c : Case} {target : Family} {fig : IssueFigures} (o : JobOutcome)
    (hj : (s.port p).job = some j) (hk : j.kind = .issue target) (hc : s.findCase j.caseNo = some c)
    (hi : issueSucceeded o = true) (hfig : c.issue = some fig)
    (hst : c.state = .watch ∨ (c.state = .settled ∧ c.newCard = none)) (hd : NothingDue c s)
    (huniq : ∀ d ∈ s.cases, d.number = c.number → d = c) :
    JobIssues p o target j c fig s (stampFloor s (endJob p o s)) := by
  obtain ⟨v, hend, hclk, hset, hfv, hne, hji⟩ := endJob_issued o hj hk hc hi hfig hst huniq
  have ht : takeDue j.caseNo v = v := by unfold takeDue; rw [hfv]; simp [hd.1]
  have hret : retentionTest j.caseNo v = v := by
    unfold retentionTest; rw [hfv]
    dsimp only
    rw [if_neg]
    intro ⟨h1, h2, _, h4⟩
    rw [hset, hclk] at h2
    rw [hclk] at h1
    rcases hst with h | ⟨h, h2'⟩
    · unfold retentionReached at h2
      split at h2
      · cases h2
      · simp [h] at h2
    · unfold retentionReached at h2
      unfold statementPending at h4
      simp only [h] at h2 h4
      cases hse : c.settlement with
      | none => simp [hse] at h2
      | some f =>
        simp [hse] at h2 h4
        have := hd.2 f h hse h1 h2
        rw [this] at h4; cases h4
  rw [hend, ht, hret, stampFloor_of_changed hne hclk]
  exact hji

/-- A RECOVER job that ends with its reads complete (R158, R160, R34). -/
theorem endJob_recovers {s : State} {p : Port} {j : Job} {c : Case} {read : ReadContents} (o : JobOutcome)
    (hj : (s.port p).job = some j) (hk : j.kind = .recover) (hc : s.findCase j.caseNo = some c)
    (hr : recoverySucceeded o = true) (hread : j.contents = some read) (hst : c.state ≠ .settled) :
    JobRecovers p o (markStatus o read) j c read s (stampFloor s (endJob p o s)) := by
  have hn := findCase_number hc
  let u := giveUpSigning p s
  let w : State := { u with
      ports := u.ports.set p { u.port p with job := none, outstanding := none }
      cases := s.cases.map fun d => if d.number = c.number then { d with job := none } else d
      channels := withReport s.links[c.owner].channel
        ⟨some c.owner, s.links[c.owner].station, .recoverDone j.caseNo p o j.target (some read) (some (markStatus o read))⟩ s.channels }
  have hend : endJob p o s = settleFromCard read j.caseNo w := by
    have hrep : (reportOn j.caseNo (jobReport p o j) (withoutJob p s)) =
        State.caseReport c.owner (.recoverDone j.caseNo p o j.target (some read) (some (markStatus o read))) (withoutJob p s) := by
      rw [reportOn_of_find _ ((findCase_of_cases (by simp) _).trans hc)]
      congr 1
      unfold jobReport
      rw [hk]
      simp [hr, hread]
    unfold endJob
    rw [hj]
    dsimp only
    rw [hrep]
    unfold applyOutcome
    rw [hk]
    dsimp only
    rw [hr, hread]
    dsimp only
    congr 1
    have e := caseReport_withReport (withoutJob p s) c.owner (.recoverDone j.caseNo p o j.target (some read) (some (markStatus o read)))
    simp only [modPort_channels, modPort_links, giveUpSigning_channels, giveUpSigning_links] at e
    simp only [w, u, hn]
    rw [← e]
    simp [State.modPort, State.setPort, State.caseReport, State.queueReport, State.setChannel, State.modCase]
  have hclk : (settleFromCard read j.caseNo w).clock = s.clock := by simp [w, u]
  have hcs : (settleFromCard read j.caseNo w).cases = s.cases.map fun d =>
        if d.number = c.number then
          { d with
            job := none, settlement := some (cardSettlement read s.clock.announcedDay { d with job := none })
            state := .settled, review := ⟨false, false, false⟩, settleDue := none }
        else d := by
    simp only [settleFromCard, settleWith, queueStatement, requestStatement_cases, modSigning_cases, modCase_cases, w, List.map_map]
    refine List.map_congr_left fun d _ => ?_
    simp only [Function.comp, hn]
    by_cases h : d.number = j.caseNo
    · simp [h, settledCase, u]
    · simp [h]
  have hne : s.cases.map storedCase ≠ (settleFromCard read j.caseNo w).cases.map storedCase := by
    rw [hcs]
    refine storedCases_ne (findCase_mem hc) ?_
    rw [if_pos rfl]
    intro e
    have := congrArg (fun c => c.state) e
    exact hst this
  rw [hend, stampFloor_of_changed hne hclk]
  refine ⟨u, headStatement ((w.modCase j.caseNo fun c => settledCase (cardSettlement read w.clock.announcedDay c) c).modSigning fun u => { u with queue := u.queue ++ [j.caseNo] }), giveUpSigning_givesUp p s, ?_⟩
  dsimp only
  rw [← hcs]
  unfold settleFromCard settleWith queueStatement
  rw [requestStatement_eq]
  have hq : ((w.modCase j.caseNo fun c => settledCase (cardSettlement read w.clock.announcedDay c) c).modSigning fun u => { u with queue := u.queue ++ [j.caseNo] }).signing = { u.signing with queue := u.signing.queue ++ [c.number] } := by
    rw [hn]; rfl
  rw [hq]
  by_cases h : u.signing.waiting.statement = true ∨ u.signing.grantee = some .statement
  · rw [if_pos (by simp [h]), if_pos h, hn]; rfl
  · rw [if_neg (by simp [h]), if_neg h]; rfl
end Sys2Proof.Machine
end

