-- ==== Sys2Proof/Laws/Zones.lean ====
section
/-! SUPPORT. The zone feed unit's shared operations in the words of the statements: a raised count, and the open batch that a header
discards. -/

namespace Sys2Proof.Machine

@[simp] theorem zones_set_get (v : Vector Zone 12) (z : ZoneId) (r : Zone) : (v.set z r)[z] = r := by simp

@[simp] theorem zones_set_set (v : Vector Zone 12) (z : ZoneId) (r q : Zone) : (v.set z r).set z q = v.set z q := by
  ext i hi; simp only [Vector.getElem_set]; split <;> rfl

/-- A raised count, with what its threshold brings (R135). -/
theorem raiseError_eq (c : ErrorCount) (z : ZoneId) (s : State) : raiseError c z s = faultCounted c z s.zones[z] s := by
  unfold raiseError faultCounted countFlag
  simp only [State.modZone, State.setZone, zones_set_get, zones_set_set, decide_eq_true_eq]
  split
  · simp only [zoneReport, zones_set_get, discardToHunt, dayOf]
    cases s.clock.second <;> rfl
  · rfl

/-- A raised count after another change of the zone's record. -/
theorem raiseError_modZone (c : ErrorCount) (z : ZoneId) (f : Zone → Zone) (s : State) :
    raiseError c z (s.modZone z f) = faultCounted c z (f s.zones[z]) s := by
  rw [raiseError_eq]
  simp only [faultCounted, State.modZone, State.setZone, zones_set_get, zones_set_set]

/-- What a header finds (R126 step 2). -/
theorem discardForHeader_eq (z : ZoneId) (s : State) : discardForHeader z s = headerReady z s := by
  unfold discardForHeader headerReady
  split
  · rw [raiseError_modZone]; rfl
  · rfl

theorem faultCounted_cases (c : ErrorCount) (z : ZoneId) (r : Zone) (s : State) : (faultCounted c z r s).cases = s.cases := by
  unfold faultCounted; dsimp only; split <;> rfl

theorem faultCounted_terminal (c : ErrorCount) (z : ZoneId) (r : Zone) (s : State) :
    (faultCounted c z r s).terminal = s.terminal := by unfold faultCounted; dsimp only; split <;> rfl

theorem faultCounted_hotlist (c : ErrorCount) (z : ZoneId) (r : Zone) (s : State) :
    (faultCounted c z r s).hotlist = s.hotlist := by unfold faultCounted; dsimp only; split <;> rfl

end Sys2Proof.Machine
end

