-- ==== Sys2Proof/Machine/Layout.lean ====
section
/-! DEFINITION. The byte form of answers and reports (R188, R189, section 11.4): what stands on TTX for the answer at the head
of the receive buffer. It is read off the state and feeds back into nothing. Names that section 11.4 gives no code take
their place in the list of the rule that gives them (R189); the conventions the spec leaves open are those of log entry 23. -/

namespace Sys2Proof.Machine

/-! ### Names by place (R189) -/

/-- One byte. -/
def put1 (n : Nat) : List Byte := putNat 1 n
def put2 (n : Nat) : List Byte := putNat 2 n
def put3 (n : Nat) : List Byte := putNat 3 n
def put4 (n : Nat) : List Byte := putNat 4 n

/-- A card number (R189). -/
def putCardNo (n : Nat) : List Byte := putNat 6 n

/-- A card serial (R189). -/
def putSerial (s : Serial) : List Byte := putNat 7 s.toNat

/-- A package or statement code (R189). -/
def putCode (c : Code) : List Byte := putNat 8 c.toNat

/-- A zone set (R189). -/
def putZones (z : ZoneSet) : List Byte := put2 z.toNat

def putFamily (f : Family) : List Byte := put1 (familyCode f)
def putPort (p : Port) : List Byte := put1 (portCode p)
def putLink (l : LinkId) : List Byte := put1 (linkNumber l)
def putZoneNo (z : ZoneId) : List Byte := put1 (zoneNumber z)
def putCard (c : Card) : List Byte := putSerial c.serial ++ putFamily c.family

/-- Rights (R189). -/
def putRights (r : Rights) : List Byte :=
  put1 (r.opens.toNat + 2 * r.approve.toNat + 4 * r.feed.toNat + 8 * r.admin.toNat + 16 * r.grants.toNat)

/-- The review set, one byte with the weights 1, 2 and 4 for its reasons (log entry 23). -/
def putReview (r : Review) : List Byte :=
  put1 (r.conflict.toNat + 2 * r.chainFull.toNat + 4 * r.gapImplausible.toNat)

def putReason : Reason → List Byte
  | .conflict => put1 1 | .chainFull => put1 2 | .gapImplausible => put1 3

def putCaseState : CaseState → List Byte
  | .watch => put1 1 | .holding => put1 2 | .settled => put1 3

/-- The state at end (R38) and the case state at card check (R17): WATCH 1, SETTLED 2 by their places in those lists, in which
HOLDING does not stand: no case ends and no card is checked in it (R36, R37, R29). -/
def putEndState : CaseState → List Byte
  | .watch | .holding => put1 1 | .settled => put1 2

def putJobName : JobName → List Byte
  | .issue => put1 1 | .recover => put1 2

def putDue : Due → List Byte
  | .automatic => put1 1 | .forced => put1 2

def putSettlementKind : SettlementKind → List Byte
  | .exact => put1 1 | .presumed => put1 2 | .forced => put1 3 | .fromCard => put1 4

def putProductState : ProductState → List Byte
  | .notStarted => put1 1 | .active => put1 2 | .suspended => put1 3 | .expired => put1 4 | .depleted => put1 5

def putMatrixOutcome : MatrixOutcome → List Byte
  | .copy => put1 1 | .rangeFromDays => put1 2 | .startToday => put1 3 | .prorate => put1 4 | .clampTrips => put1 5
  | .drop => put1 6

def putJobOutcome : JobOutcome → List Byte
  | .issued => put1 1 | .issuedUnverified => put1 2 | .recovered => put1 3 | .recoveredUnmarked => put1 4
  | .cardRejected => put1 5 | .writeFailed => put1 6 | .tornTimeout => put1 7 | .aborted => put1 8
  | .portFenced => put1 9

def putMarkStatus : MarkStatus → List Byte
  | .written => put1 1 | .alreadyPresent => put1 2 | .notWritten => put1 3

def putPlace : Place → List Byte
  | .gap => put1 1 | .beyond => put1 2

def putErrorCount : ErrorCount → List Byte
  | .badSum => put1 1 | .gap => put1 2 | .unknownKind => put1 3 | .malformed => put1 4

def putZoneState : ZoneState → List Byte
  | .unused => put1 1 | .held => put1 2 | .hunt => put1 3 | .openBatch => put1 4 | .aligned => put1 5

def putRestartKind : RestartKind → List Byte
  | .powerOn => put1 1 | .deviceReset => put1 2 | .deviceErase => put1 3

def putLinkState : LinkState → List Byte
  | .free => put1 1 | .active => put1 2 | .suspended => put1 3

def putPackaging : Packaging → List Byte
  | .idle => put1 1 | .packaging => put1 2

def putMethod : SumMethod → List Byte
  | .field => put1 1 | .packed => put1 2

def putWriteMode : WriteMode → List Byte
  | .burst => put1 1 | .careful => put1 2

def putArbMode : ArbMode → List Byte
  | .rotating => put1 1 | .fixed => put1 2

def putPhase : Phase → List Byte
  | .waitingCard => put1 1 | .check => put1 2 | .write => put1 3 | .verify => put1 4 | .read => put1 5
  | .mark => put1 6 | .torn => put1 7

def putCheckMode : CheckMode → List Byte
  | .first => put1 1 | .afterTear => put1 2

/-- Which command is outstanding: its name alone, without its segment (log entry 23). -/
def putCommand : Command → List Byte
  | .sense => put1 1 | .read _ => put1 2 | .write .. => put1 3 | .mark _ => put1 4

def putChangeKind : ChangeKind → List Byte
  | .add => put1 1 | .remove => put1 2

/-! ### Records (section 11.4) -/

/-- The kind part of a product record. -/
def putFields : ProductFields → List Byte
  | .periodDays len start susp =>
    put2 len ++ put1 (start.isSome.toNat + 2 * susp.isSome.toNat) ++ put2 (start.getD 0) ++ put2 (susp.getD 0)
  | .periodRange a b => put2 a ++ put2 b ++ [0, 0, 0]
  | .carnet purchased remaining => put1 purchased ++ put1 remaining.toNat ++ [0, 0, 0, 0, 0]
  | .concession cls expiry => put1 cls ++ put2 expiry ++ [0, 0, 0, 0]

/-- A product record, 14 bytes. -/
def putProduct (p : Product) : List Byte :=
  put1 p.slot ++ put1 (kindNameCode (kindName p.fields)) ++ put3 p.price ++ putZones p.zones ++ putFields p.fields

/-- A snapshot record, 19 + 14n bytes. -/
def putSnapshot (s : Snapshot) : List Byte :=
  putCardNo s.cardNo ++ putFamily s.family ++ put3 s.counter ++ putInt s.purse ++ put2 s.day ++
    put1 s.products.length ++ (s.products.map putProduct).flatten ++ put2 s.check

/-- A card event record, 20 bytes. -/
def putEvent (e : CardEvent) : List Byte :=
  putCardNo e.cardNo ++ put3 e.counter ++ put1 (eventKindCode e.kind) ++ put3 e.amount ++ put1 e.slot ++ put2 e.day ++
    put2 e.minute ++ put2 e.device

/-- The five terms of a concession row (R65). -/
def putTerms (t : Terms) : List Byte :=
  put3 t.dailyCap ++ put1 t.exposureDays ++ put1 t.quietDays ++ put3 t.presumedFare ++ put1 t.holdbackTrips

/-- A result entry (R97). -/
def putResult (e : ResultEntry) : List Byte :=
  put1 e.slot ++ put1 (kindNameCode e.kind) ++ putProductState e.state ++ putMatrixOutcome e.outcome ++
    putOpt put1 e.newSlot ++ putMark e.unplaced ++ putOpt put1 e.writtenTrips ++ putOpt put1 e.givenTrips ++
    putOpt put3 e.tripValue ++ put3 e.value

/-- The issue figures an ISSUE DONE report carries (R159). -/
def putReportedFigures (f : IssueFigures) : List Byte :=
  put2 f.day ++ put3 f.advance ++ put3 f.prorated ++ put3 f.purse ++ put3 f.unplaced ++ putList putProduct f.written ++
    putList putResult f.results

/-- The last issue figures, as CASE QUERY returns them (R17, R41); each carnet's tv stands beside its T_w (R69, log entry 23). -/
def putIssueFigures (f : IssueFigures) : List Byte :=
  putSerial f.serial ++ putFamily f.family ++ put3 f.advance ++ put3 f.prorated ++ put3 f.purse ++ put3 f.unplaced ++
    putList putProduct f.written ++ putList (fun t => put1 t.slot ++ put1 t.given ++ put3 t.value) f.trips ++
    putList putResult f.results ++ put2 f.day ++ putEndState f.caseState

/-- A carnet's line; T_w has its presence byte in every line (R82, log entry 23). -/
def putCarnetLine (c : CarnetLine) : List Byte :=
  put1 c.slot ++ put3 c.value ++ putInt c.final ++ putOpt put1 c.given

/-- The settlement field, as CASE QUERY returns it (R17, R41); each carnet's tv stands beside its T_f (R69, log entry 23). -/
def putSettlement (f : Settlement) (carnets : List CarnetLine) : List Byte :=
  putSettlementKind f.kind ++ put2 f.day ++ put3 f.cmax ++ putInt f.kf ++
    putList (fun c => put1 c.slot ++ put3 c.value ++ putInt c.final) carnets ++ put3 f.gaps ++ put3 f.charge ++ put3 f.late ++
    putOpt putInt f.residue ++ putOpt put3 f.cardCounter ++ putMark f.statementPending ++ putOpt putCode f.code

/-! ### Reports (R38, R39, R82, R84, R112, R137, R159, R160, R161, R185) -/

/-- The report kind codes (section 11.4). -/
def reportKind : ReportBody → Nat
  | .issueDone .. => 1 | .recoverDone .. => 2 | .settlement .. => 3 | .adjustment .. => 4 | .caseReview .. => 5
  | .caseClosed .. => 6 | .zoneEvent .. => 7 | .portArrived .. | .portLeft .. | .portFenced .. => 8
  | .hotlistPackage .. => 9 | .restarted .. => 10

/-- The case number of a case report; 0 for a system report (section 11.4). -/
def reportCase : ReportBody → Nat
  | .issueDone n .. | .recoverDone n .. | .settlement n .. | .adjustment n .. | .caseReview n .. | .caseClosed n .. => n
  | .zoneEvent .. | .portArrived .. | .portLeft .. | .portFenced .. | .hotlistPackage .. | .restarted .. => 0

/-- The body of a PORT EVENT (R161). -/
def putPortEvent (p : Port) (cause : Nat) (card : Option Card) (caseNo : Option Nat) (timeouts : Nat)
    (clock : Option Nat) : List Byte :=
  putPort p ++ put1 cause ++ putOpt putCard card ++ putOpt put4 caseNo ++ put1 timeouts ++ putOpt put4 clock

/-- A conflict list entry: its counter and its event record (R44). -/
def putConflict (e : CardEvent) : List Byte := put3 e.counter ++ putEvent e

/-- What a recovery read (R160). -/
def putContents (r : ReadContents) : List Byte :=
  putList putProduct r.products ++ putInt ((r.purse.map fun b => b.1).getD 0) ++ put3 ((r.purse.map fun b => b.2).getD 0)

/-- The four error counts (R115). -/
def putCounts (c : ErrorCounts) : List Byte := put1 c.badSum ++ put1 c.gap ++ put1 c.unknownKind ++ put1 c.malformed

/-- The body of a report, in the order of its chapter's table (R189). What R160 adds on success, and A with X in R82, are groups
with one presence byte; one count byte serves R112's change count and its list; R185's clock set mark is the presence byte of its
second (log entry 23). -/
def putReportBody : ReportBody → List Byte
  | .issueDone n p o fam serial segments attempts figures residue =>
    put4 n ++ putPort p ++ putJobOutcome o ++ putFamily fam ++ putOpt putSerial serial ++ put1 segments ++
      put1 attempts ++ putOpt putReportedFigures figures ++ putOpt putInt residue
  | .recoverDone n p o serial contents mark =>
    put4 n ++ putPort p ++ putJobOutcome o ++ putOpt putSerial serial ++
      putOpt (fun x => putContents x.1 ++ putMarkStatus x.2)
        (contents.bind fun r => mark.map fun m => (r, m))
  | .settlement n f carnets advance unplaced shortfall =>
    put4 n ++ putSettlementKind f.kind ++ put2 f.day ++ put3 f.cmax ++ put3 f.gaps ++ put3 f.charge ++ putInt f.kf ++
      putList putCarnetLine carnets ++ put3 f.late ++ putMark f.hadCard ++
      putOpt (fun x => put3 x.1 ++ put3 x.2) (advance.bind fun a => unplaced.map fun x => (a, x)) ++
      putOpt putInt f.residue ++ putMark shortfall ++ putOpt put3 f.cardCounter ++ putCode (f.code.getD 0)
  | .adjustment n e place delta total cmax =>
    put4 n ++ put3 e.counter ++ put1 (eventKindCode e.kind) ++ put3 e.amount ++ put1 e.slot ++ put2 e.day ++
      putPlace place ++ putInt delta ++ putInt total ++ put3 cmax
  | .caseReview n reason review gaps cmax chainLength conflictLength conflictOverflow overflows duplicates =>
    put4 n ++ put1 (if reason.isSome then 1 else 2) ++ putOpt putReason reason ++ putReview review ++ put3 gaps ++
      put3 cmax ++ put1 chainLength ++ put1 conflictLength ++ put1 conflictOverflow ++ put1 overflows ++ put1 duplicates
  | .caseClosed n cancelled cardNo state day serial kind adjustment unclaimed =>
    put4 n ++ put1 (if cancelled then 1 else 2) ++ putCardNo cardNo ++ putEndState state ++ putOpt put2 day ++
      putOpt putSerial serial ++ putOpt putSettlementKind kind ++ putInt adjustment ++ putOpt (fun v => put3 v.toNat) unclaimed
  | .zoneEvent z count state counts threshold expected reached lastCommit dormant day =>
    putZoneNo z ++ put1 (if count.isSome then 1 else 2) ++ putOpt putErrorCount count ++ putZoneState state ++
      putCounts counts ++ put1 threshold ++ putOpt put4 expected ++ put4 reached ++ putOpt put2 lastCommit ++
      putMark dormant ++ putOpt put2 day
  | .portArrived p card timeouts clock => putPortEvent p 1 (some card) none timeouts clock
  | .portLeft p card timeouts clock => putPortEvent p 2 (some card) none timeouts clock
  | .portFenced p caseNo timeouts clock => putPortEvent p 3 none caseNo timeouts clock
  | .hotlistPackage gen changes adds removes ended untaken code =>
    put4 gen ++ putList (fun c => putChangeKind c.kind ++ putCardNo c.cardNo) changes ++ put1 adds ++ put1 removes ++
      put1 ended ++ put2 untaken ++ putCode code
  | .restarted kind clock => putRestartKind kind ++ putOpt put4 clock

/-- The report header and the report body (section 11.4). -/
def putReport (r : Report) : List Byte :=
  let body := putReportBody r.body
  put1 (reportKind r.body) ++ put1 ((r.owner.map linkNumber).getD 0) ++ put2 r.station ++ put4 (reportCase r.body) ++
    put2 body.length ++ body

/-! ### Answer fields (R188 and the rule of each request) -/

/-- The general settings (R193). -/
def putSettings (v : Settings) : List Byte :=
  put2 v.rolloverMinute ++ put1 v.autoCut ++ put2 v.retentionDays ++ putArbMode v.mode

/-- The SUMMARY part; its chain counts are those of `summaryOf` (R41, log entry 23). -/
def putSummary (c : CaseSummary) : List Byte :=
  put4 c.number ++ putLink c.owner ++ putCaseState c.state ++ put2 c.openDay ++ put1 c.cls ++ putTerms c.terms ++
    put2 c.quietEnd ++ putOpt put4 c.generation ++ putZones c.zonesClosed ++ putReview c.review ++
    putOpt (fun j => putJobName j.1 ++ putPort j.2) c.job ++ putOpt putDue c.settleDue ++ put1 c.attempts ++
    putOpt putCard c.newCard ++ putInt c.adjustment ++ putMark c.blockedSeen ++ put3 c.cmax ++ put3 c.gaps ++
    put1 c.chainLength ++ put1 c.duplicates ++ put1 c.overflows ++ put1 c.conflictLength ++ put1 c.conflictOverflow

/-- The hotlist unit's state in HOTLIST READ (R113). -/
def putHotlist (h : HotlistSummary) : List Byte :=
  put4 h.generation ++ putPackaging h.packaging ++ putOpt put4 h.bears ++ put2 h.pendingCount ++ put2 h.adds ++
    put2 h.removes ++ put1 h.taken ++ put2 h.masterCount ++ put2 h.published

/-- A zone record in ZONE STATUS, whose zone is the request's and is not sent (R124); the four flags of the error counts stand
together behind the four counts (log entry 23). -/
def putZoneReport (z : ZoneReport) : List Byte :=
  putZoneState z.state ++ putMethod z.method ++ put1 z.threshold ++ put1 z.dormancy ++
    putOpt put4 z.expected ++ put4 z.reached ++ putOpt put2 z.lastCommit ++ putMark z.dormant ++ putCounts z.counts ++
    putMark z.flags.1 ++ putMark z.flags.2.1 ++ putMark z.flags.2.2.1 ++ putMark z.flags.2.2.2 ++
    putOpt (fun b => put4 b.1 ++ put4 b.2.1 ++ put2 b.2.2.1 ++ put2 b.2.2.2.1 ++ put2 b.2.2.2.2) z.batch ++
    put4 z.committed ++ put4 z.matched ++ put4 z.unmatched

/-- The settings of a port (R140). -/
def putPortSettings (p : PortSettings) : List Byte :=
  putMark p.enabled ++ putWriteMode p.mode ++ put1 p.retryLimit ++ put1 p.fenceThreshold ++ put2 p.timeout ++
    put2 p.window

/-- A port's job in PORT STATUS; the hold on the signing unit is two marks inside it (R163, log entry 23). -/
def putJobReport (j : JobReport) : List Byte :=
  putJobName j.name ++ put4 j.caseNo ++ putPhase j.phase ++ putCheckMode j.mode ++ putOpt putSerial j.target ++
    put1 j.nextSegment ++ put1 j.retries ++ putMark j.abortPending ++ putOpt put4 j.tearEnd ++ putMark j.holdsGrant ++
    putMark j.waits

/-- A port record in PORT STATUS, whose port is the request's and is not sent (R163). -/
def putPortReport (p : PortReport) : List Byte :=
  putWriteMode p.mode ++ put1 p.retryLimit ++ put1 p.fenceThreshold ++ put2 p.timeout ++
    put2 p.window ++ putMark p.enabled ++ putMark p.fenced ++ put1 p.timeouts ++ putOpt putCard p.card ++
    putOpt putCommand p.command ++ putOpt putJobReport p.job

/-- A link record in LINK READ (R181). -/
def putLinkRecord (l : LinkId) (r : Link) : List Byte :=
  putLink l ++ putLinkState r.state ++ putRights r.rights ++ put1 r.channel.val ++ putOpt putLink r.creator ++
    put1 ((r.zone.map zoneNumber).getD 0) ++ put2 r.station

/-- The clock set mark, with the second and the service day when it is set (R192, R194, log entry 23). -/
def putClock (clock day : Option Nat) : List Byte :=
  putOpt (fun x => put4 x.1 ++ put2 x.2) (clock.bind fun t => day.map fun d => (t, d))

/-- DEVICE STATUS (R194); each channel's dropped count stands behind its number of reports (log entry 23). -/
def putDevice (d : DeviceReport) : List Byte :=
  putClock d.clock d.day ++ put4 d.floor ++ putSettings d.settings ++ put2 d.liveCases ++
    putOpt put4 d.nextCase ++ put4 d.generation ++ putPackaging d.packaging ++ put2 d.pendingCount ++
    put2 d.masterCount ++ put2 d.queueLength ++ put2 d.frameErrors ++ put2 d.overruns ++
    (d.ports.map fun p => putMark p.enabled ++ putMark p.fenced ++ putOpt putCard p.card ++
      putOpt (fun j => putJobName j.1 ++ put4 j.2.1 ++ putPhase j.2.2) p.job).flatten ++
    (d.zones.map fun z => putZoneState z.state ++ put4 z.reached ++ putMark z.dormant ++ putMark z.flagged).flatten ++
    (d.channels.map fun c => put1 c.1 ++ put1 c.2).flatten

/-- The clamped marks of an answer, a group after the values (log entry 23). -/
def putMarks (l : List Bool) : List Byte := (l.map putMark).flatten

/-- The fields of an answer after its status byte (R188). Where the rules leave a layout open it is that of log entry 23: the pending
mark of an abort taken at once is sent as 0 (R157); a published entry's add generation is sent without a presence byte, since every
entry of a MASTER page has one (R113); an answer marked "none" sends 0 in every place (R184). -/
def putFieldsOf : Fields → List Byte
  | .none => []
  | .caseOpened n cls quietEnd => put4 n ++ put1 cls ++ put2 quietEnd
  | .caseSummary c => putSummary c
  | .caseSnapshot s => putSnapshot s
  | .caseChain events n => putList putEvent events ++ put1 n
  | .caseConflicts entries n => putList putConflict entries ++ put1 n
  | .caseIssueFigures f => putOpt putIssueFigures f
  | .caseSettlement f carnets => putOpt (fun f => putSettlement f carnets) f
  | .caseList entries more =>
    putList (fun e => put4 e.number ++ putCaseState e.state ++ putLink e.owner) entries ++ putMark more
  | .resolved n st review listLength same overflow =>
    put4 n ++ putCaseState st ++ putReview review ++ put1 listLength ++ put1 same ++ put1 overflow
  | .abort pending => putMark pending
  | .concessionSet cls t marks => put1 cls ++ putTerms t ++ putMarks marks
  | .concessionTable rows => (rows.map putTerms).flatten
  | .hotlistCut gen adds removes untaken => put4 gen ++ put1 adds ++ put1 removes ++ put2 untaken
  | .hotlistMaster h page more =>
    putHotlist h ++ putList (fun e => putCardNo e.cardNo ++ put4 e.caseNo ++ put4 (e.addGen.getD 0)) page ++ putMark more
  | .hotlistPending h page more =>
    putHotlist h ++
      putList (fun c => putChangeKind c.kind ++ putCardNo c.cardNo ++ put4 c.caseNo ++ putMark c.taken) page ++
      putMark more
  | .zoneConfigured m threshold dormancy marks => putMethod m ++ put1 threshold ++ put1 dormancy ++ putMarks marks
  | .zoneCleared counts committed matched unmatched => putCounts counts ++ put4 committed ++ put4 matched ++ put4 unmatched
  | .zoneStatus z => putZoneReport z
  | .headerTaken n => put4 n
  | .expectedSequence e => put4 e
  | .recordsTaken held void => put2 held ++ put1 void
  | .batchMismatch count sum => put2 count ++ put2 sum
  | .batchCommitted n committed matched unmatched void reached expected closed =>
    put4 n ++ put2 committed ++ put2 matched ++ put2 unmatched ++ put2 void ++ put4 reached ++ putOpt put4 expected ++
      put2 closed
  | .portConfigured p marks => putPortSettings p ++ putMarks marks
  | .portUnfenced n => put1 n
  | .portStatus p => putPortReport p
  | .linkCreated l => putLink l
  | .linkDeleted n => put2 n
  | .linkRead l r children cases => putLinkRecord l r ++ put1 children ++ put2 cases
  | .report ch dropped left r => put1 ch.val ++ put1 dropped ++ put1 left ++ putReport r
  | .noReport => put1 0 ++ put1 0 ++ put1 0 ++ put1 0 ++ put1 0 ++ put2 0 ++ put4 0 ++ put2 0
  | .timeSet t day delivered => put4 t ++ put2 day ++ putMark delivered
  | .timeRead clock day floor minute => putClock clock day ++ put4 floor ++ put2 minute
  | .settings v marks => putSettings v ++ putMarks marks
  | .deviceStatus d => putDevice d

/-- The flags byte of an answer: the overrun flag at bit 0, the ATTN mark at bit 1 (R188). -/
def answerFlags (a : Answer) : Byte := BitVec.ofNat 8 (a.overrun.toNat + 2 * a.attn.toNat)

/-- The frame an answer stands in (R188, section 11.1). -/
def answerFrame (a : Answer) : Frame :=
  ⟨a.link, a.kind, a.tag, answerFlags a, BitVec.ofNat 8 (statusCode a.reply.status) :: putFieldsOf a.reply.fields⟩

/-- The bytes that the terminal port sends: those of the answer at the head of the receive buffer (R187). -/
def sending (s : State) : Option (List Byte) :=
  match s.terminal.buffer with
  | ⟨_, some a⟩ :: _ => some (frameBytes (answerFrame a))
  | _ => none

end Sys2Proof.Machine
end

