-- ==== Sys2Proof/Tests/Slice0.lean ====
section
/-! SUPPORT. Tests: ill-formed commands that the check refuses, one-step tests of the commands whose expected results are
worked by hand from the spec, and for each statement with hypotheses a state and operands that meet them. -/

namespace Sys2Proof.Tests

open Sys2Proof Sys2Proof.Machine

/-! ### Small states -/

/-- A request of link 1 with tag 7. -/
def ask (body : List Byte) : Request := ⟨1, 7, 0, body⟩

/-- A request of link 2, bound to zone 5, with tag 8. -/
def feed (body : List Byte) : Request := ⟨2, 8, 0, body⟩

/-- Reset with the clock set on day 100 (second 100 × 86400 + 180 × 60) and link 2 a FEED link bound to zone 5. -/
def running : State :=
  { State.reset with
    clock := ⟨some 8650800, 8650800, 0, 100⟩
    links := State.reset.links.set 1 ⟨.active, ⟨false, false, true, false, false⟩, 0, some 0, some 4, 0⟩ }

/-- A snapshot of card 777: Standard, S = 500, B0 = 3000, day 99, no products. -/
def snap : Snapshot := ⟨777, .standard, 500, 3000, 99, [], 0⟩

/-- Case 1 just opened for that card on day 100 with the default terms. -/
def watched : Case := newCase 1 0 100 0 Terms.default snap

/-- The running state with one case and the hotlist that goes with it. -/
def holdingOne (c : Case) : State :=
  { running with
    cases := [c], nextCase := some 2
    hotlist := ⟨[⟨777, c.number, c.generation⟩], [⟨.add, 777, c.number, false⟩], 0, .idle⟩ }

/-- The same state with one zone record replaced. -/
def withZone (z : ZoneId) (r : Zone) (s : State) : State := { s with zones := s.zones.set z r }

/-- The same state with the record of port A replaced. -/
def withPortA (r : PortRec) (s : State) : State := { s with ports := { s.ports with a := r } }

/-- A fresh zone record in a state of choice, error threshold 3. -/
def zoneIn (st : ZoneState) : Zone := { Zone.erased with state := st, threshold := 3 }

/-- A settlement of kind PRESUMED on day 100. -/
def presumed (pending : Bool) : Settlement := ⟨.presumed, 100, 500, 3000, [], 0, 0, 0, none, none, false, pending, none⟩

/-- Case 1 settled, without a new card. -/
def settledCase1 (pending : Bool) : Case := { watched with state := .settled, settlement := some (presumed pending) }

/-- An ISSUE job of case 1 for a Standard card. -/
def issuing (phase : Phase) : Job :=
  ⟨.issue .standard, 1, phase, .first, some 42, 0, 0, 0, false, none, none, []⟩

/-- A RECOVER job of case 1. -/
def recovering (phase : Phase) : Job := { issuing phase with kind := .recover }

/-- Port A with a card, a job and a command outstanding. -/
def working (j : Job) (cmd : Option Command) : PortRec :=
  { PortRec.erased with
    card := some ⟨42, .standard⟩, job := some j, outstanding := cmd.map fun c => ⟨c, some 8650800, 250⟩ }

/-- Case 1 with its job on port A and the issue figures of day 100. -/
def issued1 : Case :=
  { watched with job := some (.issue, .A), issue := some (issueFigures .standard 42 100 watched) }

/-- The running state with case 1 and a job of it at work on port A. -/
def atWork (j : Job) (cmd : Option Command) : State := withPortA (working j cmd) (holdingOne issued1)

/-- The status and fields of the answer at the head of the buffer. -/
def replyOf (o : Host.Outcome State Fault Refusal) : Option Reply :=
  match o with
  | .next t => t.terminal.buffer.head?.bind fun p => p.answer.map fun a => a.reply
  | .fault _ | .refused _ => none

/-- The status alone. -/
def statusOf (o : Host.Outcome State Fault Refusal) : Option Status := (replyOf o).map fun r => r.status

/-- What a test looks at in the next state. -/
def seen {α : Type} (f : State → α) (o : Host.Outcome State Fault Refusal) : Option α :=
  match o with
  | .next t => some (f t)
  | .fault _ | .refused _ => none

/-! ### Well-formedness -/

theorem test_wf_refuses_a_long_body : (Instr.timeRead (ask (List.replicate 509 0))).wf = false := by
  show decide ((List.replicate 509 (0 : Byte)).length ≤ 508) = false
  rw [List.length_replicate]; rfl

theorem test_wf_takes_the_longest_body : (Instr.timeRead (ask (List.replicate 508 0))).wf = true := by
  show decide ((List.replicate 508 (0 : Byte)).length ≤ 508) = true
  rw [List.length_replicate]; rfl

theorem test_wf_refuses_a_known_code : (Instr.unknownKind 40 (ask [])).wf = false := by decide

theorem test_wf_takes_code_0_and_41 :
    (Instr.unknownKind 0 (ask [])).wf = true ∧ (Instr.unknownKind 41 (ask [])).wf = true := by decide

theorem test_wf_refuses_a_line_without_start_marker :
    (Instr.frameReceived [0, 0, 4, 1, 37, 9, 0, 0, 0]).wf = false := by decide

theorem test_wf_refuses_a_short_line : (Instr.frameReceived [0xA5, 0, 4, 1, 37, 9, 0, 0]).wf = false := by decide

/-! ### Bytes and sums -/

/-- The check value of this CRC over the digits 1 to 9 (its published parameters: 1021, FFFF, no inversion, most significant
bit first: log entry 28). -/
theorem test_crc_of_the_nine_digits :
    crc16 [0x31, 0x32, 0x33, 0x34, 0x35, 0x36, 0x37, 0x38, 0x39] = 0x29B1#16 := by decide +kernel

/-- Section 11.4: zone 5, sequence 89, generation 41 and day 400 have the PACKED sum 280 and the FIELD sum 535. -/
theorem test_header_sums_of_section_11_4 :
    headerSum { Zone.erased with method := .packed } 4 ⟨89, 41, 400, 0⟩ [5, 0, 0, 0, 89, 0, 0, 0, 41, 1, 0x90, 0, 0] = 280 ∧
      headerSum Zone.erased 4 ⟨89, 41, 400, 0⟩ [] = 535 := by decide

/-- R69's table of trip values. -/
theorem test_trip_values_of_R69 :
    tripValue 1800 10 = 180 ∧ tripValue 1000 3 = 333 ∧ tripValue 500 3 = 167 ∧ tripValue 250 4 = 63 ∧
      tripValue 0 20 = 0 := by decide

/-- R191 and the table of R192: the computed day of 8 700 000 is 100 and of 9 000 000 is 104, at minute 180. -/
theorem test_computed_days_of_R192 :
    computedDay 8700000 180 = 100 ∧ computedDay 9000000 180 = 104 ∧ computedDay 10799 180 = 0 := by decide

/-- Section 4.7: after its three opening events K is 4 240 and the carnet has 3 known trips. -/
def openedOf47 : Case :=
  { newCase 1 0 100 2 ⟨1200, 2, 5, 250, 1⟩
      ⟨777, .extended, 812, 3470, 90,
        [⟨0, 1800, 1, .carnet 10 4⟩, ⟨1, 6000, 1, .periodDays 30 none none⟩, ⟨2, 0, 1, .concession 2 400⟩], 0⟩ with
    chain := [⟨777, 813, .paid, 230, 0, 99, 600, 17⟩, ⟨777, 814, .topup, 1000, 0, 99, 600, 17⟩,
      ⟨777, 816, .carnet, 0, 0, 99, 600, 17⟩]
    cmax := 816 }

/-- Section 4.7, after CASE OPEN and at the card check for a Standard card on day 100. -/
theorem test_figures_of_section_4_7 :
    knownPurse openedOf47 = 4240 ∧ gapCount openedOf47 = 1 ∧
      (issueFigures .standard 42 100 openedOf47).advance = 1840 ∧
      (issueFigures .standard 42 100 openedOf47).purse = 1840 ∧
      (issueFigures .standard 42 100 openedOf47).trips = [⟨0, 2, 180⟩] ∧
      (issueFigures .standard 42 100 openedOf47).written =
        [⟨0, 0, 1, .concession 2 400⟩, ⟨1, 6000, 1, .periodRange 100 129⟩, ⟨2, 1800, 1, .carnet 10 2⟩] := by decide

/-- Section 4.7's settlement on day 103: K_f 4 010, T_f 2, L 0, Q 2 170. -/
theorem test_settlement_of_section_4_7 :
    let held : Case :=
      { openedOf47 with
        state := .holding, issue := some (issueFigures .standard 42 100 openedOf47), newCard := some ⟨42, .standard⟩
        chain := [⟨777, 813, .paid, 230, 0, 99, 600, 17⟩, ⟨777, 814, .topup, 1000, 0, 99, 600, 17⟩,
          ⟨777, 815, .paid, 230, 0, 99, 600, 17⟩, ⟨777, 816, .carnet, 0, 0, 99, 600, 17⟩,
          ⟨777, 817, .carnet, 0, 0, 101, 600, 17⟩, ⟨777, 818, .blocked, 0, 0, 101, 600, 17⟩]
        cmax := 818 }
    let f := chainSettlement .exact 103 held
    f.kf = 4010 ∧ f.trips = [⟨0, 2⟩] ∧ f.late = 0 ∧ f.gaps = 0 ∧ f.residue = some 2170 := by decide

/-- Section 4.8's two adjustments: +70 in a gap, −230 beyond. -/
theorem test_adjustments_of_section_4_8 :
    let f := { presumed false with cmax := 2045 }
    let c : Case := { watched with terms := ⟨1200, 2, 5, 250, 1⟩ }
    adjustmentDelta c f ⟨48, 2043, .paid, 180, 0, 199, 600, 17⟩ = 70 ∧
      adjustmentDelta c f ⟨48, 2046, .paid, 230, 0, 204, 600, 17⟩ = -230 := by decide

/-- R38 under R189: a case closed after its retention on day 200, settled PRESUMED, with 3 000 cents unclaimed. -/
theorem test_case_closed_bytes :
    putReportBody (.caseClosed 1 false 777 .settled (some 200) none (some .presumed) (-1) (some 3000)) =
      [0, 0, 0, 1, 2, 0, 0, 0, 0, 3, 9, 2, 1, 0, 200, 0, 1, 2, 255, 255, 255, 255, 1, 0, 11, 184] := by decide

/-! ### One step of each command's own -/

/-- CASE OPEN of card 777 (309 hexadecimal): Standard, S 500, B0 3 000, day 99, whose bytes sum to 3 + 9 + 2 + 1 + 244 + 11 + 184
+ 99 = 553 (229 hexadecimal). -/
def openBody : List Byte := [0, 0, 0, 0, 3, 9, 2, 0, 1, 0xF4, 0, 0, 11, 0xB8, 0, 99, 0, 2, 0x29, 0]

theorem test_case_open_answers_its_number_class_and_quiet_end :
    replyOf (exec (.caseOpen (ask openBody)) running) = some ⟨.done, .caseOpened 1 0 105⟩ := by decide

theorem test_case_open_with_a_wrong_check :
    statusOf (exec (.caseOpen (ask (openBody.set 18 0x2A))) running) = some .sumMismatch := by decide

theorem test_case_issue_for_a_narrow_card_is_a_bad_field :
    statusOf (exec (.caseIssue (ask [0, 0, 0, 1, 2, 1])) (holdingOne watched)) = some .badField := by decide

theorem test_case_issue_waits_for_its_card :
    seen (fun t => (t.ports.b.job.map fun j => j.phase, t.cases.map fun c => (c.job, c.attempts)))
      (exec (.caseIssue (ask [0, 0, 0, 1, 2, 2])) (holdingOne watched)) =
      some (some .waitingCard, [(some (.issue, .B), 1)]) := by decide

theorem test_case_recover_of_a_settled_case :
    statusOf (exec (.caseRecover (ask [0, 0, 0, 1, 2])) (holdingOne (settledCase1 false))) = some .wrongState := by decide

theorem test_case_cancel_deletes_the_untaken_add :
    seen (fun t => (t.cases, t.hotlist.master, t.hotlist.pending))
      (exec (.caseCancel (ask [0, 0, 0, 1])) (holdingOne watched)) = some ([], [], []) := by decide

theorem test_case_cancel_with_blocked_seen :
    statusOf (exec (.caseCancel (ask [0, 0, 0, 1])) (holdingOne { watched with blockedSeen := true })) =
      some .cardMarked := by decide

theorem test_case_settle_queues_a_statement :
    seen (fun t => (t.cases.map fun c => c.state, t.signing.queue, t.signing.grantee))
      (exec (.caseSettle (ask [0, 0, 0, 1])) (holdingOne watched)) =
      some ([.settled], [1], some .statement) := by decide

theorem test_case_transfer_needs_open :
    statusOf (exec (.caseTransfer (ask [0, 0, 0, 1, 2])) (holdingOne watched)) = some .noRight := by decide

theorem test_case_query_start_index_64 :
    statusOf (exec (.caseQuery (ask [0, 0, 0, 1, 1, 64])) (holdingOne watched)) = some .badField := by decide

theorem test_case_list_gives_the_case :
    replyOf (exec (.caseList (ask [0, 0, 0, 1, 1, 2])) (holdingOne watched)) =
      some ⟨.done, .caseList [⟨1, .watch, 0⟩] false⟩ := by decide

/-- Section 3.6: REPLACE puts 204 PAID 520 in the place of 204 PAID 250. -/
theorem test_case_resolve_replaces :
    seen (fun t => t.cases.map fun c => (c.chain.map fun e => (e.counter, e.amount), c.conflicts, c.review.conflict))
      (exec (.caseResolve (ask [0, 0, 0, 1, 0, 0, 204, 2]))
        (holdingOne { watched with
          snapshot := { snap with counter := 203 }, cmax := 204
          chain := [⟨777, 204, .paid, 250, 0, 99, 600, 17⟩]
          conflicts := [⟨777, 204, .paid, 520, 0, 99, 600, 17⟩]
          review := ⟨true, false, false⟩ })) = some [([(204, 520)], [], false)] := by decide

theorem test_issue_abort_of_a_waiting_job :
    seen (fun t => (t.ports.a.job, t.cases.map fun c => c.job))
      (exec (.issueAbort (ask [0, 0, 0, 1])) (atWork (issuing .waitingCard) none)) = some (none, [none]) := by decide

theorem test_concession_set_clamps :
    replyOf (exec (.concessionSet (ask [2, 1, 0x86, 0xA1, 0, 15, 0, 1, 0x2C, 4])) running) =
      some ⟨.done, .concessionSet 2 ⟨100000, 1, 14, 300, 4⟩ [true, true, true, false, false]⟩ := by decide

theorem test_concession_read_gives_sixteen_rows :
    replyOf (exec (.concessionRead (ask [])) running) =
      some ⟨.done, .concessionTable (List.replicate 16 ⟨1500, 2, 5, 300, 1⟩)⟩ := by decide

theorem test_hotlist_cut_takes_the_change :
    replyOf (exec (.hotlistCut (ask [])) (holdingOne watched)) = some ⟨.done, .hotlistCut 1 1 0 0⟩ := by decide

theorem test_hotlist_cut_of_nothing :
    statusOf (exec (.hotlistCut (ask [])) running) = some .nothingPending := by decide

theorem test_hotlist_read_past_the_master_range :
    statusOf (exec (.hotlistRead (ask [1, 1, 0])) running) = some .badField := by decide

theorem test_zone_configure_clamps :
    replyOf (exec (.zoneConfigure (ask [5, 2, 0, 8])) running) =
      some ⟨.done, .zoneConfigured .packed 1 7 [true, true]⟩ := by decide

theorem test_zone_release_of_an_unused_zone :
    statusOf (exec (.zoneRelease (ask [5])) running) = some .wrongState := by decide

theorem test_zone_hold_discards_the_batch :
    seen (fun t => (t.zones[4].state, t.zones[4].batch))
      (exec (.zoneHold (ask [5])) (withZone 4 { zoneIn .openBatch with batch := some ⟨1, 0, 99, [], 0⟩ } running)) =
      some (.held, none) := by decide

theorem test_zone_resync_forgets_the_sequence :
    seen (fun t => (t.zones[4].state, t.zones[4].expected))
      (exec (.zoneResync (ask [5])) (withZone 4 { zoneIn .aligned with expected := some 89 } running)) =
      some (.hunt, none) := by decide

theorem test_zone_remove_needs_held :
    statusOf (exec (.zoneRemove (ask [5])) (withZone 4 (zoneIn .hunt) running)) = some .wrongState := by decide

theorem test_zone_clear_answers_the_counts_as_they_stood :
    replyOf (exec (.zoneClear (ask [5]))
      (withZone 4 { zoneIn .hunt with counts := ⟨1, 2, 0, 3⟩, committed := 9, matched := 4, unmatched := 5 } running)) =
      some ⟨.done, .zoneCleared ⟨1, 2, 0, 3⟩ 9 4 5⟩ := by decide

theorem test_zone_status_of_zone_13 : statusOf (exec (.zoneStatus (ask [13])) running) = some .badField := by decide

/-- Section 7.9: zone 5, sequence 88, generation 41, day 399, sum 533 at generation 41. -/
theorem test_batch_header_opens_the_batch :
    seen (fun t => (t.zones[4].state, t.zones[4].batch))
      (exec (.batchHeader (feed [5, 0, 0, 0, 88, 0, 0, 0, 41, 1, 0x8F, 2, 0x15]))
        (withZone 4 (zoneIn .hunt) { running with hotlist := ⟨[], [], 41, .idle⟩ })) =
      some (.openBatch, some ⟨88, 41, 399, [], 0⟩) := by decide

/-- A record whose kind code is 9: void, with the unknown-kind count raised. -/
theorem test_batch_records_keeps_a_void_record :
    replyOf (exec (.batchRecords (feed ([5, 1] ++ [0, 0, 0, 0, 3, 9, 0, 1, 0xF5, 9] ++ List.replicate 10 0)))
      (withZone 4 { zoneIn .openBatch with batch := some ⟨1, 0, 99, [], 0⟩ } running)) =
      some ⟨.done, .recordsTaken 1 1⟩ := by decide

theorem test_batch_end_commits_an_empty_batch :
    replyOf (exec (.batchEnd (feed [5, 0, 0, 0, 0]))
      (withZone 4 { zoneIn .openBatch with batch := some ⟨88, 0, 99, [], 0⟩ } running)) =
      some ⟨.done, .batchCommitted 88 0 0 0 0 0 (some 89) 0⟩ := by decide

theorem test_port_configure_clamps :
    replyOf (exec (.portConfigure (ask [2, 1, 2, 16, 0, 0, 49, 2, 0x59])) running) =
      some ⟨.done, .portConfigured ⟨true, .careful, 15, 1, 50, 600⟩ [true, true, true, true]⟩ := by decide

theorem test_port_unfence_sends_sense :
    seen (fun t => (t.ports.a.fenced, t.ports.a.timeouts, t.ports.a.outstanding.map fun o => o.command))
      (exec (.portUnfence (ask [1])) (withPortA { PortRec.erased with fenced := true, timeouts := 5 } running)) =
      some (false, 0, some .sense) := by decide

theorem test_port_status_of_port_5 : statusOf (exec (.portStatus (ask [5])) running) = some .badField := by decide

theorem test_link_create_takes_record_3 :
    replyOf (exec (.linkCreate (ask [1, 1, 0, 0, 201])) running) = some ⟨.done, .linkCreated 2⟩ := by decide

theorem test_link_delete_of_link_1 : statusOf (exec (.linkDelete (ask [1, 0])) running) = some .wrongState := by decide

theorem test_link_move_sets_channel_and_station :
    seen (fun t => (t.links[(1 : LinkId)].channel, t.links[(1 : LinkId)].station))
      (exec (.linkMove (ask [2, 3, 1, 0])) running) = some (3, 256) := by decide

theorem test_link_suspend_and_its_refusal :
    seen (fun t => t.links[(1 : LinkId)].state) (exec (.linkSuspend (ask [2])) running) = some .suspended := by decide

theorem test_link_resume_from_active :
    seen (fun t => t.links[(1 : LinkId)].state) (exec (.linkResume (ask [2])) running) = some .active := by decide

theorem test_link_read_counts_children :
    replyOf (exec (.linkRead (ask [1])) running) = some ⟨.done, .linkRead 0 Link.root 1 0⟩ := by decide

theorem test_report_fetch_takes_restarted :
    replyOf (exec (.reportFetch (ask [])) running) =
      some ⟨.done, .report 0 0 0 ⟨none, 0, .restarted .powerOn none⟩⟩ := by decide

/-- R192's table: with the clock unset and the floor at 8 640 600, 8 640 000 is refused; the floor itself is taken, on day 99. -/
theorem test_time_set_of_R192 :
    let s := { running with clock := ⟨none, 8640600, 0, 99⟩ }
    statusOf (exec (.timeSet (ask [0, 0x83, 0xD6, 0])) s) = some .timeBackward ∧
      replyOf (exec (.timeSet (ask [0, 0x83, 0xD8, 0x58])) s) = some ⟨.done, .timeSet 8640600 99 false⟩ := by decide

/-- R192: a job whose tear window the clock passes settles its FORCED case on the new day 101, whether the case table takes the
rollover event before or after. -/
theorem test_a_passed_window_settles_on_the_new_day :
    let marked := { issued1 with settleDue := some .forced }
    let s := withPortA (working { issuing .torn with tearEnd := some 8737200 } none) (holdingOne marked)
    let moved := moveDay (takeSecond 8737200 s)
    let settledOn (t : State) := t.cases.map fun c => c.settlement.map fun f => f.day
    settledOn (deliverRollover .cases (expireWindow .A moved)) = [some 101] ∧
      settledOn (expireWindow .A (deliverRollover .cases moved)) = [some 101] := by decide

theorem test_time_read_of_an_unset_clock :
    replyOf (exec (.timeRead (ask [])) State.reset) = some ⟨.done, .timeRead none none 0 180⟩ := by decide

theorem test_settings_set_clamps :
    replyOf (exec (.settingsSet (ask [5, 0xA0, 0, 0, 29, 2])) running) =
      some ⟨.done, .settings ⟨1439, 1, 30, .fixed⟩ [true, true, true]⟩ := by decide

theorem test_device_status_with_a_body : statusOf (exec (.deviceStatus (ask [0])) running) = some .frameLength := by decide

theorem test_device_reset_is_due_when_its_answer_is_sent :
    seen (fun t => t.terminal.restartDue) (exec .answerSent
      { running with terminal := ⟨[⟨⟨1, 38, 7, 0, []⟩, some ⟨1, 38, 7, false, false, ⟨.done, .none⟩⟩⟩], false, 0, 0, none⟩ }) =
      some (some .deviceReset) := by decide

theorem test_device_erase_needs_admin :
    statusOf (exec (.deviceErase (feed [])) running) = some .noRight := by decide

theorem test_unknown_kind_41 : statusOf (exec (.unknownKind 41 (ask [])) running) = some .unknownKind := by decide

/-- DEVICE STATUS of link 1 with tag 9: the CRC over 00 04 01 25 09 00 is 260C hexadecimal. -/
theorem test_frame_received :
    seen (fun t => (t.terminal.buffer.map fun p => p.frame, t.terminal.frameErrors))
      (exec (.frameReceived [0xA5, 0, 4, 1, 0x25, 9, 0, 0x26, 0x0C]) running) = some ([⟨1, 0x25, 9, 0, []⟩], 0) := by
  decide +kernel

theorem test_frame_received_with_a_wrong_crc :
    seen (fun t => (t.terminal.buffer.length, t.terminal.frameErrors))
      (exec (.frameReceived [0xA5, 0, 4, 1, 0x25, 9, 0, 0x26, 0x0D]) running) = some (0, 1) := by decide +kernel

theorem test_frame_error_saturates :
    seen (fun t => t.terminal.frameErrors)
      (exec (.frameError .stopBit) { running with terminal := ⟨[], false, 65535, 0, none⟩ }) = some 65535 := by decide

theorem test_inter_byte_timeout_counts :
    seen (fun t => t.terminal.frameErrors) (exec .interByteTimeout running) = some 1 := by decide

theorem test_restart_of_a_device_reset_keeps_the_clock :
    seen (fun t => (t.clock.second, (t.channels[0].queue.map fun r => r.body)))
      (exec .restart { running with terminal := ⟨[], false, 0, 0, some .deviceReset⟩ }) =
      some (some 8650800, [.restarted .deviceReset (some 8650800)]) := by decide

theorem test_power_on_unsets_the_clock :
    seen (fun t => (t.clock.second, t.clock.floor, t.clock.announcedDay)) (exec .powerOn running) =
      some (none, 8650800, 100) := by decide

theorem test_nrst_release_loses_the_job :
    seen (fun t => (t.ports.a.job, t.cases.map fun c => c.job)) (exec .nrstRelease (atWork (issuing .write) none)) =
      some (none, [none]) := by decide

theorem test_clock_tick_holds_the_last_second :
    seen (fun t => t.clock.second)
      (exec .clockTick { running with clock := ⟨some 4294967295, 4294967295, 0, 49710⟩ }) = some (some 4294967295) := by
  decide

theorem test_time_floor_write_at_ten_minutes :
    seen (fun t => t.clock.floor)
      (exec .timeFloorWrite { running with clock := ⟨some 8651400, 8650800, 600, 100⟩ }) = some 8651400 := by decide

theorem test_arrived_starts_the_check :
    seen (fun t => (t.ports.a.job.map fun j => j.phase, t.ports.a.outstanding.map fun o => o.command))
      (exec (.arrived .A 42 .standard)
        (withPortA { working (issuing .waitingCard) none with card := none } (holdingOne issued1))) =
      some (some .check, some (.read 0)) := by decide

theorem test_left_tears_a_writing_job :
    seen (fun t => t.ports.a.job.map fun j => (j.phase, j.tearEnd))
      (exec (.left .A) (atWork (issuing .write) none)) = some (some (.torn, some 8650920)) := by decide

/-- The third blank read of a Standard card: the job enters WRITE and, the unit being free, is granted. -/
theorem test_data_completes_the_check :
    seen (fun t => (t.ports.a.job.map fun j => (j.phase, j.target), t.signing.grantee))
      (exec (.data .A none) (atWork { issuing .check with target := none, reads := [none, none] } (some (.read 15)))) =
      some (some (.write, some 42), some (.port .A)) := by decide

theorem test_done_of_the_activation_ends_issued :
    seen (fun t => t.cases.map fun c => (c.state, c.newCard, c.job))
      (exec (.done .A) (atWork { issuing .write with nextSegment := 6 } (some (.write 6 none 0)))) =
      some [(.holding, some ⟨42, .standard⟩, none)] := by decide

theorem test_fault_uses_a_retry :
    seen (fun t => t.ports.a.job.map fun j => j.retries)
      (exec (.fault .A .dataError) (atWork (issuing .check) (some (.read 0)))) = some (some 1) := by decide

theorem test_response_timeout_fences_at_the_threshold :
    seen (fun t => (t.ports.a.fenced, t.ports.a.job, t.cases.map fun c => c.job))
      (exec (.responseTimeout .A) (withPortA { working (issuing .check) (some (.read 0)) with timeouts := 4 }
        (holdingOne issued1))) = some (true, none, [none]) := by decide

theorem test_tear_window_expiry_ends_the_job :
    seen (fun t => (t.ports.a.job, t.cases.map fun c => c.state))
      (exec (.tearWindowExpiry .A) (atWork { issuing .torn with tearEnd := some 8650800 } none)) =
      some (none, [.watch]) := by decide

theorem test_package_completion_raises_the_generation :
    seen (fun t => (t.hotlist.generation, t.hotlist.pending, t.cases.map fun c => c.generation))
      (exec .hotlistGrantCompletion
        { holdingOne watched with
          hotlist := ⟨[⟨777, 1, none⟩], [⟨.add, 777, 1, true⟩], 0, .packaging⟩
          signing := { Signing.fresh with
            grantee := some .hotlist, computation := some (.package ⟨[⟨.add, 777, 1, true⟩], 1⟩) } }) =
      some (1, [], [some 1]) := by decide

theorem test_statement_completion_clears_the_pending_mark :
    seen (fun t => (t.signing.queue, t.cases.map fun c => c.settlement.map fun f => f.statementPending))
      (exec .statementGrantCompletion
        { holdingOne (settledCase1 true) with
          signing := { Signing.fresh with
            grantee := some .statement, queue := [1]
            computation := some (.statement (statementInputs (settledCase1 true) (presumed true))) } }) =
      some ([], [some false]) := by decide

end Sys2Proof.Tests
end

