-- ==== Sys2Proof/Tests/Witnesses.lean ====
section
/-! SUPPORT. For each statement that has hypotheses, a concrete state and operands that meet them together, clause by clause, at a
boundary of their ranges where they have one. -/

namespace Sys2Proof.Tests

open Sys2Proof Sys2Proof.Machine

/-! ### The step, the invariants and the rules over all commands -/

theorem witness_StepTakesTheFrontCommand :
    (running.withPending [.clockTick, .powerOn]).pending = .clockTick :: [.powerOn] ∧ State.reset.pending = [] :=
  ⟨rfl, rfl⟩

/-- A state at work: case 1 with its ISSUE job on port A, a batch of 0 records open in zone 5, both places of the buffer taken and
the head answered, a channel full, the signing unit granted, the commands of the queue waiting. -/
def busy : State :=
  { atWork (issuing .write) (some (.write 0 none 0)) with
    terminal := ⟨[⟨⟨1, 37, 7, 0, []⟩, some ⟨1, 37, 7, false, true, ⟨.frameLength, .none⟩⟩⟩, ⟨⟨1, 33, 8, 0, []⟩, none⟩], true,
      65535, 1, none⟩
    channels := running.channels.set 1 ⟨List.replicate 16 ⟨none, 0, .restarted .powerOn none⟩, 255⟩
    zones := running.zones.set 4 { zoneIn .openBatch with batch := some ⟨1, 0, 99, [], 0⟩ }
    signing := { Signing.fresh with grantee := some (.port .A), context := some 42, lastFirst := .port .A }
    pending := [.interByteTimeout] }

theorem busy_steps : ∃ t, step busy = .next t := ⟨_, rfl⟩

theorem witness_TerminalAndChannelsStaySound : TerminalOk busy ∧ ChannelsOk busy := by
  constructor
  · unfold TerminalOk; decide
  · unfold ChannelsOk ChannelOk; decide

theorem witness_ClockStaysSound : ClockOk busy := by
  refine ⟨by decide, fun t h => ?_⟩
  cases h
  decide

theorem witness_LinksStaySound : LinksOk busy := by
  refine ⟨by decide, by decide, ?_, by decide⟩
  intro l hl hs
  refine ⟨0, ?_⟩
  revert l
  decide

theorem witness_CaseTableStaysSound : CaseTableOk busy := by
  refine ⟨by decide, by decide, ?_, ?_, by decide, by decide, by decide, by decide, by decide⟩
  · intro c hc
    have h : c = issued1 := by simpa [busy, atWork, withPortA, holdingOne] using hc
    subst h
    refine ⟨by decide, by decide, fun n hn => ?_⟩
    cases hn; decide
  · intro n hn; cases hn; decide

theorem witness_CaseRecordsStaySound : CaseTableOk busy ∧ CaseStatesOk busy ∧ ChainsOk busy := by
  refine ⟨witness_CaseTableStaysSound, ?_, ?_⟩
  · intro c hc
    have h : c = issued1 := by simpa [busy, atWork, withPortA, holdingOne] using hc
    subst h; exact ⟨rfl, rfl⟩
  · intro c hc
    have h : c = issued1 := by simpa [busy, atWork, withPortA, holdingOne] using hc
    subst h; unfold ChainOk; decide

theorem witness_GenerationsStayBounded : GenerationsOk busy := by
  refine ⟨?_, ?_, ?_⟩
  · intro e he g hg
    have h : e = ⟨777, 1, none⟩ := by simpa [busy, atWork, withPortA, holdingOne, issued1, watched, newCase] using he
    subst h; cases hg
  · intro c hc g hg
    have h : c = issued1 := by simpa [busy, atWork, withPortA, holdingOne] using hc
    subst h; cases hg
  · have h : ∀ z : ZoneId, busy.zones[z].reached = 0 ∧ (busy.zones[z].batch.map fun b => b.generation) ≠ some 1 ∧
        ∀ b ∈ busy.zones[z].batch, b.generation = 0 := by decide
    intro z
    exact ⟨(h z).1.le, fun b hb => ((h z).2.2 b hb).le⟩

theorem witness_ZonesStaySound : ZonesOk busy := by
  have h : ∀ z : ZoneId, (busy.zones[z].batch.isSome = true ↔ busy.zones[z].state = .openBatch) ∧
      (∀ b ∈ busy.zones[z].batch, b.buffer.length = 0) ∧ busy.zones[z].counts = {} := by decide
  intro z
  refine ⟨(h z).1, fun b hb => by rw [(h z).2.1 b hb]; decide, ?_⟩
  rw [(h z).2.2]; decide

theorem witness_PortsStaySound : PortsOk busy := by
  intro p
  cases p <;> · unfold PortOk; decide

theorem witness_JobsStayMatched : CaseTableOk busy ∧ JobsOk busy := by
  refine ⟨witness_CaseTableStaysSound, ?_, ?_⟩
  · intro p j hj
    cases p
    · cases hj; exact ⟨issued1, by decide, rfl, rfl, fun h => by cases h⟩
    all_goals cases hj
  · intro c hc k p hk
    have h : c = issued1 := by simpa [busy, atWork, withPortA, holdingOne] using hc
    subst h; cases hk
    exact ⟨issuing .write, rfl, rfl, rfl⟩

theorem witness_SigningStaysSound : SigningOk running ∧ ∃ t, step (running.withPending [.clockTick]) = .next t :=
  ⟨fun _ => rfl, _, rfl⟩

theorem witness_ClockAndFloorNeverFall :
    ClockOk busy ∧ (∃ t, exec .clockTick busy = .next t ∧ t.clock.second = some 8650801) ∧
      (∃ t, exec .powerOn busy = .next t ∧ t.clock.second = none) ∧
      ∃ t, exec (.caseSettle (ask [0, 0, 0, 1])) (holdingOne watched) = .next t ∧ t.clock.second = some 8650800 ∧
        (t.cases.map fun c => c.state) = [.settled] :=
  ⟨witness_ClockStaysSound, ⟨_, rfl, rfl⟩, ⟨_, rfl, rfl⟩, _, rfl, rfl, rfl⟩

theorem witness_CountersOnlyRise :
    (∃ t, exec (.caseOpen (ask openBody)) running = .next t ∧ running.nextCase = some 1 ∧ t.nextCase = some 2) ∧
      running.terminal.restartDue ≠ some .deviceErase := ⟨⟨_, rfl, rfl, rfl⟩, by decide⟩

theorem witness_AJobKeepsTheState :
    CaseTableOk busy ∧ (∃ t, exec (.fault .A .dataError) busy = .next t ∧ issued1 ∈ busy.cases ∧ issued1 ∈ t.cases) ∧
      issued1.job ≠ none := ⟨witness_CaseTableStaysSound, ⟨_, rfl, by decide, by decide⟩, by decide⟩

/-- Case 1 settled, its statement done, with an ISSUE job at the activation on port A. -/
def settledAtWork : State :=
  withPortA (working { issuing .write with nextSegment := 6 } (some (.write 6 none 0)))
    { holdingOne { settledCase1 false with job := some (.issue, .A), issue := issued1.issue } with
      hotlist := ⟨[⟨777, 1, none⟩], [], 0, .idle⟩ }

theorem witness_SettledFiguresStayFixed :
    CaseTableOk settledAtWork ∧ JobsOk settledAtWork ∧
      ∃ t, exec (.done .A) settledAtWork = .next t ∧
        (settledAtWork.cases.map fun c => (c.state, c.settlement)) = [(.settled, some (presumed false))] ∧
        (t.cases.map fun c => c.state) = [.settled] := by
  have only : ∀ c ∈ settledAtWork.cases,
      c = { settledCase1 false with job := some (.issue, .A), issue := issued1.issue } := by
    intro c hc; simpa [settledAtWork, withPortA, holdingOne] using hc
  refine ⟨⟨by decide, by decide, ?_, ?_, by decide, by decide, by decide, by decide, by decide⟩, ⟨?_, ?_⟩, _, rfl, rfl, rfl⟩
  · intro c hc
    rw [only c hc]
    refine ⟨by decide, by decide, fun n hn => ?_⟩
    cases hn; decide
  · intro n hn; cases hn; decide
  · intro p j hj
    cases p
    · cases hj
      exact ⟨{ settledCase1 false with job := some (.issue, .A), issue := issued1.issue }, by decide, rfl, rfl,
        fun h => by cases h⟩
    all_goals cases hj
  · intro c hc k p hk
    rw [only c hc] at hk ⊢
    cases hk
    exact ⟨_, rfl, rfl, rfl⟩

/-! ### Requests: the frame and link checks -/

theorem witness_EveryRequestGetsOneAnswer :
    behindFrame ((ask []).frame (kindByte .timeRead)) busy.terminal = none ∧
      behindFrame ((ask []).frame (kindByte .timeRead)) running.terminal = some [] := by decide

theorem witness_FrameAndLinkChecksDecideInOrder :
    behindFrame ((ask []).frame 0) running.terminal = some [] ∧ behindFrame ((ask []).frame 41) running.terminal = some [] ∧
      (bodyLengthOk .timeRead (ask [0]).body = false) ∧
      (bodyLengthOk .timeRead [] = true ∧ (⟨1, 7, 1, []⟩ : Request).flags ≠ 0) ∧
      linkOf 0 = none ∧ linkOf 33 = none ∧
      (linkOf 32 = some 31 ∧ running.links[(31 : LinkId)].state = .free) ∧
      ({ running with links := running.links.set 1 ⟨.suspended, {}, 0, some 0, none, 0⟩ }).links[(1 : LinkId)].state =
        .suspended ∧
      (running.links[(1 : LinkId)].state = .active ∧ hasRight .timeSet running.links[(1 : LinkId)].rights = false) := by
  decide

theorem witness_RefusalsChangeNothing :
    ∃ t a, behindFrame ((ask [0]).frame (kindByte .timeRead)) running.terminal = some [] ∧
      exec (requestCommand .timeRead (ask [0])) running = .next t ∧
      t.terminal.buffer = [⟨(ask [0]).frame (kindByte .timeRead), some a⟩] ∧ a.reply.status ≠ .done :=
  ⟨_, ⟨1, 35, 7, false, true, ⟨.frameLength, .none⟩⟩, by decide, rfl, by decide, by decide⟩

/-! ### Case requests -/

theorem running_caseTable : CaseTableOk running := by
  refine ⟨by decide, by decide, ?_, ?_, by decide, by decide, by decide, by decide, by decide⟩
  · intro c hc; cases hc
  · intro n hn; cases hn; decide

theorem witness_CaseOpenBuildsTheCase : CaseTableOk running ∧
    Reaches .caseOpen (ask openBody) rootLink [] running ∧ running.clock.second = some 8650800 ∧
      (readOpen 100 openBody).isSome = true ∧
      (∀ o ∈ readOpen 100 openBody, snapshotFits o.snapshot = true ∧ o.snapshot.check = o.sum ∧
        ∀ c ∈ running.cases, c.snapshot.cardNo ≠ o.snapshot.cardNo) ∧
      running.cases.length < 256 ∧ running.nextCase = some 1 ∧
      running.hotlist.pending.length + running.hotlist.master.length ≤ 510 := ⟨running_caseTable, by decide⟩

/-- The n-th of many cases: number n + 1, card 1000 + n. -/
def manyth (n : Nat) : Case := { watched with number := n + 1, snapshot := { snap with cardNo := 1000 + n } }

/-- 255 live cases and 255 changes pending: one more CASE OPEN is the last that R19 lets through. -/
def nearlyFull : State :=
  { running with
    cases := (List.range 255).map manyth, nextCase := some 256
    hotlist := ⟨(List.range 255).map fun n => entryOf (manyth n), List.replicate 255 ⟨.remove, 9, 1, false⟩, 0, .idle⟩ }

theorem nearlyFull_lengths : nearlyFull.cases.length = 255 ∧ nearlyFull.hotlist.master.length = 255 ∧
    nearlyFull.hotlist.pending.length = 255 :=
  ⟨List.length_map _ |>.trans List.length_range, List.length_map _ |>.trans List.length_range, List.length_replicate⟩

theorem nearlyFull_caseTable : CaseTableOk nearlyFull := by
  have number (n : Nat) : (manyth n).number = n + 1 := rfl
  have card (n : Nat) : (manyth n).snapshot.cardNo = 1000 + n := rfl
  have rising := @List.pairwise_lt_range 255
  refine ⟨?_, ?_, ?_, ?_, ?_, ?_, ?_, ?_, ?_⟩
  · exact List.pairwise_map.mpr (rising.imp fun h => by rw [number, number]; omega)
  · exact List.pairwise_map.mpr (rising.imp fun h => by rw [card, card]; omega)
  · intro c hc
    obtain ⟨n, hn, rfl⟩ := List.mem_map.mp hc
    have := List.mem_range.mp hn
    rw [number]
    refine ⟨by omega, by unfold max32; omega, fun m hm => ?_⟩
    cases hm; omega
  · intro n hn; cases hn; decide
  · rw [nearlyFull_lengths.1]; decide
  · exact List.pairwise_map.mpr (rising.imp fun {a b} h => by show (manyth a).snapshot.cardNo < (manyth b).snapshot.cardNo; rw [card, card]; omega)
  · intro e he
    obtain ⟨n, hn, rfl⟩ := List.mem_map.mp he
    exact ⟨manyth n, List.mem_map_of_mem hn, rfl⟩
  · intro c hc
    obtain ⟨n, hn, rfl⟩ := List.mem_map.mp hc
    exact List.mem_map.mpr ⟨n, hn, rfl⟩
  · rw [nearlyFull_lengths.2.1, nearlyFull_lengths.2.2]; decide

/-- At the bounds: 255 live cases, 510 entries and changes together; and the last case number. -/
theorem witness_CaseOpenBuildsTheCase_at_the_bounds :
    (CaseTableOk nearlyFull ∧ Reaches .caseOpen (ask openBody) rootLink [] nearlyFull ∧
      (∀ c ∈ nearlyFull.cases, c.snapshot.cardNo ≠ snap.cardNo) ∧ nearlyFull.cases.length = 255 ∧
      nearlyFull.hotlist.pending.length + nearlyFull.hotlist.master.length = 510) ∧
      Reaches .caseOpen (ask openBody) rootLink [] { running with nextCase := some 4294967295 } ∧
      (readOpen 100 openBody).map (fun o => o.snapshot.cardNo) = some snap.cardNo := by
  refine ⟨⟨nearlyFull_caseTable, by decide, ?_, nearlyFull_lengths.1,
    by rw [nearlyFull_lengths.2.1, nearlyFull_lengths.2.2]⟩, by decide, by decide⟩
  intro c hc
  obtain ⟨n, _, rfl⟩ := List.mem_map.mp hc
  show 1000 + n ≠ 777
  omega

/-- The opening body with two PAID events of counter 501 that differ, so that the second is a conflict. -/
def conflictBody : List Byte :=
  openBody.take 19 ++ [2] ++ [0, 0, 0, 0, 3, 9, 0, 1, 0xF5, 1, 0, 0, 230, 0, 0, 99, 2, 0x58, 0, 17] ++
    [0, 0, 0, 0, 3, 9, 0, 1, 0xF5, 1, 0, 0, 99, 0, 0, 99, 2, 0x58, 0, 17]

/-- One report: the conflict newly joins the review. -/
theorem witness_CaseOpenBuildsTheCase_conflict :
    Reaches .caseOpen (ask conflictBody) rootLink [] running ∧
      ((readOpen 100 conflictBody).map fun o => (arrivalReports running o.events watched).length) = some 1 := by decide

theorem witness_JobRequestsStartAJob :
    (Reaches .caseIssue (ask [0, 0, 0, 1, 2, 2]) rootLink [] (holdingOne watched) ∧
      Reaches .caseRecover (ask [0, 0, 0, 1, 2]) rootLink [] (holdingOne watched)) ∧
      (holdingOne watched).findCase 1 = some watched ∧ portOf 2 = some .B ∧ familyOf 2 = some .standard ∧
      watched.owner = rootLink ∧ watched.job = none ∧ watched.state = .watch ∧
      ((holdingOne watched).port .B).enabled = true ∧ ((holdingOne watched).port .B).fenced = false ∧
      ((holdingOne watched).port .B).job = none ∧
      (settledCase1 false).state = .settled ∧ (settledCase1 false).newCard = none := by decide

theorem witness_CaseCancelEndsTheCase :
    (Reaches .caseCancel (ask [0, 0, 0, 1]) rootLink [] (holdingOne watched) ∧
      (holdingOne watched).findCase 1 = some watched ∧ watched.owner = rootLink ∧ watched.job = none ∧
      watched.state = .watch ∧ watched.blockedSeen = false ∧
      ∃ x ∈ (holdingOne watched).hotlist.pending, x.kind = .add ∧ x.caseNo = watched.number ∧ x.taken = false) ∧
      let s := { holdingOne (settledCase1 false) with hotlist := ⟨[⟨777, 1, some 1⟩], [], 1, .idle⟩ }
      Reaches .caseCancel (ask [0, 0, 0, 1]) rootLink [] s ∧ s.findCase 1 = some (settledCase1 false) ∧
        (settledCase1 false).state = .settled ∧ (settledCase1 false).newCard = none ∧
        statementPending (settledCase1 false) = false ∧
        (∀ x ∈ s.hotlist.pending, ¬ (x.kind = .add ∧ x.caseNo = 1 ∧ x.taken = false)) ∧
        Reaches .caseCancel (ask [0, 0, 0, 1]) rootLink [] { s with settings := { s.settings with autoCut := 1 } } ∧
        (cutIfDue 1 { s.hotlist with pending := [⟨.remove, 777, 1, false⟩] }).packaging = .packaging := by decide

theorem witness_CaseSettleForcesTheSettlement :
    Reaches .caseSettle (ask [0, 0, 0, 1]) rootLink [] (holdingOne watched) ∧
      (holdingOne watched).findCase 1 = some watched ∧ (holdingOne watched).clock.second = some 8650800 ∧
      watched.state ≠ .settled ∧ watched.conflicts = [] ∧ watched.job = none ∧
      (holdingOne watched).signing.grantee = none ∧ (holdingOne watched).signing.waiting = {} ∧
      (holdingOne watched).signing.queue = [] ∧
      (Reaches .caseSettle (ask [0, 0, 0, 1]) rootLink [] (atWork (issuing .write) none) ∧
        (atWork (issuing .write) none).findCase 1 = some issued1 ∧ issued1.state ≠ .settled ∧ issued1.conflicts = [] ∧
        issued1.job ≠ none) ∧
      (Reaches .caseSettle (ask [0, 0, 0, 1]) rootLink []
        { holdingOne watched with signing := { Signing.fresh with grantee := some .statement, queue := [9] } } ∧
       Reaches .caseSettle (ask [0, 0, 0, 1]) rootLink []
        { holdingOne watched with signing := { Signing.fresh with grantee := some .hotlist } }) := by decide

theorem witness_CaseTransferChangesTheOwner :
    let s := { holdingOne watched with links := running.links.set 31 ⟨.active, ⟨true, false, false, false, false⟩, 3, some 0, none, 0⟩ }
    Reaches .caseTransfer (ask [0, 0, 0, 1, 32]) rootLink [] s ∧ s.findCase 1 = some watched ∧ linkOf 32 = some 31 ∧
      s.links[(31 : LinkId)].state = .active ∧ s.links[(31 : LinkId)].rights.opens = true := by decide

/-- Case 1 with 504 PAID 250 in its chain and 504 PAID 520 in its conflict list. -/
def disputed : Case :=
  { watched with
    cmax := 504, chain := [⟨777, 504, .paid, 250, 0, 99, 600, 17⟩]
    conflicts := [⟨777, 504, .paid, 520, 0, 99, 600, 17⟩], review := ⟨true, false, false⟩ }

theorem witness_CaseResolveRulesAConflict :
    let e : CardEvent := ⟨777, 504, .paid, 520, 0, 99, 600, 17⟩
    Reaches .caseResolve (ask [0, 0, 0, 1, 0, 1, 0xF8, 2]) rootLink [] (holdingOne disputed) ∧
      (holdingOne disputed).findCase 1 = some disputed ∧ choiceOf 2 = some true ∧ choiceOf 1 = some false ∧
      oldestConflict disputed 504 = some e ∧ disputed.state ≠ .settled ∧ disputed.review.conflict = true ∧
      disputed.conflicts.erase e = [] ∧ disputed.conflictOverflow = 0 ∧
      (∀ d ∈ (holdingOne disputed).cases, d.number = disputed.number → d = disputed) ∧
      (running.clock.announcedDay < disputed.quietEnd ∧ closedAll running.zones disputed.zonesClosed = false) ∧
      ({ disputed with quietEnd := 100 }.quietEnd ≤ running.clock.announcedDay ∧ disputed.job = none ∧
        gapCount disputed ≤ 64) ∧
      oldestConflict { disputed with conflictOverflow := 1 } 504 = some e := by decide

/-- Every hypothesis of a ruling after which CONFLICT lapses and the review of case 1 is empty, but for what the clauses add. -/
abbrev Lapses (c : Case) (s : State) : Prop :=
  Reaches .caseResolve (ask [0, 0, 0, 1, 0, 1, 0xF8, 1]) rootLink [] s ∧ s.findCase 1 = some c ∧
    oldestConflict c 504 = some ⟨777, 504, .paid, 520, 0, 99, 600, 17⟩ ∧ c.conflicts = [⟨777, 504, .paid, 520, 0, 99, 600, 17⟩] ∧
    c.state ≠ .settled ∧ c.review = ⟨true, false, false⟩ ∧ c.conflictOverflow = 0 ∧
    (∀ d ∈ s.cases, d.number = c.number → d = c) ∧ c.quietEnd ≤ s.clock.announcedDay

/-- The disputed case past its quiet end day. -/
def disputedDue : Case := { disputed with quietEnd := 100 }

theorem witness_CaseResolveRulesAConflict_lapse_unset_and_job :
    Lapses disputedDue { holdingOne disputedDue with clock := ⟨none, 8650800, 0, 100⟩ } ∧
      Lapses { disputedDue with job := some (.issue, .A) } (holdingOne { disputedDue with job := some (.issue, .A) }) := by
  decide

theorem witness_CaseResolveRulesAConflict_lapse_gaps :
    (Lapses { disputedDue with cmax := 566 } (holdingOne { disputedDue with cmax := 566 }) ∧
        gapCount { disputedDue with cmax := 566 } = 65) ∧
      Lapses { disputedDue with cmax := 565 } (holdingOne { disputedDue with cmax := 565 }) ∧
        gapCount { disputedDue with cmax := 565 } = 64 := by decide

theorem witness_IssueAbortDecidesByPhase :
    let at6 (ph : Phase) : Job := { issuing ph with nextSegment := 6 }
    let granted (s : State) : State := { s with signing := { Signing.fresh with grantee := some (.port .A) } }
    Reaches .issueAbort (ask [0, 0, 0, 1]) rootLink [] (atWork (issuing .write) none) ∧
      (atWork (issuing .write) none).findCase 1 = some issued1 ∧ issued1.owner = rootLink ∧
      issued1.job = some (.issue, .A) ∧ ((atWork (issuing .write) none).port .A).job = some (issuing .write) ∧
      (granted (atWork (at6 .write) none)).signing.grantee = some (.port .A) ∧
      (at6 .write).nextSegment = activationSegment .standard ∧ (at6 .verify).phase = .verify ∧
      (issuing .write).nextSegment ≠ activationSegment .standard ∧ (issuing .write).abortPending = false ∧
      ((granted (withPortA (working (recovering .mark) none) (holdingOne { issued1 with job := some (.recover, .A) }))).port
        .A).job = some (recovering .mark) ∧ (recovering .mark).kind = .recover ∧
      (atWork (issuing .write) none).signing.grantee ≠ some (.port .A) ∧
      Reaches .issueAbort (ask [0, 0, 0, 1]) rootLink [] (atWork { issuing .check with abortPending := true } none) := by
  decide

/-- Nothing is due at the end of a job of an unsettled case without a settle due mark. -/
theorem nothingDue_of_unsettled {c : Case} (s : State) (hd : c.settleDue = none) (hs : c.state ≠ .settled) :
    NothingDue c s := ⟨hd, fun _ h => absurd h hs⟩

theorem witness_IssueAbortDecidesByPhase_end :
    (NothingDue issued1 (atWork (issuing .waitingCard) none) ∧ (issuing .waitingCard).caseNo = issued1.number ∧
      ((atWork (issuing .waitingCard) none).port .A).job = some (issuing .waitingCard)) ∧
      let c : Case := { issued1 with settleDue := some .forced }
      let s := withPortA (working (issuing .torn) none) (holdingOne c)
      Reaches .issueAbort (ask [0, 0, 0, 1]) rootLink [] s ∧ s.findCase 1 = some c ∧ c.job = some (.issue, .A) ∧
        (s.port .A).job = some (issuing .torn) ∧ c.settleDue = some .forced ∧ c.state ≠ .settled ∧ c.conflicts = [] ∧
        s.clock.second ≠ none :=
  ⟨⟨nothingDue_of_unsettled _ rfl (by decide), by decide⟩, by decide⟩

theorem witness_ReadingRequestsLeaveTheState :
    Reaches .caseQuery (ask [0, 0, 0, 1, 3, 63]) rootLink [] (holdingOne watched) ∧ casePartOf 3 = some .chain ∧
      (holdingOne watched).findCase 1 = some watched ∧
      Reaches .caseList (ask [0, 0, 0, 1, 1, 2]) rootLink [] running ∧ stateFilterOf 1 = some none ∧
      ownerFilterOf 2 = some true := by decide

theorem witness_ReadingRequestsLeaveTheState_tables :
    Reaches .concessionRead (ask []) rootLink [] running ∧
      Reaches .hotlistRead (ask [1, 0, 255]) rootLink [] running ∧ Reaches .hotlistRead (ask [2, 1, 255]) rootLink [] running ∧
      fieldAt 1 2 (ask [1, 0, 255]).body = 255 ∧ fieldAt 1 2 (ask [2, 1, 255]).body = 511 ∧
      fieldAt 0 1 (ask [1, 0, 255]).body = 1 ∧ fieldAt 0 1 (ask [2, 1, 255]).body = 2 := by decide

theorem witness_ReadingRequestsLeaveTheState_records :
    Reaches .zoneStatus (ask [12]) rootLink [] running ∧ zoneOf 12 = some 11 ∧
      Reaches .portStatus (ask [4]) rootLink [] running ∧ portOf 4 = some .D ∧
      Reaches .linkRead (ask [32]) rootLink [] running ∧ linkOf 32 = some 31 ∧
      Reaches .timeRead (ask []) rootLink [] running ∧ Reaches .deviceStatus (ask []) rootLink [] running := by decide

/-! ### Concession table and hotlist -/

theorem witness_ConcessionSetStoresTheRow :
    FrameReady .concessionSet (ask [15, 1, 0x86, 0xA1, 0, 15, 0, 1, 0x2C, 4]) [] running ∧ linkOf 1 = some rootLink ∧
      running.links[rootLink].state = .active ∧ running.links[rootLink].rights.admin = true ∧
      fieldAt 0 1 [15, 1] = (15 : Fin 16).val ∧ 15 < fieldAt 0 1 [16, 1] ∧
      FrameReady .concessionSet (feed [15, 1, 0x86, 0xA1, 0, 15, 0, 1, 0x2C, 4]) [] running ∧ linkOf 2 = some 1 ∧
      running.links[(1 : LinkId)].state = .active ∧ running.links[(1 : LinkId)].rights.admin = false := by decide

theorem witness_HotlistCutTakesThePackage :
    FrameReady .hotlistCut (ask []) [] (holdingOne watched) ∧ linkOf 1 = some rootLink ∧
      running.links[rootLink].state = .active ∧ running.links[rootLink].rights.admin = true ∧
      (holdingOne watched).hotlist.packaging = .idle ∧ (holdingOne watched).hotlist.pending ≠ [] ∧
      (holdingOne watched).hotlist.generation < 4294967295 ∧ running.hotlist.pending = [] ∧
      FrameReady .hotlistCut (ask []) [] { running with hotlist := ⟨[], [⟨.add, 777, 1, true⟩], 0, .packaging⟩ } ∧
      FrameReady .hotlistCut (ask []) [] { running with hotlist := ⟨[], [⟨.remove, 777, 1, false⟩], 4294967295, .idle⟩ } ∧
      FrameReady .hotlistCut (feed []) [] running ∧ running.links[(1 : LinkId)].rights.admin = false := by decide

/-! ### Zones -/

theorem witness_ZoneConfigureSetsTheRecord :
    Reaches .zoneConfigure (ask [12, 2, 0, 8]) rootLink [] running ∧ zoneOf 12 = some 11 ∧ sumMethodOf 2 = some .packed ∧
      running.zones[(11 : ZoneId)].state = .unused ∧
      (withZone 11 (zoneIn .held) running).zones[(11 : ZoneId)].state = .held := by decide

theorem witness_ZoneControlsChangeOneZone :
    zoneOf 5 = some 4 ∧ Reaches .zoneRelease (ask [5]) rootLink [] (withZone 4 (zoneIn .held) running) ∧
      Reaches .zoneRelease (ask [5]) rootLink [] running ∧
      Reaches .zoneHold (ask [5]) rootLink [] (withZone 4 (zoneIn .aligned) running) ∧
      Reaches .zoneHold (ask [5]) rootLink [] (withZone 4 (zoneIn .held) running) ∧
      Reaches .zoneHold (ask [5]) rootLink [] running := by decide

theorem witness_ZoneControlsChangeOneZone_resync_and_clear :
    Reaches .zoneResync (ask [5]) rootLink [] (withZone 4 (zoneIn .hunt) running) ∧
      Reaches .zoneResync (ask [5]) rootLink [] (withZone 4 (zoneIn .held) running) ∧
      Reaches .zoneClear (ask [5]) rootLink [] (withZone 4 (zoneIn .openBatch) running) ∧
      Reaches .zoneClear (ask [5]) rootLink [] running ∧ running.zones[(4 : ZoneId)].state = .unused := by decide

/-- Zones 4 and 5 configured, zone 5 HELD, and a case that has zone 4 closed and lacks zone 5. -/
def lacking : State :=
  withZone 4 (zoneIn .held) (withZone 3 (zoneIn .hunt) (holdingOne { watched with zonesClosed := 0x008#12 }))

theorem lacking_caseTable : CaseTableOk lacking := by
  refine ⟨by decide, by decide, ?_, ?_, by decide, by decide, by decide, by decide, by decide⟩
  · intro c hc
    have h : c = { watched with zonesClosed := 0x008#12 } := by simpa [lacking, withZone, holdingOne] using hc
    subst h
    refine ⟨by decide, by decide, fun n hn => ?_⟩
    cases hn; decide
  · intro n hn; cases hn; decide

theorem witness_ZoneRemoveTestsTheCasesThatLackedIt :
    Reaches .zoneRemove (ask [5]) rootLink [] lacking ∧ CaseTableOk lacking ∧ zoneOf 5 = some 4 ∧
      lacking.zones[(4 : ZoneId)].state = .held ∧ lacking.clock.second ≠ none ∧
      (∀ c ∈ lacking.cases, c.state ≠ .settled ∧ c.zonesClosed.getLsbD 4 = false ∧ c.job = none ∧
        c.review = ⟨false, false, false⟩ ∧ gapCount c = 0 ∧
        closedAll (lacking.zones.set 4 { zoneIn .held with state := .unused }) c.zonesClosed = true) ∧
      closedAll lacking.zones 0 = false :=
  ⟨by decide, lacking_caseTable, by decide, by decide, by decide, by decide, by decide⟩

theorem witness_BatchHeaderOpensTheBatch :
    let s := withZone 4 (zoneIn .hunt) running
    let b : List Byte := [5, 0, 0, 0, 1, 0, 0, 0, 0, 0, 99, 0, 105]
    Reaches .batchHeader (feed b) 1 [] s ∧ zoneOf 5 = some 4 ∧ s.links[(1 : LinkId)].zone = some 4 ∧
      s.zones[(4 : ZoneId)].state = .hunt ∧ s.clock.second ≠ none ∧ s.zones[(4 : ZoneId)].method = .field ∧
      fieldAt 11 2 b = (4 + 1 + fieldAt 1 4 b + fieldAt 5 4 b + fieldAt 9 2 b) % 65536 ∧ 1 ≤ fieldAt 1 4 b ∧
      fieldAt 5 4 b ≤ s.hotlist.generation ∧ s.zones[(4 : ZoneId)].expected = none := by decide

/-- A header on an open batch: one whose malformed count stays below the threshold and one whose count reaches it. -/
theorem witness_BatchHeaderOpensTheBatch_open :
    ∀ n ∈ [0, 2],
      let s := withZone 4
        { zoneIn .openBatch with batch := some ⟨7, 0, 99, [], 0⟩, counts := ⟨0, 0, 0, n⟩, expected := some 1 } running
      let b : List Byte := [5, 0, 0, 0, 1, 0, 0, 0, 0, 0, 99, 0, 105]
      Reaches .batchHeader (feed b) 1 [] s ∧ s.links[(1 : LinkId)].zone = some 4 ∧
        s.zones[(4 : ZoneId)].state = .openBatch ∧ s.clock.second ≠ none ∧ s.zones[(4 : ZoneId)].method = .field ∧
        fieldAt 11 2 b = 105 ∧ fieldAt 1 4 b = 1 ∧ fieldAt 5 4 b = s.hotlist.generation ∧
        s.zones[(4 : ZoneId)].expected = some 1 := by decide

theorem witness_FeedFaultsAreCounted :
    let s := withZone 4 { zoneIn .aligned with expected := some 2 } running
    Reaches .batchHeader (feed [5, 0, 0, 0, 1, 0, 0, 0, 0, 0, 99, 0, 104]) 1 [] s ∧
      Reaches .batchHeader (feed [5, 0, 0, 0, 0, 0, 0, 0, 0, 0, 99, 0, 104]) 1 [] s ∧
      Reaches .batchHeader (feed [5, 0, 0, 0, 1, 0, 0, 0, 0, 0, 99, 0, 105]) 1 [] s ∧
      Reaches .batchHeader (feed [5, 0, 0, 0, 3, 0, 0, 0, 0, 0, 99, 0, 107]) 1 [] s ∧
      headerSum s.zones[(4 : ZoneId)] 4 (bodyHeader [5, 0, 0, 0, 3, 0, 0, 0, 0, 0, 99, 0, 107]) [] = 107 ∧
      s.clock.second ≠ none ∧ s.links[(1 : LinkId)].zone = some 4 ∧ s.zones[(4 : ZoneId)].expected = some 2 ∧
      let u := withZone 4 { zoneIn .openBatch with batch := some ⟨1, 0, 99, [], 0⟩, counts := ⟨2, 0, 0, 0⟩ } running
      Reaches .batchEnd (feed [5, 0, 1, 0, 0]) 1 [] u ∧ u.zones[(4 : ZoneId)].state = .openBatch ∧
        u.zones[(4 : ZoneId)].batch = some ⟨1, 0, 99, [], 0⟩ ∧ fieldAt 1 2 [5, 0, 1, 0, 0] ≠ 0 := by decide

/-- What the checks before a feed request's own refuse: no zone, another zone than the link's, an unused and a held zone. -/
theorem witness_FeedFaultsAreCounted_refusals :
    (Reaches .batchEnd (feed [13, 0, 0, 0, 0]) 1 [] running ∧ zoneOf 13 = none ∧ zoneOf 0 = none) ∧
      (Reaches .batchEnd (feed [4, 0, 0, 0, 0]) 1 [] running ∧ zoneOf 4 = some 3 ∧ running.links[(1 : LinkId)].zone ≠ some 3) ∧
      (Reaches .batchEnd (feed [5, 0, 0, 0, 0]) 1 [] running ∧ running.zones[(4 : ZoneId)].state = .unused) ∧
      Reaches .batchEnd (feed [5, 0, 0, 0, 0]) 1 [] (withZone 4 (zoneIn .held) running) := by decide

/-- No batch is open in HUNT and in ALIGNED; an unset clock stops a header. -/
theorem witness_FeedFaultsAreCounted_no_batch_and_no_time :
    (∀ st ∈ [ZoneState.hunt, .aligned],
      let s := withZone 4 (zoneIn st) running
      Reaches .batchEnd (feed [5, 0, 0, 0, 0]) 1 [] s ∧ s.zones[(4 : ZoneId)].state = st ∧
        Reaches .batchRecords (feed ([5, 1] ++ List.replicate 20 0)) 1 [] s) ∧
      let s := withZone 4 (zoneIn .hunt) { running with clock := ⟨none, 8650800, 0, 100⟩ }
      Reaches .batchHeader (feed [5, 0, 0, 0, 1, 0, 0, 0, 0, 0, 99, 0, 105]) 1 [] s ∧ s.clock.second = none := by decide

/-- A generation one above the current one. -/
theorem witness_FeedFaultsAreCounted_generation :
    let b : List Byte := [5, 0, 0, 0, 1, 0, 0, 0, 1, 0, 99, 0, 106]
    let s := withZone 4 (zoneIn .openBatch) running
    Reaches .batchHeader (feed b) 1 [] s ∧ (bodyHeader b).sum = headerSum s.zones[(4 : ZoneId)] 4 (bodyHeader b) b ∧
      s.hotlist.generation + 1 = (bodyHeader b).generation := by decide

theorem witness_BatchRecordsJoinTheBuffer :
    let s := withZone 4 { zoneIn .openBatch with batch := some ⟨1, 0, 99, [], 0⟩ } running
    let b : List Byte := [5, 1] ++ [0, 0, 0, 0, 3, 9, 0, 1, 0xF5, 9] ++ List.replicate 10 0
    Reaches .batchRecords (feed b) 1 [] s ∧ zoneOf 5 = some 4 ∧ s.links[(1 : LinkId)].zone = some 4 ∧
      s.zones[(4 : ZoneId)].batch = some ⟨1, 0, 99, [], 0⟩ ∧ fieldAt 1 1 b = 1 ∧
      ((eventRecords 1 (b.drop 2)).map recordMark).map (fun m => m.2) = [some .unknownKind] ∧
      getCount .unknownKind (raiseCount .unknownKind s.zones[(4 : ZoneId)].counts) < s.zones[(4 : ZoneId)].threshold := by
  decide

/-- The bytes of a void record: kind code 9. -/
def voidBytes : List Byte := [0, 0, 0, 0, 3, 9, 0, 1, 0xF5, 9] ++ List.replicate 10 0

/-- Zone 5 with an open batch that holds some records and with the unknown kinds counted so far. -/
def filling (held unknown : Nat) : State :=
  withZone 4
    { zoneIn .openBatch with
      batch := some ⟨1, 0, 99, List.replicate held (.void voidBytes), 0⟩, counts := ⟨0, 0, unknown, 0⟩ } running

theorem filling_held (held unknown : Nat) :
    ((filling held unknown).zones[(4 : ZoneId)].batch.map fun o => o.buffer.length) = some held :=
  congrArg some List.length_replicate

theorem voidBytes_mark : recordMark voidBytes = (.void voidBytes, some .unknownKind) := by decide

theorem belowThreshold_one_void : BelowThreshold [voidBytes] (filling 0 1).zones[(4 : ZoneId)] := by
  intro c hc
  rw [List.map_singleton, voidBytes_mark] at hc
  cases List.mem_singleton.mp hc
  decide

/-- Counts of 0 and of 17; a void record below the threshold and one that reaches it. -/
theorem witness_BatchRecordsJoinTheBuffer_counts :
    (Reaches .batchRecords (feed [5, 0]) 1 [] (filling 0 0) ∧
        Reaches .batchRecords (feed ([5, 17] ++ List.replicate 340 0)) 1 [] (filling 0 0)) ∧
      (Reaches .batchRecords (feed ([5, 1] ++ voidBytes)) 1 [] (filling 0 1) ∧
        eventRecords 1 voidBytes = [] ++ voidBytes :: [] ∧
        (filling 0 2).zones[(4 : ZoneId)].threshold ≤
          getCount .unknownKind (raiseCount .unknownKind (countsAfter [] (filling 0 2).zones[(4 : ZoneId)].counts))) ∧
      BelowThreshold [voidBytes] (filling 0 1).zones[(4 : ZoneId)] := ⟨⟨by decide, by decide +kernel⟩, by decide, belowThreshold_one_void⟩

/-- 255 records held take one more; at 256 the next is the 257th. -/
theorem witness_BatchRecordsJoinTheBuffer_full :
    (∀ held ∈ [255, 256], Reaches .batchRecords (feed ([5, 1] ++ voidBytes)) 1 [] (filling held 0)) ∧
      ((filling 255 0).zones[(4 : ZoneId)].batch.map fun o => o.buffer.length) = some 255 ∧
      ((filling 256 0).zones[(4 : ZoneId)].batch.map fun o => o.buffer.length) = some 256 ∧
      BelowThreshold [] (filling 256 0).zones[(4 : ZoneId)] :=
  ⟨by decide, filling_held 255 0, filling_held 256 0, fun c hc => nomatch hc⟩

/-- A batch of one PAID of card 777 under generation 1, which is the generation of case 1. -/
def committing : State :=
  withZone 4 { zoneIn .openBatch with batch := some ⟨1, 1, 99, [.good ⟨777, 501, .paid, 230, 0, 99, 600, 17⟩], 513⟩ }
    { holdingOne { watched with generation := some 1 } with hotlist := ⟨[⟨777, 1, some 1⟩], [], 1, .idle⟩ }

theorem committing_caseTable : CaseTableOk committing := by
  refine ⟨by decide, by decide, ?_, ?_, by decide, by decide, by decide, by decide, by decide⟩
  · intro c hc
    have h : c = { watched with generation := some 1 } := by simpa [committing, withZone, holdingOne] using hc
    subst h
    refine ⟨by decide, by decide, fun n hn => ?_⟩
    cases hn; decide
  · intro n hn; cases hn; decide

theorem witness_BatchEndCommits :
    Reaches .batchEnd (feed [5, 0, 1, 2, 1]) 1 [] committing ∧ CaseTableOk committing ∧ zoneOf 5 = some 4 ∧
      committing.links[(1 : LinkId)].zone = some 4 ∧ committing.zones[(4 : ZoneId)].state = .openBatch ∧
      (committing.zones[(4 : ZoneId)].batch.map fun o => (o.buffer.length, o.bodySum)) =
        some (fieldAt 1 2 [5, 0, 1, 2, 1], fieldAt 3 2 [5, 0, 1, 2, 1]) ∧
      committing.zones[(4 : ZoneId)].reached < 1 ∧ (committing.cases.map fun c => c.generation) = [some 1] :=
  ⟨by decide, committing_caseTable, by decide, by decide, by decide, by decide, by decide, by decide⟩

/-- The committing state with another batch, case and zones. -/
def committingWith (o : OpenBatch) (c : Case) (s : State) : State :=
  withZone 4 { zoneIn .openBatch with batch := some o }
    { s with cases := [c], nextCase := some 2, hotlist := ⟨[entryOf c], [], 1, .idle⟩ }

theorem committingWith_caseTable (o : OpenBatch) (c : Case) (s : State) (h : c.number = 1) :
    CaseTableOk (committingWith o c s) := by
  have only : ∀ d ∈ [c], d = c := fun d hd => List.mem_singleton.mp hd
  refine ⟨List.pairwise_singleton .., List.pairwise_singleton .., ?_, ?_, by simp [committingWith, withZone],
    List.pairwise_singleton .., ?_, ?_, by simp [committingWith, withZone]⟩
  · intro d hd
    rw [only d hd, h]
    refine ⟨by decide, by decide, fun n hn => ?_⟩
    cases hn; decide
  · intro n hn; cases hn; decide
  · intro e he; exact ⟨c, List.mem_singleton.mpr rfl, List.mem_singleton.mp he⟩
  · intro d hd; rw [only d hd]; exact List.mem_singleton.mpr rfl

/-- No case is newly closed: its generation is above the batch's, or the zone is closed for it already. -/
theorem witness_BatchEndCommits_none_closed :
    let o : OpenBatch := ⟨1, 1, 99, [.good ⟨777, 501, .paid, 230, 0, 99, 600, 17⟩], 513⟩
    (∀ c ∈ [{ watched with generation := some 2 }, { watched with generation := some 1, zonesClosed := 0x010#12 }],
      CaseTableOk (committingWith o c running) ∧
        Reaches .batchEnd (feed [5, 0, 1, 2, 1]) 1 [] (committingWith o c running) ∧
        (1 < c.generation.getD 0 ∨ c.zonesClosed.getLsbD 4 = true)) := by
  intro o c hc
  rcases List.mem_cons.mp hc with rfl | hc
  · exact ⟨committingWith_caseTable _ _ _ rfl, by decide⟩
  · cases List.mem_singleton.mp hc
    exact ⟨committingWith_caseTable _ _ _ rfl, by decide⟩

/-- A PAID inserted into a SETTLED case, and one that conflicts with the chain of a case in WATCH: one report each. -/
theorem witness_BatchEndCommits_reports :
    let e : CardEvent := ⟨777, 501, .paid, 230, 0, 99, 600, 17⟩
    let o : OpenBatch := ⟨1, 1, 99, [.good e], 513⟩
    ∀ c ∈ [settledCase1 false, { watched with chain := [{ e with amount := 99 }], cmax := 501 }],
      let s := committingWith o c running
      CaseTableOk s ∧ Reaches .batchEnd (feed [5, 0, 1, 2, 1]) 1 [] s ∧ (feedReports s [e] s.cases).length = 1 := by
  intro e o c hc
  rcases List.mem_cons.mp hc with rfl | hc
  · exact ⟨committingWith_caseTable _ _ _ rfl, by decide⟩
  · cases List.mem_singleton.mp hc
    exact ⟨committingWith_caseTable _ _ _ rfl, by decide⟩

/-- Zones 4 and 5 configured, zone 5 HELD, and one case. -/
def lackingWith (c : Case) (s : State) : State :=
  withZone 4 (zoneIn .held) (withZone 3 (zoneIn .hunt) (committingWith ⟨1, 1, 99, [], 0⟩ c s))

/-- Cases that lacked zone 5 alone: one with a job, one in review, one with 64 gaps, which settles, and one with 65, which is
reported; and a clock that is unset. -/
theorem witness_ZoneRemoveTestsTheCasesThatLackedIt_kept :
    (∀ c ∈ [{ issued1 with zonesClosed := 0x008#12 }, { watched with zonesClosed := 0x008#12, review := ⟨true, false, false⟩ },
        { watched with zonesClosed := 0x008#12, cmax := 564 }, { watched with zonesClosed := 0x008#12, cmax := 565 }],
      let s := lackingWith c running
      CaseTableOk s ∧ Reaches .zoneRemove (ask [5]) rootLink [] s ∧ c.state ≠ .settled ∧ c.zonesClosed.getLsbD 4 = false ∧
        closedAll (s.zones.set 4 { zoneIn .held with state := .unused }) c.zonesClosed = true ∧
        ((triggerReport s c).isSome = true ↔ gapCount c = 65) ∧
        ((autoTriggered true s c).state = .settled ↔ gapCount c = 64)) ∧
      Reaches .zoneRemove (ask [5]) rootLink [] { lackingWith watched running with clock := ⟨none, 0, 0, 100⟩ } := by
  refine ⟨fun c hc => ⟨committingWith_caseTable ⟨1, 1, 99, [], 0⟩ c running ?_, ?_⟩, by decide⟩
  · revert c; decide
  · revert c; decide

/-- A BLOCKED record closes the zone for its case beside a void record; with zone 4 configured the case still lacks it, and without
it every configured zone is closed and the case settles. -/
theorem witness_BatchEndCommits_blocked :
    let e : CardEvent := ⟨777, 501, .blocked, 0, 0, 99, 600, 17⟩
    let o : OpenBatch := ⟨4294967295, 0, 99, [.good e, .void voidBytes], 0⟩
    let c : Case := watched
    ∀ s ∈ [running, withZone 3 (zoneIn .hunt) running],
      CaseTableOk (committingWith o c s) ∧ Reaches .batchEnd (feed [5, 0, 2, 0, 0]) 1 [] (committingWith o c s) ∧
        masterCase e.cardNo (committingWith o c s).hotlist = some c.number ∧ classify c e ≠ .stale ∧
        c.state ≠ .settled ∧ c.zonesClosed.getLsbD 4 = false ∧
        (closedAll (committingWith o c s).zones (0x010#12) = true ↔ s.zones[(3 : ZoneId)].state = .unused) := by
  intro e o c s hs
  rcases List.mem_cons.mp hs with rfl | hs
  · exact ⟨committingWith_caseTable _ _ _ rfl, by decide, by decide, by decide, by decide, by decide, by decide⟩
  · cases List.mem_singleton.mp hs
    exact ⟨committingWith_caseTable _ _ _ rfl, by decide, by decide, by decide, by decide, by decide, by decide⟩

/-! ### Ports -/

theorem witness_PortConfigureSetsThePort :
    Reaches .portConfigure (ask [4, 0, 2, 16, 0, 0, 49, 2, 0x59]) rootLink [] running ∧ portOf 4 = some .D ∧
      markOf 0 = some false ∧ writeModeOf 2 = some .careful ∧ (running.port .D).job = none ∧
      Reaches .portConfigure (ask [1, 1, 1, 0, 15, 7, 0xD0, 0, 10]) rootLink [] (atWork (issuing .write) none) ∧
      ((atWork (issuing .write) none).port .A).job ≠ none := by decide

theorem witness_PortUnfenceReturnsThePort :
    FrameReady .portUnfence (ask [4]) [] running ∧ FrameReady .portUnfence (ask [5]) [] running ∧ portOf 4 = some .D ∧
      portOf 5 = none ∧ linkOf 1 = some rootLink ∧ running.links[rootLink].rights.admin = true ∧
      FrameReady .portUnfence (feed [1]) [] running ∧ linkOf 2 = some 1 ∧
      running.links[(1 : LinkId)].state = .active ∧ running.links[(1 : LinkId)].rights.admin = false := by decide

theorem witness_ArrivedSetsTheCard :
    inService (running.port .A) = true ∧ (running.port .A).card = none ∧ (running.port .A).job = none ∧
      (withPortA { PortRec.erased with card := some ⟨42, .standard⟩ } running).ports.a.card = some ⟨42, .standard⟩ ∧
      inService ((withPortA { working (issuing .waitingCard) none with card := none } (holdingOne issued1)).port .A) = true ∧
      (issuing .waitingCard).phase = .waitingCard := by decide

/-- Case 1 with a RECOVER job on port A. -/
def recovered1 : Case := { watched with job := some (.recover, .A) }

/-- The running state with case 1 and its RECOVER job at work on port A. -/
def recoveringAt (j : Job) (cmd : Option Command) : State := withPortA (working j cmd) (holdingOne recovered1)

theorem witness_ArrivedSetsTheCard_job :
    (∃ t, inService ((atWork (issuing .write) (some (.write 0 none 0))).port .A) = true ∧
        exec (.left .A) (atWork (issuing .write) (some (.write 0 none 0))) = .next t) ∧
      let torn (target : Serial) : State :=
        withPortA { working { issuing .torn with target := some target } none with card := none } (holdingOne issued1)
      inService ((torn 43).port .A) = true ∧ ((torn 43).port .A).card = none ∧
        ((torn 43).port .A).job = some { issuing .torn with target := some 43 } ∧
        (({ issuing .torn with target := some 43 } : Job).target = some 43) ∧
        ({ issuing .torn with target := some 44 } : Job).target ≠ some 43 := ⟨⟨_, by decide, rfl⟩, by decide⟩

theorem witness_LeftEndsTheCommand :
    inService (running.port .A) = true ∧ (running.port .A).card = none ∧ (running.port .A).job = none ∧
      (withPortA { PortRec.erased with card := some ⟨42, .standard⟩ } running).ports.a.card = some ⟨42, .standard⟩ ∧
      (let s := { atWork (issuing .write) none with signing := { Signing.fresh with grantee := some (.port .A) } }
       inService (s.port .A) = true ∧ (s.port .A).job = some (issuing .write) ∧ (issuing .write).abortPending = false ∧
        s.clock.second = some 8650800 ∧ isWaiting s.signing.waiting (.port .A) = false ∧
        s.signing.grantee = some (.port .A)) ∧
      (issuing .verify).nextSegment ≠ activationSegment .standard := by decide

/-- A job that is torn by a LEFT, by kind and phase. -/
theorem witness_LeftEndsTheCommand_tears :
    (∀ j ∈ [{ issuing .check with mode := .afterTear }, recovering .read, issuing .write,
        { issuing .verify with nextSegment := 5 }, { recovering .check with mode := .afterTear }],
      inService ((atWork j none).port .A) = true ∧ ((atWork j none).port .A).job = some j ∧ j.abortPending = false ∧
        (atWork j none).signing.grantee ≠ some (.port .A)) ∧
      let s := { atWork (issuing .write) none with
        signing := { Signing.fresh with grantee := some .hotlist, waiting := { ({} : Waiting) with a := true } } }
      s.signing.grantee ≠ some (.port .A) ∧ isWaiting s.signing.waiting (.port .A) = true := by decide

theorem witness_LeftEndsTheCommand_ends :
    (let j : Job := { issuing .write with abortPending := true }
     ((atWork j none).port .A).job = some j ∧ (atWork j none).findCase j.caseNo = some issued1) ∧
      NothingDue issued1 (atWork { issuing .write with abortPending := true } none) ∧
      (let j : Job := { issuing .verify with nextSegment := 6 }
       ((atWork j none).port .A).job = some j ∧ j.nextSegment = activationSegment .standard ∧
        (atWork j none).findCase j.caseNo = some issued1 ∧ issued1.issue.isSome = true ∧ issued1.state = .watch ∧
        ∀ d ∈ (atWork j none).cases, d.number = issued1.number → d = issued1) ∧
      let j : Job := { recovering .mark with contents := some ⟨[], some (1120, 1047), some none⟩ }
      ((recoveringAt j (some (.mark 0))).port .A).job = some j ∧
        (recoveringAt j (some (.mark 0))).findCase j.caseNo = some recovered1 ∧ recovered1.state ≠ .settled :=
  ⟨by decide, nothingDue_of_unsettled _ rfl (by decide), by decide, by decide⟩

theorem witness_DataDrivesTheCheck :
    (∀ reads ∈ [[], [none], [none, none]],
      let s := atWork { issuing .check with reads := reads } (some (.read 15))
      inService (s.port .A) = true ∧ (s.port .A).card = some ⟨42, .standard⟩ ∧
        (s.port .A).outstanding = some ⟨.read 15, some 8650800, 250⟩ ∧ contentOk .standard 15 none = true) ∧
      (let s := withPortA (working (recovering .check) (some (.read 0))) (holdingOne { watched with job := some (.recover, .A) })
       inService (s.port .A) = true ∧ (recovering .check).kind = .recover ∧
        (s.findCase 1).map (fun c => (c.snapshot.cardNo, c.snapshot.family)) = some (777, .standard) ∧
        contentOk .standard 0 (some (.header 777 .standard 90 none)) = true) := by decide

/-- A DATA with a content answers the outstanding READ of a segment at work on port A. -/
abbrev Answers (s : State) (j : Job) (seg : Nat) (content : Option Segment) (c : Case) : Prop :=
  inService (s.port .A) = true ∧ (s.port .A).job = some j ∧ (s.port .A).card = some ⟨42, .standard⟩ ∧
    (s.port .A).outstanding = some ⟨.read seg, some 8650800, 250⟩ ∧ contentOk .standard seg content = true ∧
    s.findCase j.caseNo = some c ∧ (∀ d ∈ s.cases, d.number = c.number → d = c) ∧ c.state = .watch ∧ c.settleDue = none

/-- A first check at its third read: a blank card, one partly written for the case, one activated for it, and a marked one. -/
theorem witness_DataDrivesTheCheck_first :
    let ours : Option Segment := some (.header 99000000000001 .standard 100 (some 1))
    let j (h a : Option Segment) : Job := { issuing .check with target := none, reads := [h, a] }
    (∀ h ∈ [none, ours], Answers (atWork (j h none) (some (.read 15))) (j h none) 15 none issued1) ∧
      Answers (atWork (j ours (some (.activation (some 1) 100))) (some (.read 15)))
        (j ours (some (.activation (some 1) 100))) 15 none issued1 ∧
      headerCase ours = some 1 ∧ issued1.issue.map (fun f => f.serial) = some 42 ∧
      Answers (atWork (j none none) (some (.read 15))) (j none none) 15 (some (.blockMark 16777215)) issued1 := by decide

theorem witness_DataDrivesTheCheck_afterTear :
    let ours : Option Segment := some (.header 99000000000001 .standard 100 (some 1))
    let other : Option Segment := some (.header 99000000000002 .standard 100 (some 2))
    let j (h a : Option Segment) : Job := { issuing .check with mode := .afterTear, nextSegment := 3, reads := [h, a] }
    (∀ h ∈ [none, ours], Answers (atWork (j h none) (some (.read 15))) (j h none) 15 none issued1) ∧
      Answers (atWork (j ours (some (.activation (some 1) 100))) (some (.read 15)))
        (j ours (some (.activation (some 1) 100))) 15 none issued1 ∧
      (j ours none).target = some 42 ∧
      Answers (atWork (j other none) (some (.read 15))) (j other none) 15 none issued1 ∧ headerCase other ≠ some 1 := by
  decide

/-- Port A in CAREFUL mode reads a segment back. -/
def readingBack (j : Job) : State :=
  withPortA { working j (some (.read j.nextSegment)) with mode := .careful } (holdingOne issued1)

/-- The figures of case 1. -/
def figures1 : IssueFigures := issueFigures .standard 42 100 watched

theorem witness_DataDrivesTheCheck_verify :
    let j (n : Nat) : Job := { issuing .verify with nextSegment := n }
    issued1.issue = some figures1 ∧
      (∀ n ∈ [0, 5, 6], Answers (readingBack (j n)) (j n) n (issueContent 1 figures1 n) issued1) ∧
      activationSegment .standard = 6 ∧
      (∀ r ∈ [0, 2, 3, 15],
        let k : Job := { j 0 with retries := r }
        Answers (readingBack k) k 0 none issued1 ∧ issueContent 1 figures1 0 ≠ none ∧ ((readingBack k).port .A).retryLimit = 3) ∧
      let k : Job := { j 0 with abortPending := true }
      Answers (readingBack k) k 0 none issued1 ∧ Answers (readingBack k) k 0 (issueContent 1 figures1 0) issued1 := by decide

/-- A RECOVER job reads a segment of its card. -/
abbrev Reading (seg : Nat) (content : Option Segment) : Prop :=
  Answers (recoveringAt (recovering .read) (some (.read seg))) (recovering .read) seg content recovered1

theorem witness_DataDrivesTheCheck_recover :
    (∀ content ∈ [some (.header 777 .standard 90 none), some (.header 778 .standard 90 none), none],
        Answers (recoveringAt (recovering .check) (some (.read 0))) (recovering .check) 0 content recovered1) ∧
      (Reading 1 (some (.product ⟨0, 1000, 1, .carnet 3 3⟩)) ∧ Reading 4 none ∧ purseSegment .standard = 5) ∧
      (Reading 5 (some (.purse (-5000) 16777215)) ∧ Reading 5 none) ∧ Reading 15 (some (.blockMark 0)) ∧ Reading 15 none :=
  ⟨by decide, ⟨by decide, by decide, by decide⟩, ⟨by decide, by decide⟩, by decide, by decide⟩

theorem witness_DoneConfirmsInBurst :
    let j (n g : Nat) : Job := { issuing .write with nextSegment := n, grantCount := g }
    let s (n g : Nat) : State :=
      { atWork (j n g) (some (.write n none 0)) with signing := { Signing.fresh with grantee := some (.port .A) } }
    (∀ n g, (n, g) ∈ [(0, 0), (3, 3), (6, 2)] →
      inService ((s n g).port .A) = true ∧ ((s n g).port .A).mode = .burst ∧
        ((s n g).port .A).outstanding = some ⟨.write n none 0, some 8650800, 250⟩ ∧
        (s n g).findCase 1 = some issued1 ∧ issued1.issue.isSome = true ∧ (s n g).signing.grantee = some (.port .A) ∧
        (s n g).signing.waiting = {}) ∧
      activationSegment .standard = 6 ∧ issued1.state = .watch ∧ issued1.settleDue = none := by
  refine ⟨?_, by decide, by decide, by decide⟩
  intro n g h
  simp only [List.mem_cons, Prod.mk.injEq, List.not_mem_nil, or_false] at h
  rcases h with ⟨rfl, rfl⟩ | ⟨rfl, rfl⟩ | ⟨rfl, rfl⟩ <;> decide

/-- A DONE answers the outstanding WRITE of segment `n` of the job at work on port A. -/
abbrev Confirms (s : State) (j : Job) (c : Case) : Prop :=
  inService (s.port .A) = true ∧ (s.port .A).job = some j ∧
    (s.port .A).outstanding = some ⟨.write j.nextSegment none 0, some 8650800, 250⟩ ∧ s.findCase j.caseNo = some c ∧
    c.issue = some figures1 ∧ c.state = .watch ∧ c.conflicts = [] ∧ s.clock.second ≠ none ∧
    ∀ d ∈ s.cases, d.number = c.number → d = c

/-- Under abort pending; at the fourth segment of a grant with others waiting; the activation, without and with a FORCED mark. -/
theorem witness_DoneConfirmsInBurst_ends :
    let write (n : Nat) : Option Command := some (.write n none 0)
    (∀ j ∈ [{ issuing .write with abortPending := true }, { issuing .write with nextSegment := 3, grantCount := 3 },
        { issuing .write with nextSegment := 6 }],
      Confirms (atWork j (write j.nextSegment)) j issued1 ∧ ((atWork j none).port .A).mode = .burst) ∧
      let c : Case := { issued1 with settleDue := some .forced }
      let j : Job := { issuing .write with nextSegment := 6 }
      Confirms (withPortA (working j (write 6)) (holdingOne c)) j c ∧ c.settleDue = some .forced := by decide

/-- CAREFUL: the written segment is read back; after a mismatch and its repeat, too; under abort pending the job ends. -/
theorem witness_DoneConfirmsInBurst_careful :
    ∀ j ∈ [issuing .write, issuing .verify, { issuing .write with abortPending := true },
        { issuing .verify with abortPending := true, retries := 2 }],
      let s := withPortA { working j (some (.write 0 none 0)) with mode := .careful } (holdingOne issued1)
      Confirms s j issued1 ∧ (s.port .A).mode = .careful := by decide

theorem witness_DoneOfAMarkRecovers :
    let j : Job := { recovering .mark with contents := some ⟨[], some (1120, 1047), some none⟩ }
    let s := withPortA (working j (some (.mark 0))) (holdingOne { watched with job := some (.recover, .A) })
    inService (s.port .A) = true ∧ (s.port .A).job = some j ∧ (s.findCase 1).map (fun c => c.state) = some .watch ∧
      (s.port .A).outstanding = some ⟨.mark 0, some 8650800, 250⟩ := by decide

theorem witness_FailuresAreRetried :
    (running.port .A).outstanding = some ⟨.sense, none, 250⟩ ∧ inService (running.port .A) = true ∧
      min 15 ((running.port .A).timeouts + 1) < (running.port .A).fenceThreshold ∧
      (let s := atWork { issuing .check with retries := 2 } (some (.read 0))
       (s.port .A).outstanding = some ⟨.read 0, some 8650800, 250⟩ ∧
        (s.port .A).job = some { issuing .check with retries := 2 } ∧ 2 < (s.port .A).retryLimit) := by decide

/-- A data error in the content; retries spent in a check, in a write and at a MARK; abort pending. -/
theorem witness_FailuresAreRetried_spent :
    (let s := atWork (issuing .check) (some (.read 0))
     (s.port .A).outstanding.map (fun o => o.command) = some (.read 0) ∧ (s.port .A).card = some ⟨42, .standard⟩ ∧
       contentOk .standard 0 (some (.header 777 .narrow 90 none)) = false) ∧
      (∀ r ∈ [3, 15],
        let s := atWork { issuing .write with retries := r } (some (.write 0 none 0))
        inService (s.port .A) = true ∧ s.findCase 1 = some issued1 ∧ (s.port .A).retryLimit = 3 ∧
          (s.port .A).job = some { issuing .write with retries := r } ∧ 0 < (s.port .A).retryLimit) ∧
      (let j : Job := { recovering .mark with retries := 3, contents := some ⟨[], some (1120, 1047), some none⟩ }
       let s := recoveringAt j (some (.mark 0))
       inService (s.port .A) = true ∧ (s.port .A).outstanding.map (fun o => o.command) = some (.mark 0) ∧
         (s.port .A).job = some j ∧ s.findCase 1 = some recovered1) ∧
      (let s := atWork { issuing .check with abortPending := true } (some (.read 0))
       (s.port .A).job = some { issuing .check with abortPending := true } ∧ s.findCase 1 = some issued1) := by decide

theorem witness_TimeoutAtTheThresholdFences :
    (let s := withPortA { PortRec.sensing with timeouts := 4 } running
     inService (s.port .A) = true ∧ (s.port .A).outstanding = some ⟨.sense, none, 250⟩ ∧ (s.port .A).job = none ∧
      (s.port .A).fenceThreshold ≤ min 15 ((s.port .A).timeouts + 1)) ∧
      (let s := withPortA { working (issuing .check) (some (.read 0)) with timeouts := 4 } (holdingOne issued1)
       inService (s.port .A) = true ∧ (s.port .A).outstanding = some ⟨.read 0, some 8650800, 250⟩ ∧
        (s.port .A).job = some (issuing .check) ∧ (s.port .A).fenceThreshold ≤ min 15 ((s.port .A).timeouts + 1)) := by
  decide

/-- A job at the threshold whose case has nothing due, and one whose case takes the FORCED mark. -/
theorem witness_TimeoutAtTheThresholdFences_due :
    let s (c : Case) := withPortA { working (issuing .write) (some (.read 0)) with timeouts := 4 } (holdingOne c)
    let c : Case := { issued1 with settleDue := some .forced }
    NothingDue issued1 (s issued1) ∧ (s issued1).findCase 1 = some issued1 ∧ (s c).findCase 1 = some c ∧
      inService ((s c).port .A) = true ∧ c.state ≠ .settled ∧ c.conflicts = [] ∧ (s c).clock.second ≠ none :=
  ⟨nothingDue_of_unsettled _ rfl (by decide), by decide⟩

theorem witness_TearWindowEndsTheJob :
    let s (e : Nat) := atWork { issuing .torn with tearEnd := some e } none
    (s 8650801).clock.second = some 8650800 ∧ ((s 8650801).port .A).job = some { issuing .torn with tearEnd := some 8650801 } ∧
      ((s 8650800).port .A).job = some { issuing .torn with tearEnd := some 8650800 } ∧
      (s 8650800).findCase 1 = some issued1 ∧ issued1.settleDue = none ∧ issued1.state ≠ .settled ∧
      (s 8650800).signing.grantee ≠ some (.port .A) ∧
      ∀ d ∈ (s 8650800).cases, d.number = issued1.number → d = issued1 := by decide

theorem holdingOne_caseTable (c : Case) (hn : c.number = 1) (hc : c.snapshot.cardNo = 777) : CaseTableOk (holdingOne c) := by
  have only : ∀ d ∈ [c], d = c := fun d hd => List.mem_singleton.mp hd
  have entry : entryOf c = ⟨777, c.number, c.generation⟩ := by rw [entryOf, hc]
  refine ⟨List.pairwise_singleton .., List.pairwise_singleton .., ?_, ?_, by simp [holdingOne],
    List.pairwise_singleton .., ?_, ?_, by simp [holdingOne]⟩
  · intro d hd
    rw [only d hd, hn]
    refine ⟨by decide, by decide, fun n hn => ?_⟩
    cases hn; decide
  · intro n hn; cases hn; decide
  · intro e he; exact ⟨c, List.mem_singleton.mpr rfl, (List.mem_singleton.mp he).trans entry.symm⟩
  · intro d hd; rw [only d hd, entry]; exact List.mem_singleton.mpr rfl

/-- Case 1 with a TORN job whose window ends at the clock's second. -/
def tornNow (c : Case) : State := withPortA (working { issuing .torn with tearEnd := some 8650800 } none) (holdingOne c)

theorem witness_TearWindowEndsTheJob_due :
    (∀ c ∈ [{ issued1 with settleDue := some .forced },
        { issued1 with settleDue := some .forced, conflicts := [⟨777, 504, .paid, 520, 0, 99, 600, 17⟩] },
        { issued1 with settleDue := some .automatic }, { issued1 with settleDue := some .automatic, quietEnd := 100 },
        { issued1 with settleDue := some .automatic, quietEnd := 100, review := ⟨true, false, false⟩ }],
      (tornNow c).findCase 1 = some c ∧ c.state ≠ .settled ∧ gapCount c ≤ 64 ∧
        (c.settleDue = some .forced ∨ c.quietEnd = 100 ∨ (tornNow c).clock.announcedDay < c.quietEnd)) ∧
      closedAll (tornNow issued1).zones issued1.zonesClosed = false ∧ (tornNow issued1).clock.announcedDay = 100 := by decide

theorem witness_TearWindowEndsTheJob_settled :
    let c : Case := { settledCase1 false with job := some (.issue, .A) }
    let s : State := { tornNow c with clock := ⟨some 16426800, 16426800, 0, 190⟩ }
    (s.findCase 1 = some c ∧ c.settlement = some (presumed false) ∧ c.settleDue = none ∧
      (presumed false).day + s.settings.retentionDays = s.clock.announcedDay) ∧
      NothingDue issued1 (tornNow issued1) ∧
      (let j : Job := { recovering .torn with tearEnd := some 8650800 }
       ((atWork j none).port .A).job = some j ∧ j.phase = .torn ∧ (atWork j none).clock.second = some 8650800) :=
  ⟨by decide, nothingDue_of_unsettled _ rfl (by decide), by decide⟩

/-! ### Links and reports -/

theorem witness_LinkCreateTakesTheLowestFreeRecord :
    Reaches .linkCreate (ask [4, 3, 12, 0, 0]) rootLink [] running ∧ readRights 4 = some ⟨false, false, true, false, false⟩ ∧
      channelOf 3 = some 3 ∧ zoneOf 12 = some 11 ∧ running.links[rootLink].rights = Rights.all ∧ (2 : LinkId) ≠ rootLink ∧
      running.links[(2 : LinkId)].state = .free ∧
      (∀ m : LinkId, m < 2 → m ≠ rootLink → running.links[m].state ≠ .free) ∧
      Reaches .linkCreate (ask [31, 0, 0, 0, 0]) rootLink [] running ∧ readRights 31 = some Rights.all := by decide

theorem witness_LinkManagementChangesTheTarget :
    linkOf 2 = some 1 ∧ running.links[(1 : LinkId)].state ≠ .free ∧ (1 : LinkId) ≠ rootLink ∧
      running.links[(1 : LinkId)].creator = some rootLink ∧ Reaches .linkMove (ask [2, 3, 1, 0]) rootLink [] running ∧
      channelOf 3 = some 3 ∧ Reaches .linkSuspend (ask [2]) rootLink [] running ∧
      Reaches .linkResume (ask [2]) rootLink [] running ∧ Reaches .linkDelete (ask [2, 0]) rootLink [] running ∧
      (∀ c : LinkId, running.links[c].state ≠ .free → running.links[c].creator ≠ some 1) ∧
      (∀ c ∈ running.cases, c.owner ≠ 1) ∧
      let s := holdingOne { watched with owner := 1 }
      Reaches .linkDelete (ask [2, 1]) rootLink [] s ∧ (∃ c ∈ s.cases, c.owner = 1) ∧ linkOf 1 = some rootLink ∧
        rootLink ≠ 1 ∧ s.links[rootLink].state = .active ∧ s.links[rootLink].rights.opens = true := by decide

theorem witness_ReportFetchTakesTheFirstReport :
    Reaches .reportFetch (ask []) rootLink [] running ∧
      running.channels[(0 : Fin 4)].queue = [⟨none, 0, .restarted .powerOn none⟩] ∧
      (let s := { running with channels := Vector.replicate 4 Channel.empty }
       Reaches .reportFetch (ask []) rootLink [] s ∧ ∀ c : Fin 4, s.channels[c].queue = []) ∧
      (let s := { running with channels := (Vector.replicate 4 Channel.empty).set 3 ⟨[⟨none, 0, .restarted .powerOn none⟩], 255⟩ }
       Reaches .reportFetch (ask []) rootLink [] s ∧ ∀ d : Fin 4, d < 3 → s.channels[d].queue = []) := by decide

/-! ### Clock, settings, restarts -/

/-- Seconds 8650799, 8650800 and 8737200 (day 101), against a clock and a floor at 8650800. -/
theorem witness_TimeSetMovesTheClock :
    Reaches .timeSet (ask [0, 0x84, 0, 0x2F]) rootLink [] running ∧ fieldAt 0 4 (ask [0, 0x84, 0, 0x2F]).body = 8650799 ∧
      Reaches .timeSet (ask [0, 0x84, 0, 0x30]) rootLink [] running ∧ fieldAt 0 4 (ask [0, 0x84, 0, 0x30]).body = 8650800 ∧
      Reaches .timeSet (ask [0, 0x85, 0x51, 0xB0]) rootLink [] (atWork { issuing .torn with tearEnd := some 8737200 } none) ∧
      fieldAt 0 4 (ask [0, 0x85, 0x51, 0xB0]).body = 8737200 ∧ running.clock.floor = 8650800 ∧
      running.clock.second = some 8650800 := by decide

theorem witness_SettingsSetStoresAndTests :
    Reaches .settingsSet (ask [5, 0xA0, 0, 0, 29, 2]) rootLink [] running ∧ arbModeOf 2 = some .fixed ∧
      ¬ running.clock.announcedDay < (8650800 - 60 * 1439) / 86400 ∧
      { running with clock := ⟨some 8737000, 8737000, 0, 100⟩ }.clock.announcedDay < (8737000 - 60 * 0) / 86400 ∧
      Reaches .settingsSet (ask [0, 0, 16, 0, 90, 1]) rootLink [] { running with clock := ⟨some 8737000, 8737000, 0, 100⟩ } := by
  decide

theorem witness_ClockTicksAndRollsOver :
    State.reset.clock.second = none ∧ running.clock.second = some 8650800 ∧
      (min 4294967295 (8650800 + 1) - 60 * running.settings.rolloverMinute) / 86400 ≤ running.clock.announcedDay ∧
      (let s := { lacking with clock := ⟨some 8737199, 8737199, 600, 100⟩ }
       s.clock.announcedDay < (min 4294967295 (8737199 + 1) - 60 * s.settings.rolloverMinute) / 86400 ∧
        isFed s.zones[(3 : ZoneId)].state = true) ∧
      CaseTableOk { lacking with clock := ⟨some 8737199, 8737199, 600, 100⟩ } :=
  ⟨by decide, by decide, by decide, by decide, lacking_caseTable⟩

/-- The last second of day 100. -/
def lastOfDay (c : Case) : State := { holdingOne c with clock := ⟨some 8737199, 8737199, 600, 100⟩ }

/-- A case settled on day 11 closes at the rollover to day 101; without one a pending change starts a cut. -/
theorem witness_ClockTicksAndRollsOver_closing :
    (let c : Case := { settledCase1 false with settlement := some { presumed false with day := 11 } }
     CaseTableOk (lastOfDay c) ∧ (11 + (lastOfDay c).settings.retentionDays = 101)) ∧
      CaseTableOk (lastOfDay watched) ∧ (lastOfDay watched).cases.map (fun c => c.state) = [.watch] ∧
      (lastOfDay watched).hotlist.pending.length = 1 ∧
      { lastOfDay watched with clock := ⟨some 8650800, 8650200, 600, 100⟩ }.clock.floorAge = 600 :=
  ⟨⟨holdingOne_caseTable _ rfl rfl, by decide⟩, holdingOne_caseTable _ rfl rfl, by decide, by decide, by decide⟩

theorem witness_RestartsLeaveTheStoredState :
    Reaches .deviceReset (ask []) rootLink [] running ∧ Reaches .deviceErase (ask []) rootLink [] running ∧
      busy.terminal.buffer.head?.map (fun p => p.answer.isSome) = some true ∧
      ({ running with terminal := ⟨[], false, 0, 0, some .deviceErase⟩ }).terminal.restartDue = some .deviceErase ∧
      ({ running with terminal := ⟨[], false, 0, 0, some .deviceReset⟩ }).terminal.restartDue = some .deviceReset := by
  decide

/-- The state in which the restart of a DEVICE RESET is due. -/
def resetDue (c : Case) (queue : List Nat) (autoCut : Nat) : State :=
  { holdingOne c with
    terminal := ⟨[], false, 0, 0, some .deviceReset⟩, signing := { Signing.fresh with queue := queue }
    settings := { running.settings with autoCut := autoCut } }

/-- After a restart a statement is queued, a change is pending past the automatic trigger, or neither. -/
theorem witness_RestartsLeaveTheStoredState_signing :
    (∃ t, exec .restart (resetDue watched [] 16) = .next t ∧ t.signing.queue = [] ∧ t.hotlist.packaging = .idle) ∧
      (∃ t, exec .powerOn (resetDue (settledCase1 true) [1] 16) = .next t ∧ t.signing.queue = [1] ∧ t.hotlist.packaging = .idle) ∧
      ∃ t, exec .restart (resetDue watched [] 1) = .next t ∧ t.signing.queue = [] ∧ t.hotlist.packaging = .packaging :=
  ⟨⟨_, rfl, by decide⟩, ⟨_, rfl, by decide⟩, _, rfl, by decide⟩

/-- A FORCED mark under DEVICE RESET, and a case without one. -/
theorem witness_RestartsLeaveTheStoredState_cases :
    let c : Case := { issued1 with settleDue := some .forced }
    CaseTableOk (resetDue c [] 16) ∧ (resetDue c [] 16).terminal.restartDue = some .deviceReset ∧
      (resetDue c [] 16).clock.second ≠ none ∧ c.state ≠ .settled ∧ c.conflicts = [] ∧
      CaseTableOk (resetDue issued1 [] 16) ∧ issued1.settleDue = none :=
  ⟨holdingOne_caseTable _ rfl rfl, by decide, by decide, by decide, by decide, holdingOne_caseTable _ rfl rfl, by decide⟩

/-- A list with the same two entries has one of two orders. -/
theorem order_of_two {α : Type} {a b : α} : ∀ {l : List α}, l.Perm [a, b] → l = [a, b] ∨ l = [b, a]
  | [x, y], h => by
    rcases List.mem_cons.mp (h.mem_iff.mp (List.mem_cons_self ..)) with rfl | hx
    · exact .inl (by rw [List.perm_singleton.mp ((List.perm_cons _).mp h)])
    · cases List.mem_singleton.mp hx
      exact .inr (by rw [List.perm_singleton.mp ((List.perm_cons _).mp (h.trans (List.Perm.swap ..)))])
  | [], h => nomatch h.length_eq
  | [_], h => nomatch h.length_eq
  | _ :: _ :: _ :: _, h => nomatch h.length_eq

/-- With a statement queued and a change pending both members ask, in either order. -/
theorem witness_RestartsLeaveTheStoredState_both :
    let s := resetDue (settledCase1 true) [1] 1
    ∃ t, exec .restart s = .next t ∧ t.signing.queue = [1] ∧ t.hotlist.packaging = .packaging := by
  intro s
  refine ⟨stampFloor s (restartDevice .deviceReset s), rfl, ?_⟩
  have both : ∀ l : List RestartTask, l.Perm [.statement, .cut] →
      let u := l.foldl (fun acc t => runRestartTask t acc) ((restartBase .deviceReset s).useChoices 2)
      u.signing.queue = [1] ∧ u.hotlist.packaging = .packaging := by
    intro l h
    rcases order_of_two h with rfl | rfl <;> decide
  have h := both _ (freeOrder_perm 2 (restartBase .deviceReset s).choices _ (by decide))
  rcases stampFloor_cases s (restartDevice .deviceReset s) with e | ⟨n, _, _, e⟩ <;> rw [e] <;> exact h

/-! ### The pick of the next grantee -/

/-- A signing unit with a waiting set and the last grantees of its two rings. -/
def ring (a b c d hotlist statement : Bool) (first : FirstPlace) (group : GroupPlace) : Signing :=
  { Signing.fresh with waiting := ⟨a, b, c, d, hotlist, statement⟩, lastFirst := first, lastGroup := group }

/-- R167: after port B port D comes before port A and the group; after the group port A; inside the group the other member. -/
theorem witness_IsNext_rotating :
    IsNext .rotating (ring true true false true true false (.port .B) .statement) (.port .D) ∧
      IsNext .rotating (ring true false false false true true .group .statement) (.port .A) ∧
      IsNext .rotating (ring false false false false true true .group .hotlist) .statement := by
  refine ⟨⟨by decide, ?_⟩, ⟨by decide, ?_⟩, by decide, ?_⟩ <;>
    · intro x; rcases x with (_ | _ | _ | _) | _ | _ <;> decide

/-- R168: under FIXED port A comes first, and the hotlist before the statements. -/
theorem witness_IsNext_fixed :
    IsNext .fixed (ring true true false true true true (.port .A) .hotlist) (.port .A) ∧
      IsNext .fixed (ring false false false false true true .group .hotlist) .hotlist := by
  refine ⟨⟨by decide, ?_⟩, by decide, ?_⟩ <;>
    · intro x; rcases x with (_ | _ | _ | _) | _ | _ <;> decide

/-! ### Completions of the signing unit -/

theorem witness_PackageCompletes :
    let s := { holdingOne watched with
      hotlist := ⟨[⟨777, 1, none⟩], [⟨.add, 777, 1, true⟩], 0, .packaging⟩
      signing := { Signing.fresh with
        grantee := some .hotlist, computation := some (.package ⟨[⟨.add, 777, 1, true⟩], 1⟩) } }
    s.signing.grantee = some .hotlist ∧ s.signing.computation = some (.package ⟨[⟨.add, 777, 1, true⟩], 1⟩) := by decide

theorem witness_StatementCompletes :
    let u := { Signing.fresh with
      grantee := some .statement, queue := [1]
      computation := some (.statement (statementInputs (settledCase1 true) (presumed true))) }
    let s := { holdingOne (settledCase1 true) with signing := u }
    s.signing.grantee = some .statement ∧ s.signing.queue = [1] ∧ s.findCase 1 = some (settledCase1 true) ∧
      (settledCase1 true).settlement = some (presumed true) ∧
      (∀ d ∈ s.cases, d.number = 1 → d = settledCase1 true) ∧
      ¬ (presumed true).day + s.settings.retentionDays ≤ s.clock.announcedDay ∧
      (let v := { s with clock := ⟨some 16426800, 16426800, 0, 190⟩ }
       v.clock.second ≠ none ∧ (settledCase1 true).state = .settled ∧ (settledCase1 true).job = none ∧
        (presumed true).day + v.settings.retentionDays ≤ v.clock.announcedDay) := by decide

/-- A package completion with port B waiting, after which a cut starts or not. -/
theorem witness_PackageCompletes_next :
    ∀ autoCut ∈ [1, 2],
      let s := { holdingOne watched with
        settings := { running.settings with autoCut := autoCut }
        hotlist := ⟨[⟨777, 1, none⟩], [⟨.remove, 778, 9, true⟩, ⟨.add, 777, 1, false⟩], 4, .packaging⟩
        signing := { ring false true false false false false .group .hotlist with
          grantee := some .hotlist, computation := some (.package ⟨[⟨.remove, 778, 9, true⟩], 5⟩) } }
      s.signing.grantee = some .hotlist ∧ s.signing.computation = some (.package ⟨[⟨.remove, 778, 9, true⟩], 5⟩) ∧
        (exec .hotlistGrantCompletion s |> seen fun t => (t.signing.grantee, t.hotlist.packaging, t.signing.waiting.hotlist)) =
          some (some (.port .B), if autoCut = 1 then .packaging else .idle, decide (autoCut = 1)) := by decide

/-- A statement completion that ends its case, with its ADD untaken and without it, and with more statements queued. -/
theorem witness_StatementCompletes_reached :
    ∀ pending ∈ [[⟨.add, 777, 1, false⟩], [⟨.add, 777, 1, true⟩], []],
      let s := { holdingOne (settledCase1 true) with
        clock := ⟨some 16426800, 16426800, 0, 190⟩, hotlist := ⟨[⟨777, 1, none⟩], pending, 0, .idle⟩
        signing := { ring true false false false true false .group .statement with
          grantee := some .statement, queue := [1, 2]
          computation := some (.statement (statementInputs (settledCase1 true) (presumed true))) } }
      s.signing.grantee = some .statement ∧ s.signing.queue = 1 :: [2] ∧ s.findCase 1 = some (settledCase1 true) ∧
        (settledCase1 true).settlement = some (presumed true) ∧ s.clock.second ≠ none ∧ (settledCase1 true).job = none ∧
        (presumed true).day + s.settings.retentionDays = s.clock.announcedDay := by decide

/-! ### Restoration arithmetic -/

theorem witness_AdjustmentDeltasByPlaceAndKind :
    let c : Case := { watched with snapshot := { snap with products := [⟨0, 1000, 1, .carnet 3 3⟩, ⟨1, 700, 1, .periodDays 7 none none⟩] } }
    (⟨777, 501, .paid, 180, 0, 99, 600, 17⟩ : CardEvent).kind = .paid ∧
      c.snapshot.products.find? (fun p => p.slot = 0) = some ⟨0, 1000, 1, .carnet 3 3⟩ ∧
      ∀ p ∈ c.snapshot.products, p.slot = 1 → kindName p.fields ≠ .carnet := by decide

end Sys2Proof.Tests
end

