-- ==== Sys2Proof/Proofs/HotlistCut.lean ====
section
/-! PROOF. HOTLIST CUT (R109): its refusals in order, and the cut that an accepted one starts (R106, R166). -/

namespace Sys2Proof.Machine

/-! ### The refusals in order (R109) -/

theorem cutStatus_of_packaging {h : Hotlist} (hp : h.packaging = .packaging) : cutStatus h = some .busy := by
  rw [cutStatus, if_pos hp]

theorem cutStatus_of_idle {h : Hotlist} (hp : h.packaging = .idle) :
    cutStatus h =
      if h.pending = [] then some .nothingPending else if max32 ≤ h.generation then some .tableFull else none := by
  simp only [cutStatus, hp, reduceCtorEq, if_false]

theorem handleHotlistCut_of_refused {l : LinkId} {b : List Byte} {s : State} {st : Status}
    (hc : cutStatus s.hotlist = some st) : handleHotlistCut l b s = (s, ⟨st, .none⟩) := by
  simp only [handleHotlistCut, hc, refuse]

theorem handleHotlistCut_of_accepted {l : LinkId} {b : List Byte} {s : State} (hc : cutStatus s.hotlist = none) :
    handleHotlistCut l b s = (startCut s, ⟨.done, cutFields s.hotlist⟩) := by
  simp only [handleHotlistCut, hc, answer]

/-- An active link without the right that the kind needs fails the link checks (R176). -/
theorem linkStatus_of_lacking_right {k : Kind} {l : LinkId} {s : State} (ha : s.links[l].state = .active)
    (hr : hasRight k s.links[l].rights = false) : linkStatus k l s = some .noRight := by
  simp only [linkStatus, ha, hr]
  rfl

/-- A request that passes the frame checks and fails the link checks is refused before its handler (R188, R176). -/
theorem handle_of_linkStatus {k : Kind} {h : Handler} {r : Request} {l : LinkId} {rest : List BufferPlace} {s : State}
    {st : Status} (hf : FrameReady k r rest s) (hl : linkOf r.link.toNat = some l) (hs : linkStatus k l s = some st) :
    handle k h r s = refuse st s := by
  obtain ⟨_, hlen, hflags⟩ := hf
  simp [handle, frameStatus, hlen, hflags, hl, hs]

/-- A HOTLIST CUT that one of its own checks refuses changes no state (R109). -/
theorem hotlistCut_refused {r : Request} {l : LinkId} {rest : List BufferPlace} {s : State} {st : Status}
    (hr : Reaches .hotlistCut r l rest s) (hc : cutStatus s.hotlist = some st) :
    Completes .hotlistCut r rest s s ⟨st, .none⟩ :=
  completes_of_cases rfl hr (handleHotlistCut_of_refused hc) rfl rfl

/-! ### The cut (R106, R166, R170) -/

/-- The pending list once a cut has taken up to 64 of its oldest changes (R106). -/
def pendingAfterCut (l : List Change) : List Change :=
  ((l.take 64).map fun c => { c with taken := true }) ++ l.drop 64

/-- A cut start changes the hotlist unit and the signing unit alone: the member asks with the taken changes and the generation
they will bear. -/
theorem startCut_state {s : State} (hp : s.hotlist.packaging = .idle) (hn : s.hotlist.pending ≠ [])
    (hg : s.hotlist.generation < max32) :
    startCut s =
      { s with
        hotlist := { s.hotlist with pending := pendingAfterCut s.hotlist.pending, packaging := .packaging }
        signing := asked .hotlist
          (some (.package
            ⟨(pendingAfterCut s.hotlist.pending).filter fun c => c.taken, s.hotlist.generation + 1⟩)) s.signing } := by
  rw [startCut_eq s hp hn hg, requestHotlist_eq, markTaken_eq]
  rfl

/-- An accepted HOTLIST CUT starts the cut and answers what the package bears (R109). -/
theorem hotlistCut_accepted {r : Request} {l : LinkId} {rest : List BufferPlace} {s : State}
    (hr : Reaches .hotlistCut r l rest s) (hc : cutStatus s.hotlist = none) :
    Completes .hotlistCut r rest s (startCut s) ⟨.done, cutFields s.hotlist⟩ :=
  completes_of_cases rfl hr (handleHotlistCut_of_accepted hc) (startCut_terminal s) (startCut_cases s)

/-- Settles O31: without ADMIN the link checks refuse, else the first status of `cutStatus`, else the cut starts. -/
theorem hotlistCutTakesThePackage : Obligations.HotlistCutTakesThePackage := by
  intro r l rest s hframe hlink hactive
  refine ⟨fun hadmin => ?noRight, fun hadmin => ?admin⟩
  case noRight => exact refuses_of rfl hframe.1 (handle_of_linkStatus hframe hlink (linkStatus_of_lacking_right hactive hadmin))
  case admin =>
    have hr : Reaches .hotlistCut r l rest s := ⟨hframe, hlink, hactive, hadmin⟩
    refine ⟨fun hp => ?busy, fun hp hn => ?nothing, fun hp hn hg => ?full, fun hp hn hg => ?cut⟩
    case busy => exact hotlistCut_refused hr (cutStatus_of_packaging hp)
    case nothing => exact hotlistCut_refused hr (by rw [cutStatus_of_idle hp, if_pos hn])
    case full => exact hotlistCut_refused hr (by rw [cutStatus_of_idle hp, if_neg hn]; exact if_pos hg)
    case cut =>
      have hc : cutStatus s.hotlist = none := by
        rw [cutStatus_of_idle hp, if_neg hn]; exact if_neg (Nat.not_le.mpr hg)
      have h := hotlistCut_accepted hr hc
      rwa [startCut_state hp hn hg] at h

end Sys2Proof.Machine
end

