-- ==== Sys2Proof/Proofs/PortUnfence.lean ====
section
/-! PROOF. PORT UNFENCE (R162): its two refusals, and the port record it leaves. -/

namespace Sys2Proof.Machine

/-! ### The port's record -/

/-- Two changes of one port's record in turn are one change. -/
@[simp] theorem modPort_modPort (s : State) (p : Port) (f g : PortRec → PortRec) :
    (s.modPort p f).modPort p g = s.modPort p fun r => g (f r) := by
  simp [State.modPort, State.setPort, State.port]

/-- The record of a port returned at `now`: a SENSE stands outstanding on an enabled port that was fenced (R162, R141). -/
def unfencedRecord (now : Option Nat) (r : PortRec) : PortRec :=
  { r with
    fenced := false
    timeouts := 0
    outstanding := if r.enabled = true ∧ r.fenced = true then some ⟨.sense, now, r.timeout⟩ else r.outstanding }

/-- PORT UNFENCE changes one port's record alone. -/
theorem unfencePort_eq (p : Port) (s : State) : unfencePort p s = s.modPort p (unfencedRecord s.clock.second) := by
  by_cases hsend : (s.port p).enabled = true ∧ (s.port p).fenced = true
  case pos =>
    rw [unfencePort, if_pos hsend, sendCommand, modPort_modPort, modPort_clock]
    simp only [State.modPort, unfencedRecord, if_pos hsend]
  case neg =>
    rw [unfencePort, if_neg hsend]
    simp only [State.modPort, unfencedRecord, if_neg hsend]

/-! ### The port a request names -/

theorem withPort_of_none {b : List Byte} {s : State} (work : Port → State × Reply) (hp : portOf (fieldAt 0 1 b) = none) :
    withPort b s work = refuse .badField s := by
  rw [withPort, hp]

theorem withPort_of_some {b : List Byte} {s : State} {p : Port} (work : Port → State × Reply)
    (hp : portOf (fieldAt 0 1 b) = some p) : withPort b s work = work p := by
  rw [withPort, hp]

/-! ### The request (R162) -/

theorem handlePortUnfence_of_no_port {l : LinkId} {b : List Byte} {s : State} (hp : portOf (fieldAt 0 1 b) = none) :
    handlePortUnfence l b s = (s, ⟨.badField, .none⟩) := by
  rw [handlePortUnfence, withPort_of_none _ hp, refuse]

theorem handlePortUnfence_of_port {l : LinkId} {b : List Byte} {s : State} {p : Port}
    (hp : portOf (fieldAt 0 1 b) = some p) :
    handlePortUnfence l b s =
      (s.modPort p (unfencedRecord s.clock.second), ⟨.done, .portUnfenced (s.port p).timeouts⟩) := by
  rw [handlePortUnfence, withPort_of_some _ hp, unfencePort_eq, answer]

/-- Settles O40: without ADMIN the link checks refuse, a port outside A to D fails the request's own check, and else the port's
record becomes `unfencedRecord`. -/
theorem portUnfenceReturnsThePort : Obligations.PortUnfenceReturnsThePort := by
  intro r l rest s hframe hlink hactive
  have reaches (hadmin : s.links[l].rights.admin = true) : Reaches .portUnfence r l rest s :=
    ⟨hframe, hlink, hactive, hadmin⟩
  refine ⟨fun hadmin => ?noRight, fun hadmin hp => ?badField, fun p hadmin hp => ?returned⟩
  case noRight => exact refuses_of rfl hframe.1 (handle_of_linkStatus hframe hlink (linkStatus_of_lacking_right hactive hadmin))
  case badField => exact completes_of_cases rfl (reaches hadmin) (handlePortUnfence_of_no_port hp) rfl rfl
  case returned => exact completes_of_cases rfl (reaches hadmin) (handlePortUnfence_of_port hp) rfl rfl

end Sys2Proof.Machine
end

section
/-! PROOF. What a command can do, said once (`Does`), and the statements about the step, the checks of a request and its one answer. -/

namespace Sys2Proof.Machine

/-! ### The handler of each request kind -/

/-- The request's own checks and effect, by kind. -/
def handlerOf : Kind → Handler
  | .caseOpen => handleCaseOpen
  | .caseIssue => handleCaseIssue
  | .caseRecover => handleCaseRecover
  | .caseCancel => handleCaseCancel
  | .caseSettle => handleCaseSettle
  | .caseTransfer => handleCaseTransfer
  | .caseQuery => handleCaseQuery
  | .caseList => handleCaseList
  | .caseResolve => handleCaseResolve
  | .issueAbort => handleIssueAbort
  | .concessionSet => handleConcessionSet
  | .concessionRead => handleConcessionRead
  | .hotlistCut => handleHotlistCut
  | .hotlistRead => handleHotlistRead
  | .zoneConfigure => handleZoneConfigure
  | .zoneRelease => handleZoneRelease
  | .zoneHold => handleZoneHold
  | .zoneResync => handleZoneResync
  | .zoneRemove => handleZoneRemove
  | .zoneClear => handleZoneClear
  | .zoneStatus => handleZoneStatus
  | .batchHeader => handleBatchHeader
  | .batchRecords => handleBatchRecords
  | .batchEnd => handleBatchEnd
  | .portConfigure => handlePortConfigure
  | .portUnfence => handlePortUnfence
  | .portStatus => handlePortStatus
  | .linkCreate => handleLinkCreate
  | .linkDelete => handleLinkDelete
  | .linkMove => handleLinkMove
  | .linkSuspend => handleLinkSuspend
  | .linkResume => handleLinkResume
  | .linkRead => handleLinkRead
  | .reportFetch => handleReportFetch
  | .timeSet => handleTimeSet
  | .timeRead => handleTimeRead
  | .settingsSet => handleSettingsSet
  | .deviceStatus => handleDeviceStatus
  | .deviceReset => handleDeviceReset
  | .deviceErase => handleDeviceErase

/-- A request is taken with the handler of its kind (R187). -/
theorem exec_requestCommand (k : Kind) (r : Request) (s : State) :
    exec (requestCommand k r) s = .next (take k (handlerOf k) r s) := by
  cases k <;> rfl

/-! ### What the taking of a request can do (R187, R188, R176) -/

theorem frameStatus_of_length {k : Kind} {r : Request} (h : bodyLengthOk k r.body = false) :
    frameStatus k r = some .frameLength := if_pos h

theorem frameStatus_of_flags {k : Kind} {r : Request} (hl : bodyLengthOk k r.body = true) (hf : r.flags ≠ 0) :
    frameStatus k r = some .badField := by
  rw [frameStatus, if_neg (by rw [hl]; decide), if_pos hf]

theorem frameStatus_of_ready {k : Kind} {r : Request} (hl : bodyLengthOk k r.body = true) (hf : r.flags = 0) :
    frameStatus k r = none := by
  rw [frameStatus, if_neg (by rw [hl]; decide), if_neg (not_not.mpr hf)]

theorem linkStatus_of_free {k : Kind} {l : LinkId} {s : State} (h : s.links[l].state = .free) :
    linkStatus k l s = some .noLink := by simp only [linkStatus, h]

theorem linkStatus_of_suspended {k : Kind} {l : LinkId} {s : State} (h : s.links[l].state = .suspended) :
    linkStatus k l s = some .linkSuspended := by simp only [linkStatus, h]

theorem linkStatus_of_right {k : Kind} {l : LinkId} {s : State} (h : s.links[l].state = .active)
    (hr : hasRight k s.links[l].rights = true) : linkStatus k l s = none := by
  simp only [linkStatus, h, hr, if_true]

theorem handle_of_frameStatus {k : Kind} {r : Request} {s : State} {st : Status} (h : Handler)
    (hf : frameStatus k r = some st) : handle k h r s = refuse st s := by simp only [handle, hf]

theorem handle_of_no_link {k : Kind} {r : Request} {s : State} (h : Handler) (hf : frameStatus k r = none)
    (hl : linkOf r.link.toNat = none) : handle k h r s = refuse .noLink s := by simp only [handle, hf, hl]

theorem handle_of_link_refused {k : Kind} {r : Request} {l : LinkId} {s : State} {st : Status} (h : Handler)
    (hf : frameStatus k r = none) (hl : linkOf r.link.toNat = some l) (hs : linkStatus k l s = some st) :
    handle k h r s = refuse st s := by simp only [handle, hf, hl, hs]

theorem handle_of_link_passed {k : Kind} {r : Request} {l : LinkId} {s : State} (h : Handler) (hf : frameStatus k r = none)
    (hl : linkOf r.link.toNat = some l) (hs : linkStatus k l s = none) : handle k h r s = h l r.body s := by
  simp only [handle, hf, hl, hs]

/-- A request either passes every check in front of its handler, or is refused whatever the handler does. -/
theorem handle_refused_or_handled (k : Kind) (r : Request) (s : State) :
    (∃ st, ∀ h : Handler, handle k h r s = refuse st s) ∨
      ∃ l, bodyLengthOk k r.body = true ∧ r.flags = 0 ∧ linkOf r.link.toNat = some l ∧ s.links[l].state = .active ∧
        hasRight k s.links[l].rights = true ∧ ∀ h : Handler, handle k h r s = h l r.body s := by
  cases hlen : bodyLengthOk k r.body with
  | false => exact .inl ⟨_, fun h => handle_of_frameStatus h (frameStatus_of_length hlen)⟩
  | true =>
    by_cases hflags : r.flags = 0
    case neg => exact .inl ⟨_, fun h => handle_of_frameStatus h (frameStatus_of_flags hlen hflags)⟩
    have hf := frameStatus_of_ready hlen hflags
    cases hl : linkOf r.link.toNat with
    | none => exact .inl ⟨_, fun h => handle_of_no_link h hf hl⟩
    | some l =>
      cases hs : s.links[l].state with
      | free => exact .inl ⟨_, fun h => handle_of_link_refused h hf hl (linkStatus_of_free hs)⟩
      | suspended => exact .inl ⟨_, fun h => handle_of_link_refused h hf hl (linkStatus_of_suspended hs)⟩
      | active =>
        cases hr : hasRight k s.links[l].rights with
        | false => exact .inl ⟨_, fun h => handle_of_link_refused h hf hl (linkStatus_of_lacking_right hs hr)⟩
        | true => exact .inr ⟨l, rfl, hflags, rfl, hs, hr, fun h => handle_of_link_passed h hf hl (linkStatus_of_right hs hr)⟩

/-! ### What a command can do -/

/-- What the line does to the terminal port: a frame arrives, an error is counted, an answer has been sent (R186, R187, R196). -/
inductive LineEvent : (Terminal → Terminal) → Prop
  | received (x : Reception) : LineEvent (takeReception x)
  | error : LineEvent countFrameError
  | sent : LineEvent finishAnswer

/-- A coupler's message at a port, with the work it brings (R141 to R143). -/
inductive CouplerWork (p : Port) : Instr → (State → State) → Prop
  | arrived (serial : Serial) (family : Family) : CouplerWork p (.arrived p serial family) (takeArrived p ⟨serial, family⟩)
  | left : CouplerWork p (.left p) (takeLeft p)
  | data (content : Option Segment) : CouplerWork p (.data p content) (takeData p content)
  | done : CouplerWork p (.done p) (takeDone p)
  | fault (cause : FaultCause) : CouplerWork p (.fault p cause) (takeFault p)
  | timeout : CouplerWork p (.responseTimeout p) (takeTimeout p)

/-- The commands that restart the part, with the kind of the restart (R196). -/
inductive Restarts (s : State) : Instr → RestartKind → Prop
  | powerOn : Restarts s .powerOn .powerOn
  | nrst : Restarts s .nrstRelease .powerOn
  | due {kind : RestartKind} (h : s.terminal.restartDue = some kind) : Restarts s .restart kind

/-- What a command can do to a state, one case for each way it can go. -/
inductive Does (s : State) : Instr → State → Prop
  | idle (i : Instr) : Does s i s
  | refused {i : Instr} {f : Frame} {rest : List BufferPlace} (st : Status) (hb : behindFrame f s.terminal = some rest) :
      Does s i (placeAnswer f rest ⟨st, .none⟩ s)
  | handled {k : Kind} {r : Request} {l : LinkId} {rest : List BufferPlace} (hr : Reaches k r l rest s) :
      Does s (requestCommand k r)
        (placeAnswer (r.frame (kindByte k)) rest (handlerOf k l r.body s).2 (stampFloor s (handlerOf k l r.body s).1))
  | line {i : Instr} {f : Terminal → Terminal} (hf : LineEvent f) : Does s i (s.modTerminal f)
  | restart {i : Instr} {kind : RestartKind} (hi : Restarts s i kind) : Does s i (stampFloor s (restartDevice kind s))
  | tick {now : Nat} (hc : s.clock.second = some now) :
      Does s .clockTick (stampFloor s (rolloverTest (s.modClock fun c => tickClock (writeFloor c))))
  | floor : Does s .timeFloorWrite (s.modClock writeFloor)
  | coupler {i : Instr} {p : Port} {work : State → State} (hp : inService (s.port p) = true) (hw : CouplerWork p i work) :
      Does s i (stampFloor s (work s))
  | window (p : Port) : Does s (.tearWindowExpiry p) (stampFloor s (expireWindow p s))
  | package (x : PackageInputs) (hg : s.signing.grantee = some .hotlist) (hc : s.signing.computation = some (.package x)) :
      Does s .hotlistGrantCompletion (stampFloor s (completePackage (Config.packageCode x) s))
  | statement (x : StatementInputs) (hg : s.signing.grantee = some .statement)
      (hc : s.signing.computation = some (.statement x)) :
      Does s .statementGrantCompletion (stampFloor s (releaseStatement (completeStatement (Config.statementCode x) s)))

theorem does_take (k : Kind) (r : Request) (s : State) : Does s (requestCommand k r) (take k (handlerOf k) r s) := by
  unfold take takeFrame
  cases hb : behindFrame (r.frame (kindByte k)) s.terminal with
  | none => exact .idle _
  | some rest =>
    dsimp only
    rcases handle_refused_or_handled k r s with ⟨st, h⟩ | ⟨l, hlen, hflags, hl, hactive, hright, h⟩
    · rw [h]
      simpa [refuse] using Does.refused st hb
    · rw [h]
      exact .handled ⟨⟨hb, hlen, hflags⟩, hl, hactive, hright⟩

theorem does_coupler {i : Instr} {p : Port} {work : State → State} (hw : CouplerWork p i work) (s : State) :
    Does s i (coupler p work s) := by
  unfold coupler during
  split
  · exact .coupler ‹_› hw
  · exact .idle _

/-- Every command of the table has a next state, and what it does is one of the cases of `Does`. -/
theorem exec_does (i : Instr) (s : State) : ∃ t, exec i s = .next t ∧ Does s i t := by
  cases i with
  | unknownKind kind r =>
    refine ⟨_, rfl, ?_⟩
    unfold takeFrame
    split
    · split
      · exact .idle _
      · simpa [refuse] using Does.refused .unknownKind ‹_›
    · exact .idle _
  | frameReceived line => exact ⟨_, rfl, .line (.received _)⟩
  | frameError cause => exact ⟨_, rfl, .line .error⟩
  | interByteTimeout => exact ⟨_, rfl, .line .error⟩
  | answerSent => exact ⟨_, rfl, .line .sent⟩
  | restart =>
    refine ⟨_, rfl, ?_⟩
    unfold dueRestart during
    split
    · exact .idle _
    · exact .restart (.due ‹_›)
  | powerOn => exact ⟨_, rfl, .restart .powerOn⟩
  | nrstRelease => exact ⟨_, rfl, .restart .nrst⟩
  | clockTick =>
    refine ⟨_, rfl, ?_⟩
    unfold tick during
    split
    · exact .idle _
    · exact .tick ‹_›
  | timeFloorWrite => exact ⟨_, rfl, .floor⟩
  | arrived p serial family => exact ⟨_, rfl, does_coupler (.arrived serial family) s⟩
  | left p => exact ⟨_, rfl, does_coupler .left s⟩
  | data p content => exact ⟨_, rfl, does_coupler (.data content) s⟩
  | done p => exact ⟨_, rfl, does_coupler .done s⟩
  | fault p cause => exact ⟨_, rfl, does_coupler (.fault cause) s⟩
  | responseTimeout p => exact ⟨_, rfl, does_coupler .timeout s⟩
  | tearWindowExpiry p => exact ⟨_, rfl, .window p⟩
  | hotlistGrantCompletion =>
    refine ⟨_, rfl, ?_⟩
    unfold during packageCompletion
    split
    · exact .package _ ‹_› ‹_›
    · rw [stampFloor_self]; exact .idle _
  | statementGrantCompletion =>
    refine ⟨_, rfl, ?_⟩
    unfold during statementCompletion
    split
    · exact .statement _ ‹_› ‹_›
    · rw [stampFloor_self]; exact .idle _
  | caseOpen r => exact ⟨_, rfl, does_take .caseOpen r s⟩
  | caseIssue r => exact ⟨_, rfl, does_take .caseIssue r s⟩
  | caseRecover r => exact ⟨_, rfl, does_take .caseRecover r s⟩
  | caseCancel r => exact ⟨_, rfl, does_take .caseCancel r s⟩
  | caseSettle r => exact ⟨_, rfl, does_take .caseSettle r s⟩
  | caseTransfer r => exact ⟨_, rfl, does_take .caseTransfer r s⟩
  | caseQuery r => exact ⟨_, rfl, does_take .caseQuery r s⟩
  | caseList r => exact ⟨_, rfl, does_take .caseList r s⟩
  | caseResolve r => exact ⟨_, rfl, does_take .caseResolve r s⟩
  | issueAbort r => exact ⟨_, rfl, does_take .issueAbort r s⟩
  | concessionSet r => exact ⟨_, rfl, does_take .concessionSet r s⟩
  | concessionRead r => exact ⟨_, rfl, does_take .concessionRead r s⟩
  | hotlistCut r => exact ⟨_, rfl, does_take .hotlistCut r s⟩
  | hotlistRead r => exact ⟨_, rfl, does_take .hotlistRead r s⟩
  | zoneConfigure r => exact ⟨_, rfl, does_take .zoneConfigure r s⟩
  | zoneRelease r => exact ⟨_, rfl, does_take .zoneRelease r s⟩
  | zoneHold r => exact ⟨_, rfl, does_take .zoneHold r s⟩
  | zoneResync r => exact ⟨_, rfl, does_take .zoneResync r s⟩
  | zoneRemove r => exact ⟨_, rfl, does_take .zoneRemove r s⟩
  | zoneClear r => exact ⟨_, rfl, does_take .zoneClear r s⟩
  | zoneStatus r => exact ⟨_, rfl, does_take .zoneStatus r s⟩
  | batchHeader r => exact ⟨_, rfl, does_take .batchHeader r s⟩
  | batchRecords r => exact ⟨_, rfl, does_take .batchRecords r s⟩
  | batchEnd r => exact ⟨_, rfl, does_take .batchEnd r s⟩
  | portConfigure r => exact ⟨_, rfl, does_take .portConfigure r s⟩
  | portUnfence r => exact ⟨_, rfl, does_take .portUnfence r s⟩
  | portStatus r => exact ⟨_, rfl, does_take .portStatus r s⟩
  | linkCreate r => exact ⟨_, rfl, does_take .linkCreate r s⟩
  | linkDelete r => exact ⟨_, rfl, does_take .linkDelete r s⟩
  | linkMove r => exact ⟨_, rfl, does_take .linkMove r s⟩
  | linkSuspend r => exact ⟨_, rfl, does_take .linkSuspend r s⟩
  | linkResume r => exact ⟨_, rfl, does_take .linkResume r s⟩
  | linkRead r => exact ⟨_, rfl, does_take .linkRead r s⟩
  | reportFetch r => exact ⟨_, rfl, does_take .reportFetch r s⟩
  | timeSet r => exact ⟨_, rfl, does_take .timeSet r s⟩
  | timeRead r => exact ⟨_, rfl, does_take .timeRead r s⟩
  | settingsSet r => exact ⟨_, rfl, does_take .settingsSet r s⟩
  | deviceStatus r => exact ⟨_, rfl, does_take .deviceStatus r s⟩
  | deviceReset r => exact ⟨_, rfl, does_take .deviceReset r s⟩
  | deviceErase r => exact ⟨_, rfl, does_take .deviceErase r s⟩

theorem does_of_exec {i : Instr} {s t : State} (h : exec i s = .next t) : Does s i t := by
  obtain ⟨u, hu, hd⟩ := exec_does i s
  rw [h] at hu
  cases hu
  exact hd

/-- An invariant that ignores the queue and that every command keeps is kept by the step. -/
theorem step_keeps {P : State → Prop} (hpend : ∀ s l, P s → P (s.withPending l)) (hdoes : ∀ i s t, P s → Does s i t → P t)
    {s t : State} (hs : P s) (h : step s = .next t) : P t := by
  unfold step at h
  split at h
  · cases h; exact hs
  · exact hdoes _ _ _ (hpend s _ hs) (does_of_exec h)

end Sys2Proof.Machine
end

section
/-! PROOF. What the handler of each request can do, said once (`Handled`): a request is refused, reads, or takes its one effect. -/

namespace Sys2Proof.Machine

/-- What a handler can leave, with its answer: one case for the refusals, one for the requests that only read, one for each effect. -/
inductive Handled (l : LinkId) (b : List Byte) (s : State) : Kind → State → Reply → Prop
  | refused {k : Kind} {st : Status} (hst : st ≠ .done) : Handled l b s k s ⟨st, .none⟩
  | read {k : Kind} (f : Fields) : Handled l b s k s ⟨.done, f⟩
  | opened {today n : Nat} {o : OpenBody} {f : Fields} (hday : dayOf s = some today) (hread : readOpen today b = some o)
      (hnew : ∀ c ∈ s.cases, c.snapshot.cardNo ≠ o.snapshot.cardNo) (hroom : s.cases.length < 256)
      (hnext : s.nextCase = some n) (hlist : s.hotlist.pending.length + s.hotlist.master.length ≤ 510) :
      Handled l b s .caseOpen
        (openCase n (newCase n l today (concessionClass today o.snapshot.products)
          (termsOf (concessionClass today o.snapshot.products) s) o.snapshot) o.events s) ⟨.done, f⟩
  | issues {c : Case} {p : Port} {target : Family} (hc : s.findCase (bodyCase b) = some c) (hmay : mayIssue c = true)
      (hp : portStatus (s.port p) = none) : Handled l b s .caseIssue (acceptIssue p target c.number s) ⟨.done, .none⟩
  | recovers {c : Case} {p : Port} (hc : s.findCase (bodyCase b) = some c) (hmay : mayRecover c = true)
      (hp : portStatus (s.port p) = none) : Handled l b s .caseRecover (acceptRecover p c.number s) ⟨.done, .none⟩
  | cancelled {c : Case} (hc : s.findCase (bodyCase b) = some c) (hst : cancelStatus c = none) :
      Handled l b s .caseCancel (endCase true c.number s) ⟨.done, .none⟩
  | settles {c : Case} (hc : s.findCase (bodyCase b) = some c) (hst : c.state ≠ .settled) :
      Handled l b s .caseSettle (forceSettle c s) ⟨.done, .none⟩
  | transferred {c : Case} {owner : LinkId} (hc : s.findCase (bodyCase b) = some c) (ho : newOwnerStatus s.links[owner] = none) :
      Handled l b s .caseTransfer (s.modCase c.number fun c => { c with owner := owner }) ⟨.done, .none⟩
  | resolved {c : Case} {e : CardEvent} {replace : Bool} {f : Fields} (hc : s.findCase (bodyCase b) = some c)
      (he : oldestConflict c (fieldAt 4 3 b) = some e) :
      Handled l b s .caseResolve (rule replace e c.number s) ⟨.done, f⟩
  | aborted {p : Port} {j : Job} {f : Fields} (hj : (s.port p).job = some j) :
      Handled l b s .issueAbort (endJob p .aborted s) ⟨.done, f⟩
  | abortMarked {p : Port} {f : Fields} :
      Handled l b s .issueAbort (s.modJob p fun j => { j with abortPending := true }) ⟨.done, f⟩
  | termsStored {cls : Fin 16} {t : Terms} {f : Fields} : Handled l b s .concessionSet (s.setTerms cls t) ⟨.done, f⟩
  | cut {f : Fields} (hcut : cutStatus s.hotlist = none) : Handled l b s .hotlistCut (startCut s) ⟨.done, f⟩
  | zoneConfigured {z : ZoneId} {m : SumMethod} {threshold dormancy : Nat} {f : Fields} :
      Handled l b s .zoneConfigure (configureZone z m threshold dormancy s) ⟨.done, f⟩
  | zoneReleased {z : ZoneId} (hz : s.zones[z].state = .held) :
      Handled l b s .zoneRelease (s.modZone z (releasedZone (dayOf s))) ⟨.done, .none⟩
  | zoneHeld {z : ZoneId} : Handled l b s .zoneHold (s.modZone z heldZone) ⟨.done, .none⟩
  | zoneResynced {z : ZoneId} : Handled l b s .zoneResync (s.modZone z resyncedZone) ⟨.done, .none⟩
  | zoneRemoved {z : ZoneId} (hz : s.zones[z].state = .held) :
      Handled l b s .zoneRemove (testLacking z (s.modZone z removedZone)) ⟨.done, .none⟩
  | zoneCleared {z : ZoneId} {f : Fields} : Handled l b s .zoneClear (s.modZone z clearedZone) ⟨.done, f⟩
  | header {z : ZoneId} :
      Handled l b s .batchHeader (headerChecked z (bodyHeader b) b (discardForHeader z s)).1
        (headerChecked z (bodyHeader b) b (discardForHeader z s)).2
  | records {z : ZoneId} {reply : Reply} (records : List (List Byte)) :
      Handled l b s .batchRecords (takeRecords z records s).1 reply
  | batchRefused {z : ZoneId} {reply : Reply} :
      Handled l b s .batchEnd (raiseError .badSum z (s.modZone z discardToHunt)) reply
  | committed {z : ZoneId} {o : OpenBatch} (hz : s.zones[z].state = .openBatch) (ho : s.zones[z].batch = some o) :
      Handled l b s .batchEnd (commitBatch z o s).1 ⟨.done, (commitBatch z o s).2⟩
  | portConfigured {p : Port} {enabled : Bool} {mode : WriteMode} {f : Fields} (hj : (s.port p).job = none) :
      Handled l b s .portConfigure (configurePort p enabled mode (clampNumbers (bodyPortNumbers b)) s) ⟨.done, f⟩
  | portUnfenced {p : Port} {f : Fields} : Handled l b s .portUnfence (unfencePort p s) ⟨.done, f⟩
  | linkCreated {rec : Link} {n : LinkId} {f : Fields} (hrec : readLink l b = some rec)
      (hw : rightsWithin rec.rights s.links[l].rights = true) (hn : lowestFree s = some n) :
      Handled l b s .linkCreate (s.setLink n rec) ⟨.done, f⟩
  | linkMoved {target : LinkId} {ch : Fin 4} (ht : targetStatus l target s = none) :
      Handled l b s .linkMove (s.modLink target fun r => { r with channel := ch, station := fieldAt 2 2 b }) ⟨.done, .none⟩
  | linkSuspended {target : LinkId} (ht : targetStatus l target s = none) :
      Handled l b s .linkSuspend (s.modLink target fun r => { r with state := .suspended }) ⟨.done, .none⟩
  | linkResumed {target : LinkId} (ht : targetStatus l target s = none) :
      Handled l b s .linkResume (s.modLink target fun r => { r with state := .active }) ⟨.done, .none⟩
  | linkFreed {target : LinkId} {f : Fields} (ht : targetStatus l target s = none) (hch : childrenOf target s = [])
      (hown : ownedBy target s = []) : Handled l b s .linkDelete (freeLink target s) ⟨.done, f⟩
  | linkHandedOn {target recipient : LinkId} {n : Nat} {f : Fields} (ht : targetStatus l target s = none)
      (hch : childrenOf target s = []) (hr : recipientOf target n s = .ok recipient) :
      Handled l b s .linkDelete (freeLink target (transferCases target recipient s)) ⟨.done, f⟩
  | fetched {c : Fin 4} {head : Report} {tail : List Report} {f : Fields} (hq : s.channels[c].queue = head :: tail) :
      Handled l b s .reportFetch (s.setChannel c ⟨tail, 0⟩) ⟨.done, f⟩
  | timeSet {f : Fields} (ht : timeBackward (fieldAt 0 4 b) s.clock = false) :
      Handled l b s .timeSet (setTime (fieldAt 0 4 b) s) ⟨.done, f⟩
  | settingsStored {mode : ArbMode} {f : Fields} : Handled l b s .settingsSet (storeSettings (clampSettings b mode) s) ⟨.done, f⟩

section
variable {l : LinkId} {b : List Byte} {s : State} {k : Kind}

/-- A handler's work with the state and reply it pairs. -/
abbrev HandledBy (l : LinkId) (b : List Byte) (s : State) (k : Kind) (x : State × Reply) : Prop := Handled l b s k x.1 x.2

theorem handled_refuse {st : Status} (hst : st ≠ .done) : HandledBy l b s k (refuse st s) := .refused hst

theorem handled_answer (f : Fields) : HandledBy l b s k (answer f s) := .read f

/-- The lookup of R21 refuses, or works on the case it finds. -/
theorem handled_withCase {work : Case → State × Reply}
    (h : ∀ c, s.findCase (bodyCase b) = some c → HandledBy l b s k (work c)) : HandledBy l b s k (withCase b s work) := by
  unfold withCase
  split
  · exact handled_refuse (by decide)
  · exact h _ ‹_›

theorem handled_withOwnCase {work : Case → State × Reply}
    (h : ∀ c, s.findCase (bodyCase b) = some c → HandledBy l b s k (work c)) : HandledBy l b s k (withOwnCase l b s work) := by
  refine handled_withCase fun c hc => ?_
  split
  · exact h c hc
  · exact handled_refuse (by decide)

theorem handled_withZone {work : ZoneId → State × Reply} (h : ∀ z, HandledBy l b s k (work z)) :
    HandledBy l b s k (withZone b s work) := by
  unfold withZone
  split
  · exact handled_refuse (by decide)
  · exact h _

theorem feedStatus_ne_done {r : Zone} {st : Status} (h : feedStatus r = some st) : st ≠ .done := by
  unfold feedStatus at h
  split at h <;> cases h <;> decide

theorem handled_withFeed {work : ZoneId → State × Reply} (h : ∀ z, HandledBy l b s k (work z)) :
    HandledBy l b s k (withFeed l b s work) := by
  refine handled_withZone fun z => ?_
  split
  · exact handled_refuse (by decide)
  · split
    · exact handled_refuse (feedStatus_ne_done ‹_›)
    · exact h z

theorem handled_withPort {work : Port → State × Reply} (h : ∀ p, HandledBy l b s k (work p)) :
    HandledBy l b s k (withPort b s work) := by
  unfold withPort
  split
  · exact handled_refuse (by decide)
  · exact h _

theorem targetStatus_ne_done {target : LinkId} {st : Status} (h : targetStatus l target s = some st) : st ≠ .done := by
  unfold targetStatus at h
  split at h
  · cases h; decide
  · split at h
    · cases h; decide
    · split at h <;> cases h
      decide

theorem handled_withTarget {work : LinkId → State × Reply}
    (h : ∀ target, targetStatus l target s = none → HandledBy l b s k (work target)) :
    HandledBy l b s k (withTarget l b s work) := by
  unfold withTarget
  split
  · exact handled_refuse (by decide)
  · split
    · exact handled_refuse (targetStatus_ne_done ‹_›)
    · exact h _ ‹_›

theorem portStatus_ne_done {r : PortRec} {st : Status} (h : portStatus r = some st) : st ≠ .done := by
  unfold portStatus at h
  split at h
  · cases h; decide
  · split at h
    · cases h; decide
    · split at h <;> cases h
      decide

theorem cancelStatus_ne_done {c : Case} {st : Status} (h : cancelStatus c = some st) : st ≠ .done := by
  unfold cancelStatus at h
  split at h
  · cases h; decide
  · split at h
    · cases h; decide
    · split at h
      · cases h; decide
      · split at h <;> cases h
        decide

theorem newOwnerStatus_ne_done {r : Link} {st : Status} (h : newOwnerStatus r = some st) : st ≠ .done := by
  unfold newOwnerStatus at h
  split at h
  · cases h; decide
  · cases h; decide
  · split at h <;> cases h
    decide

theorem cutStatus_ne_done {h : Hotlist} {st : Status} (hc : cutStatus h = some st) : st ≠ .done := by
  unfold cutStatus at hc
  split at hc
  · cases hc; decide
  · split at hc
    · cases hc; decide
    · split at hc <;> cases hc
      decide

theorem recipientOf_ne_done {target : LinkId} {n : Nat} {st : Status} (h : recipientOf target n s = .error st) :
    st ≠ .done := by
  unfold recipientOf at h
  split at h
  · cases h; decide
  · split at h
    · cases h; decide
    · split at h
      · cases h; decide
      · split at h <;> cases h
        decide

end

theorem handled_caseOpen (l : LinkId) (b : List Byte) (s : State) : HandledBy l b s .caseOpen (handleCaseOpen l b s) := by
  unfold handleCaseOpen
  split
  · exact handled_refuse (by decide)
  · rename_i today hday
    split
    · exact handled_refuse (by decide)
    · rename_i o hread
      split
      · unfold openChecked
        split
        · exact handled_refuse (by decide)
        · split
          · exact handled_refuse (by decide)
          · rename_i hnew
            split
            · exact handled_refuse (by decide)
            · rename_i hroom
              split
              · exact handled_refuse (by decide)
              · rename_i n hnext
                split
                · exact handled_refuse (by decide)
                · rename_i hlist
                  refine .opened hday hread (fun c hc hcard => hnew ?_) (Nat.not_le.mp hroom) hnext (Nat.not_lt.mp hlist)
                  exact List.any_eq_true.mpr ⟨c, hc, decide_eq_true hcard⟩
      · exact handled_refuse (by decide)

theorem handled_caseIssue (l : LinkId) (b : List Byte) (s : State) : HandledBy l b s .caseIssue (handleCaseIssue l b s) := by
  refine handled_withOwnCase fun c hc => ?_
  split
  · split
    · exact handled_refuse (by decide)
    · split
      · split
        · exact handled_refuse (portStatus_ne_done ‹_›)
        · exact .issues hc ‹_› ‹_›
      · exact handled_refuse (by decide)
  · exact handled_refuse (by decide)

theorem handled_caseRecover (l : LinkId) (b : List Byte) (s : State) :
    HandledBy l b s .caseRecover (handleCaseRecover l b s) := by
  refine handled_withOwnCase fun c hc => ?_
  split
  · split
    · exact handled_refuse (by decide)
    · split
      · split
        · exact handled_refuse (portStatus_ne_done ‹_›)
        · exact .recovers hc ‹_› ‹_›
      · exact handled_refuse (by decide)
  · exact handled_refuse (by decide)

theorem handled_caseCancel (l : LinkId) (b : List Byte) (s : State) : HandledBy l b s .caseCancel (handleCaseCancel l b s) := by
  refine handled_withOwnCase fun c hc => ?_
  split
  · exact handled_refuse (cancelStatus_ne_done ‹_›)
  · exact .cancelled hc ‹_›

theorem handled_caseSettle (l : LinkId) (b : List Byte) (s : State) : HandledBy l b s .caseSettle (handleCaseSettle l b s) := by
  refine handled_withCase fun c hc => ?_
  split
  · exact handled_refuse (by decide)
  · split
    · exact handled_refuse (by decide)
    · split
      · exact handled_refuse (by decide)
      · exact .settles hc ‹_›

theorem handled_caseTransfer (l : LinkId) (b : List Byte) (s : State) :
    HandledBy l b s .caseTransfer (handleCaseTransfer l b s) := by
  refine handled_withCase fun c hc => ?_
  split
  · exact handled_refuse (by decide)
  · split
    · exact handled_refuse (newOwnerStatus_ne_done ‹_›)
    · exact .transferred hc ‹_›

theorem handled_caseQuery (l : LinkId) (b : List Byte) (s : State) : HandledBy l b s .caseQuery (handleCaseQuery l b s) := by
  refine handled_withCase fun c hc => ?_
  split
  · exact handled_refuse (by decide)
  · split
    · exact handled_refuse (by decide)
    · exact handled_answer _

theorem handled_caseList (l : LinkId) (b : List Byte) (s : State) : HandledBy l b s .caseList (handleCaseList l b s) := by
  unfold handleCaseList
  split
  · split
    · exact handled_refuse (by decide)
    · exact handled_answer _
  · exact handled_refuse (by decide)

theorem handled_caseResolve (l : LinkId) (b : List Byte) (s : State) :
    HandledBy l b s .caseResolve (handleCaseResolve l b s) := by
  refine handled_withCase fun c hc => ?_
  split
  · exact handled_refuse (by decide)
  · split
    · exact handled_refuse (by decide)
    · split
      · exact handled_refuse (by decide)
      · exact .resolved hc ‹_›

theorem handled_issueAbort (l : LinkId) (b : List Byte) (s : State) : HandledBy l b s .issueAbort (handleIssueAbort l b s) := by
  refine handled_withOwnCase fun c hc => ?_
  split
  · exact handled_refuse (by decide)
  · split
    · exact handled_refuse (by decide)
    · rename_i j hj
      unfold applyAbort
      split
      · exact .aborted hj
      · exact .abortMarked
      · exact handled_answer _
      · exact handled_refuse (by decide)

theorem handled_concessionSet (l : LinkId) (b : List Byte) (s : State) :
    HandledBy l b s .concessionSet (handleConcessionSet l b s) := by
  unfold handleConcessionSet
  split
  · exact handled_refuse (by decide)
  · exact .termsStored

theorem handled_hotlistCut (l : LinkId) (b : List Byte) (s : State) : HandledBy l b s .hotlistCut (handleHotlistCut l b s) := by
  unfold handleHotlistCut
  split
  · exact handled_refuse (cutStatus_ne_done ‹_›)
  · exact .cut ‹_›

theorem handled_hotlistRead (l : LinkId) (b : List Byte) (s : State) :
    HandledBy l b s .hotlistRead (handleHotlistRead l b s) := by
  unfold handleHotlistRead
  dsimp only
  split
  · exact handled_refuse (by decide)
  · split
    · exact handled_refuse (by decide)
    · exact handled_answer _
  · split
    · exact handled_refuse (by decide)
    · exact handled_answer _

theorem handled_zoneConfigure (l : LinkId) (b : List Byte) (s : State) :
    HandledBy l b s .zoneConfigure (handleZoneConfigure l b s) := by
  refine handled_withZone fun z => ?_
  split
  · exact handled_refuse (by decide)
  · split
    · exact handled_refuse (by decide)
    · exact .zoneConfigured

theorem handled_zoneRelease (l : LinkId) (b : List Byte) (s : State) :
    HandledBy l b s .zoneRelease (handleZoneRelease l b s) := by
  refine handled_withZone fun z => ?_
  split
  · exact .zoneReleased ‹_›
  · exact handled_refuse (by decide)

theorem handled_zoneHold (l : LinkId) (b : List Byte) (s : State) : HandledBy l b s .zoneHold (handleZoneHold l b s) := by
  refine handled_withZone fun z => ?_
  split
  · exact handled_refuse (by decide)
  · exact handled_answer _
  all_goals exact .zoneHeld

theorem handled_zoneResync (l : LinkId) (b : List Byte) (s : State) : HandledBy l b s .zoneResync (handleZoneResync l b s) := by
  refine handled_withZone fun z => ?_
  split
  · exact .zoneResynced
  · exact handled_refuse (by decide)

theorem handled_zoneRemove (l : LinkId) (b : List Byte) (s : State) : HandledBy l b s .zoneRemove (handleZoneRemove l b s) := by
  refine handled_withZone fun z => ?_
  split
  · exact .zoneRemoved ‹_›
  · exact handled_refuse (by decide)

theorem handled_zoneClear (l : LinkId) (b : List Byte) (s : State) : HandledBy l b s .zoneClear (handleZoneClear l b s) := by
  refine handled_withZone fun z => ?_
  split
  · exact handled_refuse (by decide)
  · exact .zoneCleared

theorem handled_batchHeader (l : LinkId) (b : List Byte) (s : State) :
    HandledBy l b s .batchHeader (handleBatchHeader l b s) := by
  refine handled_withFeed fun z => ?_
  split
  · exact handled_refuse (by decide)
  · exact .header

theorem recordsReply_state (z : ZoneId) (records : List (List Byte)) (t : State × Bool) :
    (recordsReply z records t).1 = t.1 := by
  unfold recordsReply
  split <;> rfl

theorem handled_batchRecords (l : LinkId) (b : List Byte) (s : State) :
    HandledBy l b s .batchRecords (handleBatchRecords l b s) := by
  refine handled_withFeed fun z => ?_
  split
  · exact handled_refuse (by decide)
  · split
    · exact handled_refuse (by decide)
    · dsimp only
      rw [HandledBy, recordsReply_state]
      exact .records _

theorem handled_batchEnd (l : LinkId) (b : List Byte) (s : State) : HandledBy l b s .batchEnd (handleBatchEnd l b s) := by
  refine handled_withFeed fun z => ?_
  split
  · exact handled_refuse (by decide)
  · rename_i hz
    split
    · exact handled_refuse (by decide)
    · split
      · exact .committed (not_not.mp hz) ‹_›
      · exact .batchRefused

theorem handled_portConfigure (l : LinkId) (b : List Byte) (s : State) :
    HandledBy l b s .portConfigure (handlePortConfigure l b s) := by
  refine handled_withPort fun p => ?_
  split
  · split
    · exact handled_refuse (by decide)
    · rename_i hj
      exact .portConfigured (by simpa using hj)
  · exact handled_refuse (by decide)

theorem handled_linkCreate (l : LinkId) (b : List Byte) (s : State) : HandledBy l b s .linkCreate (handleLinkCreate l b s) := by
  unfold handleLinkCreate
  split
  · exact handled_refuse (by decide)
  · split
    · split
      · exact handled_refuse (by decide)
      · exact .linkCreated ‹_› ‹_› ‹_›
    · exact handled_refuse (by decide)

theorem handled_linkMove (l : LinkId) (b : List Byte) (s : State) : HandledBy l b s .linkMove (handleLinkMove l b s) := by
  refine handled_withTarget fun target ht => ?_
  split
  · exact handled_refuse (by decide)
  · exact .linkMoved ht

theorem handled_linkDelete (l : LinkId) (b : List Byte) (s : State) : HandledBy l b s .linkDelete (handleLinkDelete l b s) := by
  refine handled_withTarget fun target ht => ?_
  split
  · exact handled_refuse (by decide)
  · split
    · exact handled_refuse (by decide)
    · rename_i hch
      split
      · exact .linkFreed ht (not_not.mp hch) ‹_›
      · split
        · exact handled_refuse (recipientOf_ne_done ‹_›)
        · exact .linkHandedOn ht (not_not.mp hch) ‹_›

theorem handled_linkRead (l : LinkId) (b : List Byte) (s : State) : HandledBy l b s .linkRead (handleLinkRead l b s) := by
  unfold handleLinkRead
  split
  · exact handled_refuse (by decide)
  · exact handled_answer _

theorem handled_reportFetch (l : LinkId) (b : List Byte) (s : State) :
    HandledBy l b s .reportFetch (handleReportFetch l b s) := by
  unfold handleReportFetch
  split
  · exact handled_answer _
  · unfold fetchFrom
    split
    · exact handled_answer _
    · exact .fetched ‹_›

theorem handled_timeSet (l : LinkId) (b : List Byte) (s : State) : HandledBy l b s .timeSet (handleTimeSet l b s) := by
  unfold handleTimeSet
  dsimp only
  split
  · exact handled_refuse (by decide)
  · rename_i ht
    exact .timeSet (by simpa using ht)

theorem handled_settingsSet (l : LinkId) (b : List Byte) (s : State) :
    HandledBy l b s .settingsSet (handleSettingsSet l b s) := by
  unfold handleSettingsSet
  split
  · exact handled_refuse (by decide)
  · exact .settingsStored

/-- Every handler does one of the things of `Handled`. -/
theorem handlerOf_handled (k : Kind) (l : LinkId) (b : List Byte) (s : State) : HandledBy l b s k (handlerOf k l b s) := by
  cases k with
  | caseOpen => exact handled_caseOpen l b s
  | caseIssue => exact handled_caseIssue l b s
  | caseRecover => exact handled_caseRecover l b s
  | caseCancel => exact handled_caseCancel l b s
  | caseSettle => exact handled_caseSettle l b s
  | caseTransfer => exact handled_caseTransfer l b s
  | caseQuery => exact handled_caseQuery l b s
  | caseList => exact handled_caseList l b s
  | caseResolve => exact handled_caseResolve l b s
  | issueAbort => exact handled_issueAbort l b s
  | concessionSet => exact handled_concessionSet l b s
  | hotlistCut => exact handled_hotlistCut l b s
  | hotlistRead => exact handled_hotlistRead l b s
  | zoneConfigure => exact handled_zoneConfigure l b s
  | zoneRelease => exact handled_zoneRelease l b s
  | zoneHold => exact handled_zoneHold l b s
  | zoneResync => exact handled_zoneResync l b s
  | zoneRemove => exact handled_zoneRemove l b s
  | zoneClear => exact handled_zoneClear l b s
  | zoneStatus => exact handled_withZone fun z => handled_answer _
  | batchHeader => exact handled_batchHeader l b s
  | batchRecords => exact handled_batchRecords l b s
  | batchEnd => exact handled_batchEnd l b s
  | portConfigure => exact handled_portConfigure l b s
  | portUnfence => exact handled_withPort fun p => .portUnfenced
  | portStatus => exact handled_withPort fun p => handled_answer _
  | linkCreate => exact handled_linkCreate l b s
  | linkDelete => exact handled_linkDelete l b s
  | linkMove => exact handled_linkMove l b s
  | linkSuspend => exact handled_withTarget fun target ht => .linkSuspended ht
  | linkResume => exact handled_withTarget fun target ht => .linkResumed ht
  | linkRead => exact handled_linkRead l b s
  | reportFetch => exact handled_reportFetch l b s
  | timeSet => exact handled_timeSet l b s
  | settingsSet => exact handled_settingsSet l b s
  | concessionRead | timeRead | deviceStatus | deviceReset | deviceErase => exact handled_answer _

end Sys2Proof.Machine
end

section
/-! PROOF. What the requests' effects leave alone, field by field (the frames of `Handled`), and what every command leaves alone. -/

namespace Sys2Proof.Machine

/-! ### The requests' effects -/

/-- Two states with the same fields are the same. -/
theorem state_eq {s t : State} (hb : s.base = t.base) (hch : s.channels = t.channels) (hc : s.cases = t.cases)
    (hh : s.hotlist = t.hotlist) (hz : s.zones = t.zones) (hp : s.ports = t.ports) (hu : s.signing = t.signing) : s = t := by
  cases s
  cases t
  simp only [State.base, Prod.mk.injEq] at hb
  obtain ⟨rfl, rfl, rfl, rfl, rfl, rfl, rfl, rfl⟩ := hb
  cases hch; cases hc; cases hh; cases hz; cases hp; cases hu
  rfl

/-- A fold of operations that keep the base. -/
theorem foldl_base {α : Type} {f : State → α → State} (h : ∀ a s, (f s a).base = s.base) (l : List α) (s : State) :
    (l.foldl f s).base = s.base := foldl_keeps State.base f h l s

/-- CASE OPEN moves the case counter and works on cases, hotlist, channels and signing unit. -/
theorem openCase_base (n : Nat) (c : Case) (events : List CardEvent) (s : State) :
    (openCase n c events s).base = ({ s with nextCase := nextCaseNumber n } : State).base := by
  unfold openCase
  dsimp only
  rw [foldl_base (fun e s => arrival_base s n e), hotlistAdd_base]
  rfl

@[simp] theorem openCase_zones (n : Nat) (c : Case) (events : List CardEvent) (s : State) :
    (openCase n c events s).zones = s.zones := by
  unfold openCase
  dsimp only
  rw [foldl_keeps State.zones _ fun e s => arrival_zones s n e, hotlistAdd_zones]

@[simp] theorem openCase_ports (n : Nat) (c : Case) (events : List CardEvent) (s : State) :
    (openCase n c events s).ports = s.ports := by
  unfold openCase
  dsimp only
  rw [foldl_keeps State.ports _ fun e s => arrival_ports s n e, hotlistAdd_ports]

@[simp] theorem acceptIssue_base (s : State) (p : Port) (target : Family) (n : Nat) :
    (acceptIssue p target n s).base = s.base := by simp [acceptIssue]
@[simp] theorem acceptIssue_zones (s : State) (p : Port) (target : Family) (n : Nat) :
    (acceptIssue p target n s).zones = s.zones := by simp [acceptIssue]

@[simp] theorem acceptRecover_base (s : State) (p : Port) (n : Nat) : (acceptRecover p n s).base = s.base := by
  simp [acceptRecover]
@[simp] theorem acceptRecover_zones (s : State) (p : Port) (n : Nat) : (acceptRecover p n s).zones = s.zones := by
  simp [acceptRecover]

@[simp] theorem forceSettle_base (s : State) (c : Case) : (forceSettle c s).base = s.base := by
  unfold forceSettle; split <;> simp
@[simp] theorem forceSettle_zones (s : State) (c : Case) : (forceSettle c s).zones = s.zones := by
  unfold forceSettle; split <;> simp

@[simp] theorem rule_base (s : State) (replace : Bool) (e : CardEvent) (n : Nat) : (rule replace e n s).base = s.base := by
  simp [rule]
@[simp] theorem rule_zones (s : State) (replace : Bool) (e : CardEvent) (n : Nat) : (rule replace e n s).zones = s.zones := by
  simp [rule]

@[simp] theorem configureZone_base (s : State) (z : ZoneId) (m : SumMethod) (threshold dormancy : Nat) :
    (configureZone z m threshold dormancy s).base = s.base := rfl

@[simp] theorem discardForHeader_base (s : State) (z : ZoneId) : (discardForHeader z s).base = s.base := by
  unfold discardForHeader; split <;> simp

theorem sequenceChecked_base (s : State) (z : ZoneId) (h : HeaderFields) : (sequenceChecked z h s).1.base = s.base := by
  unfold sequenceChecked answer
  split
  · simp
  · split
    · rfl
    · split <;> simp

@[simp] theorem headerChecked_base (s : State) (z : ZoneId) (h : HeaderFields) (b : List Byte) :
    (headerChecked z h b s).1.base = s.base := by
  unfold headerChecked refuse
  split
  · simp
  · split
    · simp
    · exact sequenceChecked_base s z h

@[simp] theorem configurePort_base (s : State) (p : Port) (enabled : Bool) (mode : WriteMode) (n : PortNumbers) :
    (configurePort p enabled mode n s).base = s.base := by
  unfold configurePort; dsimp only; split <;> simp
@[simp] theorem configurePort_zones (s : State) (p : Port) (enabled : Bool) (mode : WriteMode) (n : PortNumbers) :
    (configurePort p enabled mode n s).zones = s.zones := by
  unfold configurePort; dsimp only; split <;> simp

@[simp] theorem unfencePort_base (s : State) (p : Port) : (unfencePort p s).base = s.base := by
  rw [unfencePort_eq, modPort_base]
@[simp] theorem unfencePort_zones (s : State) (p : Port) : (unfencePort p s).zones = s.zones := by
  rw [unfencePort_eq, modPort_zones]

/-! ### The clock's operations -/

@[simp] theorem announceDay_terminal (s : State) : (announceDay s).terminal = s.terminal := by
  unfold announceDay; split <;> rfl
@[simp] theorem announceDay_settings (s : State) : (announceDay s).settings = s.settings := by
  unfold announceDay; split <;> rfl
@[simp] theorem announceDay_pending (s : State) : (announceDay s).pending = s.pending := by
  unfold announceDay; split <;> rfl

/-- The clock once its second has brought its day (R191). -/
def dayAfter (c : Clock) (minute : Nat) : Clock :=
  { c with announcedDay := match c.second with
      | none => c.announcedDay
      | some t => max c.announcedDay (computedDay t minute) }

/-- The day that a second brings moves the clock alone. -/
theorem moveDay_eq (s : State) : moveDay s = { s with clock := dayAfter s.clock s.settings.rolloverMinute } := by
  unfold moveDay rolloverDue announceDay dayAfter
  cases ht : s.clock.second with
  | none => simp [← ht]
  | some t =>
    simp only [decide_eq_true_eq]
    split
    · rename_i h
      rw [Nat.max_eq_right (Nat.le_of_lt h)]
      simp only [State.modClock, ht]
    · rename_i h
      rw [Nat.max_eq_left (Nat.not_lt.mp h)]
      simp only [← ht]

theorem moveDay_clock (s : State) : (moveDay s).clock = dayAfter s.clock s.settings.rolloverMinute := by rw [moveDay_eq]

section
variable (s : State)

@[simp] theorem moveDay_terminal : (moveDay s).terminal = s.terminal := by rw [moveDay_eq]
@[simp] theorem moveDay_links : (moveDay s).links = s.links := by rw [moveDay_eq]
@[simp] theorem moveDay_channels : (moveDay s).channels = s.channels := by rw [moveDay_eq]
@[simp] theorem moveDay_cases : (moveDay s).cases = s.cases := by rw [moveDay_eq]
@[simp] theorem moveDay_nextCase : (moveDay s).nextCase = s.nextCase := by rw [moveDay_eq]
@[simp] theorem moveDay_concession : (moveDay s).concession = s.concession := by rw [moveDay_eq]
@[simp] theorem moveDay_hotlist : (moveDay s).hotlist = s.hotlist := by rw [moveDay_eq]
@[simp] theorem moveDay_zones : (moveDay s).zones = s.zones := by rw [moveDay_eq]
@[simp] theorem moveDay_ports : (moveDay s).ports = s.ports := by rw [moveDay_eq]
@[simp] theorem moveDay_signing : (moveDay s).signing = s.signing := by rw [moveDay_eq]
@[simp] theorem moveDay_settings : (moveDay s).settings = s.settings := by rw [moveDay_eq]
@[simp] theorem moveDay_choices : (moveDay s).choices = s.choices := by rw [moveDay_eq]
@[simp] theorem moveDay_pending : (moveDay s).pending = s.pending := by rw [moveDay_eq]

/-! ### The rollover test and the tasks of a moved clock -/

@[simp] theorem rolloverTest_terminal : (rolloverTest s).terminal = s.terminal := by
  unfold rolloverTest
  rw [runFree_frame State.terminal (fun _ _ => rfl) _ _ _ fun b u => deliverRollover_terminal u b, moveDay_terminal]
@[simp] theorem rolloverTest_links : (rolloverTest s).links = s.links := by
  unfold rolloverTest
  rw [runFree_frame State.links (fun _ _ => rfl) _ _ _ fun b u => deliverRollover_links u b, moveDay_links]
@[simp] theorem rolloverTest_nextCase : (rolloverTest s).nextCase = s.nextCase := by
  unfold rolloverTest
  rw [runFree_frame State.nextCase (fun _ _ => rfl) _ _ _ fun b u => deliverRollover_nextCase u b, moveDay_nextCase]
@[simp] theorem rolloverTest_concession : (rolloverTest s).concession = s.concession := by
  unfold rolloverTest
  rw [runFree_frame State.concession (fun _ _ => rfl) _ _ _ fun b u => deliverRollover_concession u b, moveDay_concession]
@[simp] theorem rolloverTest_settings : (rolloverTest s).settings = s.settings := by
  unfold rolloverTest
  rw [runFree_frame State.settings (fun _ _ => rfl) _ _ _ fun b u => deliverRollover_settings u b, moveDay_settings]
@[simp] theorem rolloverTest_pending : (rolloverTest s).pending = s.pending := by
  unfold rolloverTest
  rw [runFree_frame State.pending (fun _ _ => rfl) _ _ _ fun b u => deliverRollover_pending u b, moveDay_pending]
@[simp] theorem rolloverTest_ports : (rolloverTest s).ports = s.ports := by
  unfold rolloverTest
  rw [runFree_frame State.ports (fun _ _ => rfl) _ _ _ fun b u => deliverRollover_ports u b, moveDay_ports]

theorem rolloverTest_clock : (rolloverTest s).clock = dayAfter s.clock s.settings.rolloverMinute := by
  unfold rolloverTest
  rw [runFree_frame State.clock (fun _ _ => rfl) _ _ _ fun b u => deliverRollover_clock u b, moveDay_clock]

@[simp] theorem runTimeTask_terminal (t : TimeTask) : (runTimeTask t s).terminal = s.terminal := by
  cases t <;> simp [runTimeTask]
@[simp] theorem runTimeTask_links (t : TimeTask) : (runTimeTask t s).links = s.links := by
  cases t <;> simp [runTimeTask]
@[simp] theorem runTimeTask_nextCase (t : TimeTask) : (runTimeTask t s).nextCase = s.nextCase := by
  cases t <;> simp [runTimeTask]
@[simp] theorem runTimeTask_concession (t : TimeTask) : (runTimeTask t s).concession = s.concession := by
  cases t <;> simp [runTimeTask]
@[simp] theorem runTimeTask_settings (t : TimeTask) : (runTimeTask t s).settings = s.settings := by
  cases t <;> simp [runTimeTask]
@[simp] theorem runTimeTask_pending (t : TimeTask) : (runTimeTask t s).pending = s.pending := by
  cases t <;> simp [runTimeTask]

variable (second : Nat)

@[simp] theorem moveClock_terminal : (moveClock second s).terminal = s.terminal := by
  unfold moveClock
  dsimp only
  rw [runFree_frame State.terminal (fun _ _ => rfl) _ _ _ fun b u => runTimeTask_terminal u b, moveDay_terminal]; rfl
@[simp] theorem moveClock_links : (moveClock second s).links = s.links := by
  unfold moveClock
  dsimp only
  rw [runFree_frame State.links (fun _ _ => rfl) _ _ _ fun b u => runTimeTask_links u b, moveDay_links]; rfl
@[simp] theorem moveClock_nextCase : (moveClock second s).nextCase = s.nextCase := by
  unfold moveClock
  dsimp only
  rw [runFree_frame State.nextCase (fun _ _ => rfl) _ _ _ fun b u => runTimeTask_nextCase u b, moveDay_nextCase]; rfl
@[simp] theorem moveClock_concession : (moveClock second s).concession = s.concession := by
  unfold moveClock
  dsimp only
  rw [runFree_frame State.concession (fun _ _ => rfl) _ _ _ fun b u => runTimeTask_concession u b, moveDay_concession]; rfl
@[simp] theorem moveClock_settings : (moveClock second s).settings = s.settings := by
  unfold moveClock
  dsimp only
  rw [runFree_frame State.settings (fun _ _ => rfl) _ _ _ fun b u => runTimeTask_settings u b, moveDay_settings]; rfl
@[simp] theorem moveClock_pending : (moveClock second s).pending = s.pending := by
  unfold moveClock
  dsimp only
  rw [runFree_frame State.pending (fun _ _ => rfl) _ _ _ fun b u => runTimeTask_pending u b, moveDay_pending]; rfl

/-- The clock after TIME SET: the second, the floor, and the day that the second brings (R192). -/
theorem moveClock_clock :
    (moveClock second s).clock =
      dayAfter ⟨some second, second, 0, s.clock.announcedDay⟩ s.settings.rolloverMinute := by
  unfold moveClock
  dsimp only
  rw [runFree_frame State.clock (fun _ _ => rfl) _ _ _ fun b u => runTimeTask_clock u b, moveDay_clock]
  rfl

theorem setTime_cases : (s.clock.second = some second ∧ setTime second s = s) ∨
    (s.clock.second ≠ some second ∧ setTime second s = moveClock second s) := by
  unfold setTime
  split
  · exact .inl ⟨‹_›, rfl⟩
  · exact .inr ⟨‹_›, rfl⟩

@[simp] theorem setTime_terminal : (setTime second s).terminal = s.terminal := by unfold setTime; split <;> simp
@[simp] theorem setTime_links : (setTime second s).links = s.links := by unfold setTime; split <;> simp
@[simp] theorem setTime_nextCase : (setTime second s).nextCase = s.nextCase := by unfold setTime; split <;> simp
@[simp] theorem setTime_concession : (setTime second s).concession = s.concession := by unfold setTime; split <;> simp
@[simp] theorem setTime_settings : (setTime second s).settings = s.settings := by unfold setTime; split <;> simp
@[simp] theorem setTime_pending : (setTime second s).pending = s.pending := by unfold setTime; split <;> simp

variable (v : Settings)

@[simp] theorem storeSettings_terminal : (storeSettings v s).terminal = s.terminal := by simp [storeSettings]
@[simp] theorem storeSettings_links : (storeSettings v s).links = s.links := by simp [storeSettings]
@[simp] theorem storeSettings_nextCase : (storeSettings v s).nextCase = s.nextCase := by simp [storeSettings]
@[simp] theorem storeSettings_concession : (storeSettings v s).concession = s.concession := by simp [storeSettings]
@[simp] theorem storeSettings_settings : (storeSettings v s).settings = v := by simp [storeSettings]
@[simp] theorem storeSettings_pending : (storeSettings v s).pending = s.pending := by simp [storeSettings]
@[simp] theorem storeSettings_ports : (storeSettings v s).ports = s.ports := by simp [storeSettings]

theorem storeSettings_clock : (storeSettings v s).clock = dayAfter s.clock v.rolloverMinute := by
  simp [storeSettings, rolloverTest_clock]

end

/-! ### The frames of the handlers -/

section
variable {l : LinkId} {b : List Byte} {s t : State} {k : Kind} {reply : Reply}

/-- Every handler leaves the terminal port to the answer (R187). -/
theorem Handled.terminal (h : Handled l b s k t reply) : t.terminal = s.terminal := by
  cases h
  case opened => rw [terminal_of_base (openCase_base _ _ _ _)]
  case timeSet => simp
  case settingsStored => simp
  case termsStored | linkCreated | linkMoved | linkSuspended | linkResumed | linkFreed | linkHandedOn => rfl
  all_goals exact terminal_of_base (by simp)

/-- Every handler leaves the queue to the step. -/
theorem Handled.pending (h : Handled l b s k t reply) : t.pending = s.pending := by
  cases h
  case opened => rw [pending_of_base (openCase_base _ _ _ _)]
  case timeSet => simp
  case settingsStored => simp
  case termsStored | linkCreated | linkMoved | linkSuspended | linkResumed | linkFreed | linkHandedOn => rfl
  all_goals exact pending_of_base (by simp)

/-- TIME SET and SETTINGS SET alone touch the clock before the floor is stamped. -/
theorem Handled.clock (h : Handled l b s k t reply) (h1 : k ≠ .timeSet) (h2 : k ≠ .settingsSet) : t.clock = s.clock := by
  cases h
  case opened => rw [clock_of_base (openCase_base _ _ _ _)]
  case timeSet => exact absurd rfl h1
  case settingsStored => exact absurd rfl h2
  case termsStored | linkCreated | linkMoved | linkSuspended | linkResumed | linkFreed | linkHandedOn => rfl
  all_goals exact clock_of_base (by simp)

theorem Handled.settings (h : Handled l b s k t reply) (h2 : k ≠ .settingsSet) : t.settings = s.settings := by
  cases h
  case opened => rw [settings_of_base (openCase_base _ _ _ _)]
  case timeSet => simp
  case settingsStored => exact absurd rfl h2
  case termsStored | linkCreated | linkMoved | linkSuspended | linkResumed | linkFreed | linkHandedOn => rfl
  all_goals exact settings_of_base (by simp)

/-- CASE OPEN alone moves the case counter (R16). -/
theorem Handled.nextCase (h : Handled l b s k t reply) (h1 : k ≠ .caseOpen) : t.nextCase = s.nextCase := by
  cases h
  case opened => exact absurd rfl h1
  case timeSet => simp
  case settingsStored => simp
  case termsStored | linkCreated | linkMoved | linkSuspended | linkResumed | linkFreed | linkHandedOn => rfl
  all_goals exact nextCase_of_base (by simp)

end

/-! ### The frames of the restarts -/

@[simp] theorem runRestartTask_base (s : State) (t : RestartTask) : (runRestartTask t s).base = s.base := by
  cases t <;> simp [runRestartTask]

@[simp] theorem restartClock_terminal (kind : RestartKind) (s : State) : (restartClock kind s).terminal = s.terminal := by
  cases kind <;> rfl
@[simp] theorem restartClock_pending (kind : RestartKind) (s : State) : (restartClock kind s).pending = s.pending := by
  cases kind <;> rfl

/-- The fields a restart leaves, apart from the free choices its last tasks use. -/
theorem restartDevice_keeps {β : Type} (g : State → β) (hu : ∀ n u, g (u.useChoices n) = g u)
    (hb : ∀ u v, u.base = v.base → u.zones = v.zones → u.ports = v.ports → g u = g v) (kind : RestartKind) (s : State) :
    g (restartDevice kind s) = g (restartBase kind s) := by
  unfold restartDevice
  refine runFree_frame g hu _ _ _ fun t u => hb _ _ (runRestartTask_base u t) ?_ ?_
  · cases t <;> simp [runRestartTask]
  · cases t <;> simp [runRestartTask]

@[simp] theorem restartDevice_terminal (kind : RestartKind) (s : State) :
    (restartDevice kind s).terminal = ⟨[], false, 0, 0, none⟩ :=
  restartDevice_keeps State.terminal (fun _ _ => rfl) (fun _ _ h _ _ => terminal_of_base h) kind s

@[simp] theorem restartDevice_links (kind : RestartKind) (s : State) :
    (restartDevice kind s).links = (restartClock kind s).links :=
  restartDevice_keeps State.links (fun _ _ => rfl) (fun _ _ h _ _ => links_of_base h) kind s

@[simp] theorem restartDevice_nextCase (kind : RestartKind) (s : State) :
    (restartDevice kind s).nextCase = (restartClock kind s).nextCase :=
  restartDevice_keeps State.nextCase (fun _ _ => rfl) (fun _ _ h _ _ => nextCase_of_base h) kind s

@[simp] theorem restartDevice_clock (kind : RestartKind) (s : State) :
    (restartDevice kind s).clock = (restartClock kind s).clock :=
  restartDevice_keeps State.clock (fun _ _ => rfl) (fun _ _ h _ _ => clock_of_base h) kind s

@[simp] theorem restartDevice_settings (kind : RestartKind) (s : State) :
    (restartDevice kind s).settings = (restartClock kind s).settings :=
  restartDevice_keeps State.settings (fun _ _ => rfl) (fun _ _ h _ _ => settings_of_base h) kind s

@[simp] theorem restartDevice_concession (kind : RestartKind) (s : State) :
    (restartDevice kind s).concession = (restartClock kind s).concession :=
  restartDevice_keeps State.concession (fun _ _ => rfl) (fun _ _ h _ _ => concession_of_base h) kind s

@[simp] theorem restartDevice_pending (kind : RestartKind) (s : State) : (restartDevice kind s).pending = s.pending :=
  (restartDevice_keeps State.pending (fun _ _ => rfl) (fun _ _ h _ _ => pending_of_base h) kind s).trans
    (restartClock_pending kind s)

@[simp] theorem restartDevice_zones (kind : RestartKind) (s : State) :
    (restartDevice kind s).zones = Vector.ofFn fun z => restartZone (restartClock kind s).zones[z] :=
  restartDevice_keeps State.zones (fun _ _ => rfl) (fun _ _ _ h _ => h) kind s

@[simp] theorem restartDevice_ports (kind : RestartKind) (s : State) :
    (restartDevice kind s).ports =
      ⟨restartPort (restartClock kind s).clock.second (restartClock kind s).ports.a,
        restartPort (restartClock kind s).clock.second (restartClock kind s).ports.b,
        restartPort (restartClock kind s).clock.second (restartClock kind s).ports.c,
        restartPort (restartClock kind s).clock.second (restartClock kind s).ports.d⟩ :=
  restartDevice_keeps State.ports (fun _ _ => rfl) (fun _ _ _ _ h => h) kind s

/-! ### The frames of the couplers' messages and the completions -/

theorem CouplerWork.base {p : Port} {i : Instr} {work : State → State} (hw : CouplerWork p i work) (s : State) :
    (work s).base = s.base := by
  cases hw <;> simp

theorem CouplerWork.zones {p : Port} {i : Instr} {work : State → State} (hw : CouplerWork p i work) (s : State) :
    (work s).zones = s.zones := by
  cases hw <;> simp

@[simp] theorem completePackage_base (s : State) (code : Code) : (completePackage code s).base = s.base := by
  simp [completePackage]
@[simp] theorem completePackage_zones (s : State) (code : Code) : (completePackage code s).zones = s.zones := by
  simp [completePackage]

@[simp] theorem releaseStatement_base (s : State) : (releaseStatement s).base = s.base := by
  unfold releaseStatement; split <;> simp
@[simp] theorem releaseStatement_zones (s : State) : (releaseStatement s).zones = s.zones := by
  unfold releaseStatement; split <;> simp

end Sys2Proof.Machine
end

section
/-! PROOF. The step, the reset state, the checks in front of every request and its one answer (R186 to R188, R176). -/

namespace Sys2Proof.Machine

/-! ### The step and the reset state -/

/-- Settles O1: the step's two branches. -/
theorem stepTakesTheFrontCommand : Obligations.StepTakesTheFrontCommand := by
  refine ⟨fun s c rest h => ?front, fun s h => ?idle⟩
  case front => rw [step, h]; rfl
  case idle => rw [step, h]

/-- Settles O2: the values of `State.reset`, the tables of links, zones and ports row by row. -/
theorem resetIsTheErasedPartAfterPowerOn : Obligations.ResetIsTheErasedPartAfterPowerOn := by
  unfold Obligations.ResetIsTheErasedPartAfterPowerOn
  refine ⟨by decide, by decide, rfl, rfl, by decide, rfl, by decide, fun p => ?_, rfl, rfl, rfl, rfl, rfl, rfl, by decide, by decide⟩
  cases p <;> rfl

theorem erasedLinks_get (l : LinkId) : erasedLinks[l] = if l = rootLink then Link.root else Link.freeRecord := by
  revert l; decide

theorem reset_zones (z : ZoneId) : State.reset.zones[z] = Zone.erased := by
  revert z; decide

theorem reset_port (p : Port) : State.reset.port p = PortRec.sensing := by
  cases p <;> rfl

/-- The erased link table with no case: link 1 alone lives (R175). -/
theorem linksOk_of_erased {s : State} (hl : s.links = erasedLinks) (hc : s.cases = []) : LinksOk s := by
  unfold LinksOk
  rw [hl, hc]
  refine ⟨erasedLinks_get rootLink, fun l hfree => ?_, fun l hl hn => ?_, fun c hc => by cases hc⟩
  · rw [erasedLinks_get] at hfree ⊢
    split at hfree
    · cases hfree
    · exact if_neg ‹_›
  · rw [erasedLinks_get, if_neg hl] at hn
    exact (hn rfl).elim

/-- An empty table with the case counter at 1 is matched. -/
theorem caseTableOk_of_erased {s : State} (hc : s.cases = []) (hn : s.nextCase = some 1) (hm : s.hotlist.master = [])
    (hp : s.hotlist.pending = []) : CaseTableOk s := by
  unfold CaseTableOk
  rw [hc, hn, hm, hp]
  refine ⟨.nil, .nil, fun c hc => (by cases hc), fun n hn => ?_, by decide, .nil, fun e he => (by cases he),
    fun c hc => (by cases hc), by decide⟩
  cases hn
  decide

/-- Settles O3: the erased part meets every invariant, its tables being empty or at their defaults. -/
theorem resetMeetsTheInvariants : Obligations.ResetMeetsTheInvariants := by
  have hcases : ∀ c, c ∉ State.reset.cases := fun c hc => by cases hc
  refine ⟨?terminal, ?channels, ?clock, linksOk_of_erased rfl rfl, caseTableOk_of_erased rfl rfl rfl rfl, ?states, ?chains,
    ?generations, ?zones, ?ports, ?jobs, ?signing⟩
  case terminal => exact ⟨by decide, by decide, by decide, by decide, by decide⟩
  case channels =>
    unfold ChannelsOk ChannelOk
    decide
  case clock => exact ⟨by decide, fun t ht => by cases ht⟩
  case states => exact fun c hc => (hcases c hc).elim
  case chains => exact fun c hc => (hcases c hc).elim
  case generations =>
    refine ⟨fun e he => (by cases he), fun c hc => (hcases c hc).elim, fun z => ?_⟩
    rw [reset_zones]
    exact ⟨Nat.le_refl 0, fun b hb => by cases hb⟩
  case zones =>
    intro z
    rw [reset_zones]
    exact ⟨by decide, fun b hb => (by cases hb), by decide⟩
  case ports =>
    intro p
    rw [reset_port]
    exact by unfold PortOk; decide
  case jobs =>
    refine ⟨fun p j hj => ?_, fun c hc => (hcases c hc).elim⟩
    rw [reset_port] at hj
    cases hj
  case signing => exact fun _ => rfl

/-! ### Every command has a next state -/

/-- A command leaves the queue to the step. -/
theorem Does.pending {i : Instr} {s t : State} (h : Does s i t) : t.pending = s.pending := by
  cases h with
  | idle => rfl
  | refused st hb => rfl
  | handled hr => exact (stampFloor_pending _ _).trans (handlerOf_handled _ _ _ s).pending
  | line hf => rfl
  | restart hi => simp
  | tick hc => simp
  | floor => rfl
  | coupler hp hw => rw [stampFloor_pending, pending_of_base (hw.base s)]
  | window p => simp
  | package x hg hc => rw [stampFloor_pending, pending_of_base (completePackage_base _ _)]
  | statement x hg hc => rw [stampFloor_pending, pending_of_base (releaseStatement_base _), completeStatement_pending]

/-- Settles O4: the next state that `Does` describes. -/
theorem commandsNeverStop : Obligations.CommandsNeverStop := fun c s =>
  let ⟨t, ht, hd⟩ := exec_does c s
  ⟨t, ht, hd.pending⟩

/-! ### One answer to each request -/

/-- The answer to a request whose work keeps the terminal port. -/
theorem placeAnswer_terminal (f : Frame) (rest : List BufferPlace) (reply : Reply) (s : State) :
    (placeAnswer f rest reply s).terminal =
      { s.terminal with buffer := ⟨f, some (formAnswer f reply s)⟩ :: rest, overrunFlag := false } := rfl

/-- A request taken with its work leaves the terminal port of the state it found, with its answer at the head. -/
theorem handle_terminal (k : Kind) (r : Request) (s : State) : (handle k (handlerOf k) r s).1.terminal = s.terminal := by
  rcases handle_refused_or_handled k r s with ⟨st, h⟩ | ⟨l, _, _, _, _, _, h⟩
  · rw [h]; rfl
  · rw [h]; exact (handlerOf_handled k l r.body s).terminal

/-- Settles O19: `takeFrame` on a frame that is next, and on one that is not. -/
theorem everyRequestGetsOneAnswer : Obligations.EveryRequestGetsOneAnswer := by
  intro k r s
  rw [exec_requestCommand]
  refine ⟨fun hb => ?notNext, fun rest hb => ?answered⟩
  case notNext => exact congrArg _ (takeFrame_of_not_next hb)
  case answered =>
    refine ⟨_, (handle k (handlerOf k) r s).2, rfl, ?_⟩
    rw [take, takeFrame_eq hb (handle_terminal k r s)]
    rfl

/-! ### The checks in front of every request -/

/-- Settles O20: an unknown kind is answered before any check, and each check that refuses is the first that applies. -/
theorem frameAndLinkChecksDecideInOrder : Obligations.FrameAndLinkChecksDecideInOrder := by
  refine ⟨fun kind r rest s hkind hb => ?unknown, fun k r rest s hb => ?known⟩
  case unknown =>
    have hcode : codeUnknown kind = true := by
      rcases hkind with rfl | h
      · rfl
      · exact decide_eq_true (.inr h)
    show Host.Outcome.next (if codeUnknown kind then takeFrame (r.frame kind) (refuse .unknownKind) s else s) = _
    rw [if_pos hcode, takeFrame_eq hb rfl, refuse, stampFloor_self]
    rfl
  case known =>
    have refuses {st : Status} (h : handle k (handlerOf k) r s = refuse st s) : Completes k r rest s s ⟨st, .none⟩ :=
      refuses_of (exec_requestCommand k r s) hb h
    refine ⟨fun hlen => refuses (handle_of_frameStatus _ (frameStatus_of_length hlen)),
      fun hlen hflags => refuses (handle_of_frameStatus _ (frameStatus_of_flags hlen hflags)), fun hlen hflags => ?_⟩
    have hf := frameStatus_of_ready hlen hflags
    exact ⟨fun hl => refuses (handle_of_no_link _ hf hl), fun l hl =>
      ⟨fun hs => refuses (handle_of_link_refused _ hf hl (linkStatus_of_free hs)),
        fun hs => refuses (handle_of_link_refused _ hf hl (linkStatus_of_suspended hs)),
        fun hs hr => refuses (handle_of_link_refused _ hf hl (linkStatus_of_lacking_right hs hr))⟩⟩

/-- A handler that does not answer DONE leaves the state, the three feed requests aside. -/
theorem Handled.eq_of_not_done {l : LinkId} {b : List Byte} {s t : State} {k : Kind} {reply : Reply}
    (h : Handled l b s k t reply) (h1 : k ≠ .batchHeader) (h2 : k ≠ .batchRecords) (h3 : k ≠ .batchEnd)
    (hst : reply.status ≠ .done) : t = s := by
  cases h
  case refused => rfl
  case header => exact absurd rfl h1
  case records => exact absurd rfl h2
  case batchRefused => exact absurd rfl h3
  all_goals exact absurd rfl hst

/-- Settles O21: a refusal of the checks and a refusal of the handler both leave the state they found. -/
theorem refusalsChangeNothing : Obligations.RefusalsChangeNothing := by
  intro k r s t f a rest h1 h2 h3 hb hx hbuf hst
  rw [exec_requestCommand] at hx
  have ht : t = takeFrame (r.frame (kindByte k)) (handle k (handlerOf k) r) s := by cases hx; rfl
  rw [takeFrame_eq hb (handle_terminal k r s)] at ht
  have hreply : a.reply = (handle k (handlerOf k) r s).2 := by
    rw [ht] at hbuf
    cases hbuf
    rfl
  have hsame : (handle k (handlerOf k) r s).1 = s := by
    rcases handle_refused_or_handled k r s with ⟨st, h⟩ | ⟨l, _, _, _, _, _, h⟩
    · rw [h]; rfl
    · rw [h] at hreply ⊢
      exact (handlerOf_handled k l r.body s).eq_of_not_done h1 h2 h3 (hreply ▸ hst)
  rw [hsame, stampFloor_self] at ht
  rw [ht]

end Sys2Proof.Machine
end

section
/-! PROOF. What every shared operation keeps (`Keeps`), so that each invariant is read off one relation: the parts of the relation,
and the few ways in which an operation changes a part of the state. -/

namespace Sys2Proof.Machine

/-! ### One case, before and after -/

/-- The fields of a case that only its own opening, a transfer of its owner and a package's completion touch, and its job, which is
kept or gone. -/
structure SameCase (c d : Case) : Prop where
  number : d.number = c.number
  snapshot : d.snapshot = c.snapshot
  generation : d.generation = c.generation
  job : d.job ≠ none → d.job = c.job

/-- What a case becomes: it keeps R18 and R44, and its state while its job stays (R31). -/
structure Evolves (c d : Case) : Prop where
  number : d.number = c.number
  job : d.job ≠ none → d.job = c.job ∧ d.state = c.state
  state : CaseStateOk c → CaseStateOk d
  chain : ChainOk c → ChainOk d

/-- Two settlements with the same figures, the residue, the pending mark and the code aside (R22, R32). -/
def SameFigures (f g : Settlement) : Prop :=
  { g with residue := f.residue, statementPending := f.statementPending, code := f.code } = f

/-- A SETTLED case stays SETTLED with the figures it settled with. -/
structure StaysSettled (c d : Case) : Prop where
  number : d.number = c.number
  settled : c.state = .settled → d.state = .settled ∧ ∀ f, c.settlement = some f → ∃ g, d.settlement = some g ∧ SameFigures f g

theorem SameCase.refl (c : Case) : SameCase c c := ⟨rfl, rfl, rfl, fun _ => rfl⟩

theorem SameCase.trans {c d e : Case} (h : SameCase c d) (k : SameCase d e) : SameCase c e :=
  ⟨k.number.trans h.number, k.snapshot.trans h.snapshot, k.generation.trans h.generation,
    fun hj => (k.job hj).trans (h.job fun e => hj ((k.job hj).trans e))⟩

theorem Evolves.refl (c : Case) : Evolves c c := ⟨rfl, fun _ => ⟨rfl, rfl⟩, id, id⟩

theorem Evolves.trans {c d e : Case} (h : Evolves c d) (k : Evolves d e) : Evolves c e := by
  refine ⟨k.number.trans h.number, fun hj => ?_, k.state ∘ h.state, k.chain ∘ h.chain⟩
  obtain ⟨hj2, hs2⟩ := k.job hj
  obtain ⟨hj1, hs1⟩ := h.job (hj2 ▸ hj)
  exact ⟨hj2.trans hj1, hs2.trans hs1⟩

theorem SameFigures.refl (f : Settlement) : SameFigures f f := rfl

theorem SameFigures.trans {f g k : Settlement} (h1 : SameFigures f g) (h2 : SameFigures g k) : SameFigures f k := by
  unfold SameFigures at *
  rw [← h2] at h1
  exact h1

theorem StaysSettled.refl (c : Case) : StaysSettled c c := ⟨rfl, fun h => ⟨h, fun f hf => ⟨f, hf, .refl f⟩⟩⟩

theorem StaysSettled.trans {c d e : Case} (h : StaysSettled c d) (k : StaysSettled d e) : StaysSettled c e := by
  refine ⟨k.number.trans h.number, fun hc => ?_⟩
  obtain ⟨hd, hf⟩ := h.settled hc
  obtain ⟨he, hg⟩ := k.settled hd
  refine ⟨he, fun f hcf => ?_⟩
  obtain ⟨g, hdg, h1⟩ := hf f hcf
  obtain ⟨x, hex, h2⟩ := hg g hdg
  exact ⟨x, hex, h1.trans h2⟩

/-- A case that is not SETTLED yet may settle. -/
theorem StaysSettled.of_unsettled {c d : Case} (hn : d.number = c.number) (h : c.state ≠ .settled) : StaysSettled c d :=
  ⟨hn, fun hc => absurd hc h⟩

/-- A change of other fields than state and settlement. -/
theorem StaysSettled.of_same {c d : Case} (hn : d.number = c.number) (hs : d.state = c.state) (hf : d.settlement = c.settlement) :
    StaysSettled c d :=
  ⟨hn, fun hc => ⟨hs.trans hc, fun f hcf => ⟨f, hf.trans hcf, .refl f⟩⟩⟩

/-- A change of none of the fields that R18 and R44 speak of. -/
theorem Evolves.of_same {c d : Case} (hn : d.number = c.number) (hj : d.job = c.job ∨ d.job = none) (hs : d.state = c.state)
    (hk : d.newCard = c.newCard) (hf : d.settlement = c.settlement) (hch : ChainOk c → ChainOk d) : Evolves c d := by
  refine ⟨hn, fun h => ⟨?_, hs⟩, fun h => ?_, hch⟩
  · exact hj.resolve_right h
  · unfold CaseStateOk at *
    rw [hs, hk, hf]
    exact h

/-! ### One port, before and after -/

/-- What names a job: its kind and its case. -/
def jobKey (j : Job) : JobKind × Nat := (j.kind, j.caseNo)

/-- The settings of a port in their ranges, and its timeout count (R139). -/
def PortRanges (r : PortRec) : Prop :=
  r.retryLimit ≤ 15 ∧ 1 ≤ r.fenceThreshold ∧ r.fenceThreshold ≤ 15 ∧ 50 ≤ r.timeout ∧ r.timeout ≤ 2000 ∧
    10 ≤ r.window ∧ r.window ≤ 600 ∧ r.timeouts ≤ 15

/-- A port that carries nothing. -/
def PortBare (r : PortRec) : Prop := r.job = none ∧ r.outstanding = none ∧ r.card = none

theorem portOk_iff (r : PortRec) : PortOk r ↔ PortRanges r ∧ (inService r = false → PortBare r) := by
  unfold PortOk PortRanges PortBare
  constructor
  · rintro ⟨h1, h2, h3, h4, h5, h6, h7, h8, h9⟩
    exact ⟨⟨h1, h2, h3, h4, h5, h6, h7, h8⟩, h9⟩
  · rintro ⟨⟨h1, h2, h3, h4, h5, h6, h7, h8⟩, h9⟩
    exact ⟨h1, h2, h3, h4, h5, h6, h7, h8, h9⟩

/-- A change of a port's record that keeps R139. -/
structure PortSound (r q : PortRec) : Prop where
  ranges : PortRanges r → PortRanges q
  bare : (inService r = false → PortBare r) → inService q = false → PortBare q

/-- A change that keeps the port's job beside. -/
structure PortStep (r q : PortRec) : Prop extends PortSound r q where
  job : q.job.map jobKey = r.job.map jobKey

theorem PortSound.refl (r : PortRec) : PortSound r r := ⟨id, id⟩

theorem PortSound.trans {r q u : PortRec} (h : PortSound r q) (k : PortSound q u) : PortSound r u :=
  ⟨k.ranges ∘ h.ranges, k.bare ∘ h.bare⟩

theorem PortSound.ok {r q : PortRec} (h : PortSound r q) (hr : PortOk r) : PortOk q := by
  rw [portOk_iff] at *
  exact ⟨h.ranges hr.1, h.bare hr.2⟩

theorem PortStep.refl (r : PortRec) : PortStep r r := ⟨.refl r, rfl⟩

theorem PortStep.trans {r q u : PortRec} (h : PortStep r q) (k : PortStep q u) : PortStep r u :=
  ⟨h.toPortSound.trans k.toPortSound, k.job.trans h.job⟩

/-- The job of a port after a step that keeps its key. -/
theorem PortStep.job_none {r q : PortRec} (h : PortStep r q) (hr : r.job = none) : q.job = none := by
  have := h.job
  rw [hr] at this
  simpa using this

/-- A change of the job alone that keeps its key. -/
theorem portStep_job (r : PortRec) (f : Job → Job) (hf : ∀ j, jobKey (f j) = jobKey j) :
    PortStep r { r with job := r.job.map f } := by
  refine ⟨⟨id, fun h hq => ?_⟩, ?_⟩
  · obtain ⟨hj, ho, hc⟩ := h hq
    exact ⟨by simp [hj], ho, hc⟩
  · cases r.job <;> simp [hf]

/-- A command sent on a port that carries a job or is in service. -/
theorem portStep_send (r : PortRec) (o : Option Outstanding) (h : r.job ≠ none ∨ inService r = true) :
    PortStep r { r with outstanding := o } := by
  refine ⟨⟨id, fun hb hq => ?_⟩, rfl⟩
  rcases h with h | h
  · exact absurd (hb hq).1 h
  · rw [show inService r = false from hq] at h
    cases h

/-- A command dropped. -/
theorem portStep_drop (r : PortRec) : PortStep r { r with outstanding := none } :=
  ⟨⟨id, fun hb hq => ⟨(hb hq).1, rfl, (hb hq).2.2⟩⟩, rfl⟩

/-! ### The relation -/

/-- What every operation keeps of the machine, the owners and the settled figures aside: what an invariant speaks of, from a state
that meets it. -/
structure KeepsTable (s t : State) : Prop where
  nextCase : t.nextCase = s.nextCase
  generation : t.hotlist.generation = s.hotlist.generation
  master : ∀ e ∈ t.hotlist.master, e ∈ s.hotlist.master
  channels : ChannelsOk s → ChannelsOk t
  signing : SigningOk s → SigningOk t
  ports : ∀ p, PortSound (s.port p) (t.port p)
  same : ∀ d ∈ t.cases, ∃ c ∈ s.cases, SameCase c d
  table : CaseTableOk s → CaseTableOk t
  rise : NumbersRise s → NumbersRise t
  evolves : NumbersRise s → ∀ d ∈ t.cases, ∃ c ∈ s.cases, Evolves c d
  jobs : NumbersRise s → JobsOk s → JobsOk t

/-- What every operation keeps. -/
structure Keeps (s t : State) : Prop extends KeepsTable s t where
  owners : ∀ d ∈ t.cases, ∃ c ∈ s.cases, d.owner = c.owner
  settled : NumbersRise s → JobsOk s → ∀ d ∈ t.cases, ∃ c ∈ s.cases, StaysSettled c d

theorem KeepsTable.refl (s : State) : KeepsTable s s where
  nextCase := rfl
  generation := rfl
  master _ he := he
  channels := id
  signing := id
  ports _ := .refl _
  same d hd := ⟨d, hd, .refl d⟩
  table := id
  rise := id
  evolves _ d hd := ⟨d, hd, .refl d⟩
  jobs _ := id

theorem KeepsTable.trans {s t u : State} (h : KeepsTable s t) (k : KeepsTable t u) : KeepsTable s u where
  nextCase := k.nextCase.trans h.nextCase
  generation := k.generation.trans h.generation
  master e he := h.master e (k.master e he)
  channels := k.channels ∘ h.channels
  signing := k.signing ∘ h.signing
  ports p := (h.ports p).trans (k.ports p)
  same d hd :=
    let ⟨e, he, h2⟩ := k.same d hd
    let ⟨c, hc, h1⟩ := h.same e he
    ⟨c, hc, h1.trans h2⟩
  table := k.table ∘ h.table
  rise := k.rise ∘ h.rise
  evolves hs d hd :=
    let ⟨e, he, h2⟩ := k.evolves (h.rise hs) d hd
    let ⟨c, hc, h1⟩ := h.evolves hs e he
    ⟨c, hc, h1.trans h2⟩
  jobs hs hj := k.jobs (h.rise hs) (h.jobs hs hj)

theorem Keeps.refl (s : State) : Keeps s s where
  toKeepsTable := .refl s
  owners d hd := ⟨d, hd, rfl⟩
  settled _ _ d hd := ⟨d, hd, .refl d⟩

theorem Keeps.trans {s t u : State} (h : Keeps s t) (k : Keeps t u) : Keeps s u where
  toKeepsTable := h.toKeepsTable.trans k.toKeepsTable
  owners d hd :=
    let ⟨e, he, h2⟩ := k.owners d hd
    let ⟨c, hc, h1⟩ := h.owners e he
    ⟨c, hc, h2.trans h1⟩
  settled hs hj d hd :=
    let ⟨e, he, h2⟩ := k.settled (h.rise hs) (h.jobs hs hj) d hd
    let ⟨c, hc, h1⟩ := h.settled hs hj e he
    ⟨c, hc, h1.trans h2⟩

/-- What every operation keeps, a fold of them keeps. -/
theorem keeps_foldl {α : Type} {f : State → α → State} (h : ∀ a s, Keeps s (f s a)) (l : List α) (s : State) :
    Keeps s (l.foldl f s) := by
  induction l generalizing s with
  | nil => exact .refl s
  | cons a l ih => exact (h a s).trans (ih (f s a))

/-! ### Changes of the parts beside the cases -/

/-- Two states whose ports name the same jobs match the same cases (R31). -/
theorem jobsOk_of_keys {s t : State} (hc : t.cases = s.cases)
    (hk : ∀ p, (t.port p).job.map jobKey = (s.port p).job.map jobKey) (h : JobsOk s) : JobsOk t := by
  have key {u v : State} (hk : ∀ p, (v.port p).job.map jobKey = (u.port p).job.map jobKey) {p : Port} {j : Job}
      (hj : (v.port p).job = some j) : ∃ i, (u.port p).job = some i ∧ i.kind = j.kind ∧ i.caseNo = j.caseNo := by
    have := hk p
    rw [hj] at this
    cases hi : (u.port p).job with
    | none => rw [hi] at this; cases this
    | some i =>
      rw [hi] at this
      simp only [Option.map_some, Option.some.injEq, jobKey, Prod.mk.injEq] at this
      exact ⟨i, rfl, this.1.symm, this.2.symm⟩
  refine ⟨fun p j hj => ?_, fun c hcm k p hcj => ?_⟩
  · obtain ⟨i, hi, hkind, hno⟩ := key hk hj
    obtain ⟨c, hcm, h1, h2, h3⟩ := h.1 p i hi
    rw [hc]
    exact ⟨c, hcm, h1.trans hno, by rw [h2, hkind], fun hr => h3 (hkind.trans hr)⟩
  · rw [hc] at hcm
    obtain ⟨i, hi, hno, hkind⟩ := h.2 c hcm k p hcj
    obtain ⟨j, hj, hkind', hno'⟩ := key (fun p => (hk p).symm) hi
    exact ⟨j, hj, hno'.trans hno, by rw [hkind', hkind]⟩

/-- The case table's bounds are read from the cases, the counter, the master list and the number of changes. -/
theorem caseTableOk_congr {s t : State} (hc : t.cases = s.cases) (hn : t.nextCase = s.nextCase)
    (hm : t.hotlist.master = s.hotlist.master) (hl : t.hotlist.pending.length = s.hotlist.pending.length) (h : CaseTableOk s) :
    CaseTableOk t := by
  unfold CaseTableOk at *
  rw [hc, hn, hm, hl]
  exact h

/-- An operation that leaves cases and reports alone: it steps the ports, keeps the master list and the number of changes. -/
theorem keeps_of_parts {s t : State} (hc : t.cases = s.cases) (hn : t.nextCase = s.nextCase) (hch : t.channels = s.channels)
    (hm : t.hotlist.master = s.hotlist.master) (hg : t.hotlist.generation = s.hotlist.generation)
    (hl : t.hotlist.pending.length = s.hotlist.pending.length) (hs : SigningOk s → SigningOk t)
    (hp : ∀ p, PortStep (s.port p) (t.port p)) : Keeps s t where
  nextCase := hn
  generation := hg
  master e he := hm ▸ he
  channels h := by
    unfold ChannelsOk at *
    rw [hch]
    exact h
  signing := hs
  ports p := (hp p).toPortSound
  same d hd := ⟨d, hc ▸ hd, .refl d⟩
  table := caseTableOk_congr hc hn hm hl
  rise h := by
    unfold NumbersRise at *
    rw [hc]
    exact h
  evolves _ d hd := ⟨d, hc ▸ hd, .refl d⟩
  jobs _ := jobsOk_of_keys hc fun p => (hp p).job
  owners d hd := ⟨d, hc ▸ hd, rfl⟩
  settled _ _ d hd := ⟨d, hc ▸ hd, .refl d⟩

/-- States that agree in all the relation speaks of. -/
theorem keeps_of_eq {s t : State} (hc : t.cases = s.cases) (hn : t.nextCase = s.nextCase) (hch : t.channels = s.channels)
    (hh : t.hotlist = s.hotlist) (hs : t.signing = s.signing) (hp : t.ports = s.ports) : Keeps s t :=
  keeps_of_parts hc hn hch (by rw [hh]) (by rw [hh]) (by rw [hh])
    (fun h => by unfold SigningOk at *; rw [hs]; exact h)
    (fun p => by rw [port_of_ports hp p]; exact .refl _)

/-- A change of the clock. -/
theorem keeps_modClock (s : State) (f : Clock → Clock) : Keeps s (s.modClock f) := keeps_of_eq rfl rfl rfl rfl rfl rfl

/-- A change of the terminal port. -/
theorem keeps_modTerminal (s : State) (f : Terminal → Terminal) : Keeps s (s.modTerminal f) := keeps_of_eq rfl rfl rfl rfl rfl rfl

/-- A change of one zone's record. -/
theorem keeps_modZone (s : State) (z : ZoneId) (f : Zone → Zone) : Keeps s (s.modZone z f) := keeps_of_eq rfl rfl rfl rfl rfl rfl

theorem keeps_useChoices (s : State) (n : Nat) : Keeps s (s.useChoices n) := keeps_of_eq rfl rfl rfl rfl rfl rfl

theorem keeps_withPending (s : State) (l : List Instr) : Keeps s (s.withPending l) := keeps_of_eq rfl rfl rfl rfl rfl rfl

/-- The stamp of the time floor. -/
theorem keeps_stampFloor (s t : State) : Keeps t (stampFloor s t) :=
  keeps_of_eq (by simp) (by simp) (by simp) (by simp) (by simp) (by simp)

theorem keeps_placeAnswer (f : Frame) (rest : List BufferPlace) (reply : Reply) (s : State) :
    Keeps s (placeAnswer f rest reply s) := keeps_modTerminal s _

/-- Tasks in a free order, each of which keeps what the relation speaks of. -/
theorem keeps_runFree {α : Type} {tasks : List α} {run : α → State → State} {s : State}
    (h : ∀ t ∈ tasks, ∀ u, Keeps u (run t u)) : Keeps s (s.runFree tasks run) :=
  runFree_keeps (Keeps s) tasks run s (keeps_useChoices s _) fun t ht u hu => hu.trans (h t ht u)

/-- A change of one port's record. -/
theorem keeps_modPort {s : State} {p : Port} {f : PortRec → PortRec} (h : PortStep (s.port p) (f (s.port p))) :
    Keeps s (s.modPort p f) := by
  refine keeps_of_parts rfl rfl rfl rfl rfl rfl id fun q => ?_
  rw [modPort_port]
  split
  · subst q; exact h
  · exact .refl _

/-- A change of one port's job that keeps its kind and its case. -/
theorem keeps_modJob (s : State) (p : Port) (f : Job → Job) (hf : ∀ j, jobKey (f j) = jobKey j := by intro _; rfl) :
    Keeps s (s.modJob p f) :=
  keeps_modPort (portStep_job _ f hf)

/-! ### Reports (R183) -/

theorem channelOk_pushReport {ch : Channel} (r : Report) (h : ChannelOk ch) : ChannelOk (pushReport r ch) := by
  obtain ⟨hq, hd, hne⟩ := h
  rcases pushReport_cases r ch with ⟨hlt, e⟩ | ⟨hge, e⟩ <;> rw [e]
  · exact ⟨by simp only [List.length_append, List.length_singleton]; omega, hd, fun _ => by simp⟩
  · refine ⟨hq, by dsimp only; omega, fun _ hnil => ?_⟩
    rw [show ch.queue = [] from hnil] at hge
    simp at hge

theorem channelsOk_setChannel {s : State} {c : Fin 4} {ch : Channel} (hs : ChannelsOk s) (h : ChannelOk ch) :
    ChannelsOk (s.setChannel c ch) := by
  intro d
  rw [setChannel_channels]
  by_cases hd : d = c
  · subst d
    simpa using h
  · have hne : (c : Nat) ≠ d := fun e => hd (Fin.ext e.symm)
    rw [show (s.channels.set c ch)[d] = s.channels[d] from Vector.getElem_set_ne _ _ hne]
    exact hs d

theorem keeps_queueReport (s : State) (c : Fin 4) (r : Report) : Keeps s (s.queueReport c r) := by
  have h := keeps_of_eq (s := s) (t := { s.queueReport c r with channels := s.channels }) rfl rfl rfl rfl rfl rfl
  exact { h with channels := fun hs => channelsOk_setChannel hs (channelOk_pushReport r (hs c)) }

theorem keeps_systemReport (s : State) (b : ReportBody) : Keeps s (s.systemReport b) := keeps_queueReport s 0 _

theorem keeps_reportOn (s : State) (n : Nat) (body : Case → ReportBody) : Keeps s (reportOn n body s) := by
  unfold reportOn
  split
  · exact .refl s
  · exact keeps_queueReport s _ _

/-! ### Changes of the cases -/

/-- The case table's bounds under a change of the cases that keeps what their master entries hold. -/
theorem caseTableOk_map {s t : State} {f : Case → Case} (hc : t.cases = s.cases.map f) (hf : ∀ c ∈ s.cases, entryOf (f c) = entryOf c)
    (hn : t.nextCase = s.nextCase) (hh : t.hotlist = s.hotlist) (h : CaseTableOk s) : CaseTableOk t := by
  obtain ⟨hnum, hcard, hbound, hnext, hlen, hmaster, hin, hout, hpend⟩ := h
  have hnumber : ∀ c ∈ s.cases, (f c).number = c.number := fun c hm => congrArg MasterEntry.caseNo (hf c hm)
  have hcardNo : ∀ c ∈ s.cases, (f c).snapshot.cardNo = c.snapshot.cardNo := fun c hm => congrArg MasterEntry.cardNo (hf c hm)
  unfold CaseTableOk
  rw [hc, hn, hh]
  refine ⟨?_, ?_, ?_, hnext, by rwa [List.length_map], hmaster, fun e he => ?_, ?_, hpend⟩
  · rw [List.pairwise_map]
    exact hnum.imp_of_mem fun ha hb hab => by rw [hnumber _ ha, hnumber _ hb]; exact hab
  · rw [List.pairwise_map]
    exact hcard.imp_of_mem fun ha hb hab => by rw [hcardNo _ ha, hcardNo _ hb]; exact hab
  · intro d hd
    obtain ⟨c, hm, rfl⟩ := List.mem_map.mp hd
    rw [hnumber c hm]
    exact hbound c hm
  · obtain ⟨c, hm, rfl⟩ := hin e he
    exact ⟨f c, List.mem_map_of_mem hm, (hf c hm).symm⟩
  · intro d hd
    obtain ⟨c, hm, rfl⟩ := List.mem_map.mp hd
    rw [hf c hm]
    exact hout c hm

theorem SameCase.entry {c d : Case} (h : SameCase c d) : entryOf d = entryOf c := by
  unfold entryOf
  rw [h.number, h.snapshot, h.generation]

/-- The match of ports and cases under a change of the cases that keeps number and job, and the state of a case with a job. -/
theorem jobsOk_map {s t : State} {f : Case → Case} (hc : t.cases = s.cases.map f) (hnum : ∀ c ∈ s.cases, (f c).number = c.number)
    (hjob : ∀ c ∈ s.cases, (f c).job = c.job) (hst : ∀ c ∈ s.cases, c.job ≠ none → (f c).state = c.state)
    (hp : ∀ p, (t.port p).job = (s.port p).job) (h : JobsOk s) : JobsOk t := by
  refine ⟨fun p j hj => ?_, fun d hd k p hdj => ?_⟩
  · obtain ⟨c, hm, h1, h2, h3⟩ := h.1 p j ((hp p) ▸ hj)
    refine ⟨f c, hc ▸ List.mem_map_of_mem hm, (hnum c hm).trans h1, (hjob c hm).trans h2, fun hk => ?_⟩
    rw [hst c hm (by rw [h2]; simp)]
    exact h3 hk
  · rw [hc] at hd
    obtain ⟨c, hm, rfl⟩ := List.mem_map.mp hd
    obtain ⟨j, hj, h1, h2⟩ := h.2 c hm k p ((hjob c hm) ▸ hdj)
    exact ⟨j, (hp p).trans hj, h1.trans (hnum c hm).symm, h2⟩

/-- A change of every case that keeps what R16 and R101 read of it, beside a change of the ports that R31 and R139 allow. -/
theorem keepsTable_map_ports {s t : State} {f : Case → Case} (hc : t.cases = s.cases.map f)
    (hsame : ∀ c ∈ s.cases, SameCase c (f c)) (hev : NumbersRise s → ∀ c ∈ s.cases, Evolves c (f c))
    (hn : t.nextCase = s.nextCase) (hch : t.channels = s.channels) (hh : t.hotlist = s.hotlist) (hs : t.signing = s.signing)
    (hp : ∀ p, PortSound (s.port p) (t.port p)) (hj : NumbersRise s → JobsOk s → JobsOk t) : KeepsTable s t where
  nextCase := hn
  generation := by rw [hh]
  master e he := hh ▸ he
  channels h := by unfold ChannelsOk at *; rw [hch]; exact h
  signing h := by unfold SigningOk at *; rw [hs]; exact h
  ports := hp
  same d hd := by
    rw [hc] at hd
    obtain ⟨c, hm, rfl⟩ := List.mem_map.mp hd
    exact ⟨c, hm, hsame c hm⟩
  table := caseTableOk_map hc (fun c hm => (hsame c hm).entry) hn hh
  rise h := by
    unfold NumbersRise at *
    rw [hc, List.pairwise_map]
    exact h.imp_of_mem fun ha hb hab => by rw [(hsame _ ha).number, (hsame _ hb).number]; exact hab
  evolves h d hd := by
    rw [hc] at hd
    obtain ⟨c, hm, rfl⟩ := List.mem_map.mp hd
    exact ⟨c, hm, hev h c hm⟩
  jobs := hj

/-- A change of every case that keeps its job and what R16 and R101 read of it. -/
theorem keepsTable_map {s t : State} {f : Case → Case} (hc : t.cases = s.cases.map f) (hsame : ∀ c ∈ s.cases, SameCase c (f c))
    (hjob : ∀ c ∈ s.cases, (f c).job = c.job) (hev : NumbersRise s → ∀ c ∈ s.cases, Evolves c (f c))
    (hn : t.nextCase = s.nextCase) (hch : t.channels = s.channels) (hh : t.hotlist = s.hotlist) (hs : t.signing = s.signing)
    (hp : t.ports = s.ports) : KeepsTable s t :=
  keepsTable_map_ports hc hsame hev hn hch hh hs (fun p => by rw [port_of_ports hp p]; exact .refl _) fun h =>
    jobsOk_map hc (fun c hm => (hsame c hm).number) hjob
      (fun c hm hcj => ((hev h c hm).job ((hjob c hm).symm ▸ hcj)).2) (fun p => by rw [port_of_ports hp p])

/-- The same with the owner, and the figures of a SETTLED case. -/
theorem keeps_map {s t : State} {f : Case → Case} (hc : t.cases = s.cases.map f) (hsame : ∀ c ∈ s.cases, SameCase c (f c))
    (hown : ∀ c ∈ s.cases, (f c).owner = c.owner) (hjob : ∀ c ∈ s.cases, (f c).job = c.job)
    (hev : NumbersRise s → ∀ c ∈ s.cases, Evolves c (f c))
    (hset : NumbersRise s → JobsOk s → ∀ c ∈ s.cases, StaysSettled c (f c))
    (hn : t.nextCase = s.nextCase) (hch : t.channels = s.channels) (hh : t.hotlist = s.hotlist) (hs : t.signing = s.signing)
    (hp : t.ports = s.ports) : Keeps s t where
  toKeepsTable := keepsTable_map hc hsame hjob hev hn hch hh hs hp
  owners d hd := by
    rw [hc] at hd
    obtain ⟨c, hm, rfl⟩ := List.mem_map.mp hd
    exact ⟨c, hm, hown c hm⟩
  settled h hj d hd := by
    rw [hc] at hd
    obtain ⟨c, hm, rfl⟩ := List.mem_map.mp hd
    exact ⟨c, hm, hset h hj c hm⟩

/-- What holds of the changed case and, trivially, of every other, holds of a change of one case. -/
theorem forall_modCase {P : Case → Case → Prop} {l : List Case} {n : Nat} {f : Case → Case} (hrefl : ∀ c, P c c)
    (h : ∀ c ∈ l, c.number = n → P c (f c)) : ∀ c ∈ l, P c (if c.number = n then f c else c) := by
  intro c hc
  split
  · exact h c hc ‹_›
  · exact hrefl c

/-- A change of the case of a number. -/
theorem keeps_modCase {s : State} {n : Nat} {f : Case → Case} (hsame : ∀ c, SameCase c (f c)) (hown : ∀ c, (f c).owner = c.owner)
    (hjob : ∀ c, (f c).job = c.job) (hev : NumbersRise s → ∀ c ∈ s.cases, c.number = n → Evolves c (f c))
    (hset : NumbersRise s → JobsOk s → ∀ c ∈ s.cases, c.number = n → StaysSettled c (f c)) : Keeps s (s.modCase n f) :=
  keeps_map (modCase_cases s n f) (forall_modCase SameCase.refl fun c _ _ => hsame c)
    (forall_modCase (P := fun c d => d.owner = c.owner) (fun _ => rfl) fun c _ _ => hown c)
    (forall_modCase (P := fun c d => d.job = c.job) (fun _ => rfl) fun c _ _ => hjob c)
    (fun h => forall_modCase Evolves.refl (hev h)) (fun h hj => forall_modCase StaysSettled.refl (hset h hj)) rfl rfl rfl rfl rfl

/-- A change of fields that no invariant reads. -/
theorem keeps_modCase_plain {s : State} {n : Nat} {f : Case → Case} (hsame : ∀ c, SameCase c (f c))
    (hown : ∀ c, (f c).owner = c.owner) (hjob : ∀ c, (f c).job = c.job) (hst : ∀ c, (f c).state = c.state)
    (hk : ∀ c, (f c).newCard = c.newCard) (hf : ∀ c, (f c).settlement = c.settlement)
    (hch : NumbersRise s → ∀ c ∈ s.cases, c.number = n → ChainOk c → ChainOk (f c)) : Keeps s (s.modCase n f) :=
  keeps_modCase hsame hown hjob
    (fun h c hc hn => .of_same (hsame c).number (.inl (hjob c)) (hst c) (hk c) (hf c) (hch h c hc hn))
    (fun _ _ c _ _ => .of_same (hsame c).number (hst c) (hf c))

/-- In ascending numbers the case found under a number is every case of that number. -/
theorem eq_of_found {s : State} {n : Nat} {c d : Case} (hs : NumbersRise s) (hc : s.findCase n = some c) (hd : d ∈ s.cases)
    (hn : d.number = n) : d = c :=
  eq_of_number hs hd (findCase_mem hc) (hn.trans (findCase_number hc).symm)

end Sys2Proof.Machine
end

section
/-! PROOF. The signing unit and the hotlist keep what `Keeps` says. -/

namespace Sys2Proof.Machine

/-! ### Commands and grants -/

/-- A signing unit that keeps nobody waiting while it is free. -/
theorem keeps_signing {s : State} (u : Signing) (h : SigningOk s → u.grantee = none → u.waiting = {}) :
    Keeps s { s with signing := u } :=
  keeps_of_parts rfl rfl rfl rfl rfl rfl h fun _ => .refl _

theorem keeps_sendCommand {s : State} {p : Port} (cmd : Command) (h : (s.port p).job ≠ none ∨ inService (s.port p) = true) :
    Keeps s (sendCommand p cmd s) := keeps_modPort (portStep_send _ _ h)

theorem keeps_dropCommand (s : State) (p : Port) : Keeps s (dropCommand p s) := keeps_modPort (portStep_drop _)

theorem keeps_sendWrite (s : State) (p : Port) : Keeps s (sendWrite p s) := by
  unfold sendWrite
  split
  · exact .refl s
  · split
    · exact .refl s
    · exact keeps_sendCommand _ (.inl (by simp_all))

theorem keeps_sendMark (s : State) (p : Port) : Keeps s (sendMark p s) := by
  unfold sendMark
  split
  · exact .refl s
  · exact keeps_sendCommand _ (.inl (by simp_all))

theorem keeps_beginGrant {s : State} (m : Member) (h : s.signing.grantee ≠ none) : Keeps s (beginGrant m s) := by
  cases m with
  | port p =>
    have hsign : Keeps s (s.modSigning fun u => { u with context := (s.port p).job.bind fun j => j.target }) :=
      keeps_signing _ fun _ hg => absurd hg h
    refine hsign.trans ((keeps_modJob _ p fun j => { j with grantCount := 0 }).trans ?_)
    simp only [beginGrant]
    split
    · split
      · exact keeps_sendMark _ p
      · exact keeps_sendWrite _ p
    · exact .refl _
  | hotlist => exact keeps_signing _ fun _ hg => absurd hg h
  | statement => exact keeps_signing _ fun _ hg => absurd hg h

/-- A grant, whatever the signing unit did before it. -/
theorem keeps_grant_after (s : State) (u : Signing) (m : Member) : Keeps s (grant m { s with signing := u }) := by
  have hsign : Keeps s { s with signing := takeGrant m u } := keeps_signing _ fun _ hg => by cases hg
  exact hsign.trans (keeps_beginGrant m (by simp [takeGrant]))

theorem keeps_grant (s : State) (m : Member) : Keeps s (grant m s) := keeps_grant_after s s.signing m

theorem keeps_requestGrant (s : State) (m : Member) : Keeps s (requestGrant m s) := by
  unfold requestGrant
  split
  · exact keeps_grant s m
  · rename_i n hn
    refine keeps_signing _ fun _ hg => ?_
    rw [show s.signing.grantee = none from hg] at hn
    cases hn

/-- A release leaves nobody waiting at a free unit, whoever asked before it. -/
theorem keeps_releaseGrant_after (s : State) (u : Signing) : Keeps s (releaseGrant { s with signing := u }) := by
  rcases releaseGrant_spec { s with signing := u } with ⟨hw, e⟩ | ⟨m, _, e⟩ <;> rw [e]
  · exact keeps_signing _ fun _ _ => hw
  · exact keeps_grant_after s _ m

theorem keeps_releaseGrant (s : State) : Keeps s (releaseGrant s) := keeps_releaseGrant_after s s.signing

theorem keeps_releaseAndRequest (s : State) (m : Member) : Keeps s (releaseAndRequest m s) := keeps_releaseGrant_after s _

theorem setWaiting_none (m : Member) : setWaiting m false {} = {} := by
  rcases m with p | _ | _ <;> (try cases p) <;> rfl

theorem keeps_withdrawRequest (s : State) (m : Member) : Keeps s (withdrawRequest m s) :=
  keeps_signing _ fun h hg => by
    have hw : s.signing.waiting = {} := h hg
    exact (congrArg (setWaiting m false) hw).trans (setWaiting_none m)

theorem keeps_giveUpSigning (s : State) (p : Port) : Keeps s (giveUpSigning p s) := by
  unfold giveUpSigning
  split
  · exact keeps_releaseGrant s
  · exact keeps_withdrawRequest s _

theorem keeps_requestStatement (s : State) : Keeps s (requestStatement s) := by
  unfold requestStatement
  split
  · exact .refl s
  · exact keeps_requestGrant s _

theorem keeps_queueStatement (s : State) (n : Nat) : Keeps s (queueStatement n s) := by
  have hsign : Keeps s (s.modSigning fun u => { u with queue := u.queue ++ [n] }) := keeps_signing _ fun h => h
  exact hsign.trans (keeps_requestStatement _)

/-! ### Cuts -/

theorem markTaken_length (n : Nat) (l : List Change) : (markTaken n l).length = l.length := by
  rw [markTaken_eq, List.length_append, List.length_map, ← List.length_append, List.take_append_drop]

theorem keeps_startCut (s : State) : Keeps s (startCut s) := by
  unfold startCut
  split
  · have hmark : Keeps s (s.modHotlist fun h => { h with pending := markTaken 64 h.pending, packaging := .packaging }) :=
      keeps_of_parts rfl rfl rfl rfl rfl (markTaken_length 64 _) id fun _ => .refl _
    exact hmark.trans (keeps_requestGrant _ _)
  · exact .refl s

theorem keeps_autoCut (s : State) : Keeps s (autoCut s) := by
  unfold autoCut
  split
  · exact keeps_startCut s
  · exact .refl s

theorem keeps_rolloverCut (s : State) : Keeps s (rolloverCut s) := by
  unfold rolloverCut
  split
  · exact keeps_startCut s
  · exact .refl s

/-! ### What a grant leaves of a port -/

/-- A port without its command, and with no more of its job than its kind and its case. -/
def seatOf (r : PortRec) : PortRec × Option (JobKind × Nat) := ({ r with outstanding := none, job := none }, r.job.map jobKey)

theorem inService_of_seat {r q : PortRec} (h : seatOf q = seatOf r) : inService q = inService r := by
  simp only [seatOf, Prod.mk.injEq, PortRec.mk.injEq] at h
  simp only [inService, h]

theorem card_of_seat {r q : PortRec} (h : seatOf q = seatOf r) : q.card = r.card := by
  simp only [seatOf, Prod.mk.injEq, PortRec.mk.injEq] at h
  exact h.1.2.2.2.2.2.2.2.2.1

theorem key_of_seat {r q : PortRec} (h : seatOf q = seatOf r) : q.job.map jobKey = r.job.map jobKey :=
  congrArg Prod.snd h

theorem seatOf_job (r : PortRec) (f : Job → Job) (hf : ∀ j, jobKey (f j) = jobKey j) :
    seatOf { r with job := r.job.map f } = seatOf r := by
  unfold seatOf
  cases r.job <;> simp [hf]

theorem seat_modPort (s : State) (p : Port) (f : PortRec → PortRec) (hf : ∀ r, seatOf (f r) = seatOf r) (q : Port) :
    seatOf ((s.modPort p f).port q) = seatOf (s.port q) := by
  rw [modPort_port]
  split
  · subst q; exact hf _
  · rfl

@[simp] theorem sendCommand_seat (s : State) (p : Port) (cmd : Command) (q : Port) :
    seatOf ((sendCommand p cmd s).port q) = seatOf (s.port q) := by
  unfold sendCommand
  exact seat_modPort s p _ (by intro _; rfl) q

@[simp] theorem dropCommand_seat (s : State) (p q : Port) :
    seatOf ((dropCommand p s).port q) = seatOf (s.port q) := by
  unfold dropCommand
  exact seat_modPort s p _ (by intro _; rfl) q

theorem modJob_seat (s : State) (p : Port) (f : Job → Job) (hf : ∀ j, jobKey (f j) = jobKey j) (q : Port) :
    seatOf ((s.modJob p f).port q) = seatOf (s.port q) := by
  unfold State.modJob
  exact seat_modPort s p _ (fun r => seatOf_job r f hf) q

@[simp] theorem sendWrite_seat (s : State) (p q : Port) : seatOf ((sendWrite p s).port q) = seatOf (s.port q) := by
  unfold sendWrite
  split
  · rfl
  · split
    · rfl
    · exact sendCommand_seat s p _ q

@[simp] theorem sendMark_seat (s : State) (p q : Port) : seatOf ((sendMark p s).port q) = seatOf (s.port q) := by
  unfold sendMark
  split
  · rfl
  · exact sendCommand_seat s p _ q

@[simp] theorem beginGrant_seat (s : State) (m : Member) (q : Port) :
    seatOf ((beginGrant m s).port q) = seatOf (s.port q) := by
  cases m with
  | port p =>
    have h := modJob_seat (s.modSigning fun u => { u with context := (s.port p).job.bind fun j => j.target }) p
      (fun j => { j with grantCount := 0 }) (fun _ => rfl) q
    simp only [beginGrant]
    split
    · split
      · exact (sendMark_seat _ p q).trans h
      · exact (sendWrite_seat _ p q).trans h
    · exact h
  | hotlist => rfl
  | statement => rfl

@[simp] theorem grant_seat (s : State) (m : Member) (q : Port) : seatOf ((grant m s).port q) = seatOf (s.port q) :=
  beginGrant_seat _ m q

@[simp] theorem requestGrant_seat (s : State) (m : Member) (q : Port) :
    seatOf ((requestGrant m s).port q) = seatOf (s.port q) := by
  unfold requestGrant
  split
  · exact grant_seat s m q
  · rfl

@[simp] theorem releaseGrant_seat (s : State) (q : Port) : seatOf ((releaseGrant s).port q) = seatOf (s.port q) := by
  rcases releaseGrant_spec s with ⟨_, e⟩ | ⟨m, _, e⟩ <;> rw [e]
  · rfl
  · exact grant_seat _ m q

@[simp] theorem giveUpSigning_seat (s : State) (p q : Port) : seatOf ((giveUpSigning p s).port q) = seatOf (s.port q) := by
  unfold giveUpSigning
  split
  · exact releaseGrant_seat s q
  · rfl

end Sys2Proof.Machine
end

section
/-! PROOF. The case table's own work keeps what `Keeps` says: settlements, reviews, triggers, due marks and the end of a case. -/

namespace Sys2Proof.Machine

/-! ### Settlement (R22) -/

theorem sameCase_settled (f : Settlement) (c : Case) : SameCase c (settledCase f c) := ⟨rfl, rfl, rfl, fun _ => rfl⟩

/-- A case without a job that settles. -/
theorem evolves_settled (f : Settlement) {c : Case} (h : c.job = none) : Evolves c (settledCase f c) :=
  ⟨rfl, fun hj => absurd h hj, fun _ => by simp [CaseStateOk, settledCase], id⟩

section
variable {s : State} {n : Nat}

/-- A case without a job settles. -/
theorem keepsTable_settleWith (figures : Nat → Case → Settlement) (h : ∀ c, s.findCase n = some c → c.job = none) :
    KeepsTable s (settleWith figures n s) := by
  have hmod : KeepsTable s (s.modCase n fun c => settledCase (figures s.clock.announcedDay c) c) := by
    refine keepsTable_map (modCase_cases s n _) (forall_modCase .refl fun c _ _ => sameCase_settled _ c)
      (forall_modCase (P := fun c d => d.job = c.job) (fun _ => rfl) fun _ _ _ => rfl) (fun hs => ?_) rfl rfl rfl rfl rfl
    refine forall_modCase .refl fun c hc hn => evolves_settled _ ?_
    exact h c (hn ▸ findCase_of_mem hs hc)
  exact hmod.trans (keeps_queueStatement _ n).toKeepsTable

theorem owners_settleWith (figures : Nat → Case → Settlement) :
    ∀ d ∈ (settleWith figures n s).cases, ∃ c ∈ s.cases, d.owner = c.owner := by
  intro d hd
  obtain ⟨e, he, h1⟩ := (keeps_queueStatement _ n).owners d hd
  obtain ⟨c, hc, rfl⟩ := List.mem_map.mp he
  refine ⟨c, hc, h1.trans ?_⟩
  split <;> rfl

/-- The case that settles was not SETTLED before. -/
theorem settled_settleWith (figures : Nat → Case → Settlement) (hs : NumbersRise s)
    (h : ∀ c, s.findCase n = some c → c.state ≠ .settled) :
    ∀ d ∈ (settleWith figures n s).cases, ∃ c ∈ s.cases, StaysSettled c d := by
  intro d hd
  rw [show (settleWith figures n s).cases = _ from (queueStatement_cases _ n).trans (modCase_cases s n _)] at hd
  obtain ⟨c, hc, rfl⟩ := List.mem_map.mp hd
  have hall : ∀ c ∈ s.cases, StaysSettled c (if c.number = n then settledCase (figures s.clock.announcedDay c) c else c) :=
    forall_modCase .refl fun c hc hn => .of_unsettled rfl (h c (by rw [← hn]; exact findCase_of_mem hs hc))
  exact ⟨c, hc, hall c hc⟩

theorem keeps_settleWith (figures : Nat → Case → Settlement) (h : ∀ c, s.findCase n = some c → c.job = none ∧ c.state ≠ .settled) :
    Keeps s (settleWith figures n s) where
  toKeepsTable := keepsTable_settleWith figures fun c hc => (h c hc).1
  owners := owners_settleWith figures
  settled hs _ := settled_settleWith figures hs fun c hc => (h c hc).2

end

/-! ### Review and triggers (R39, R26, R28) -/

/-- A change of the review or of the settle due mark. -/
theorem keeps_modReview (s : State) (n : Nat) (f : Case → Review) : Keeps s (s.modCase n fun c => { c with review := f c }) :=
  keeps_modCase_plain (fun _ => ⟨rfl, rfl, rfl, fun _ => rfl⟩) (fun _ => rfl) (fun _ => rfl) (fun _ => rfl) (fun _ => rfl)
    (fun _ => rfl) fun _ _ _ _ => id

theorem keeps_modDue (s : State) (n : Nat) (f : Case → Option Due) :
    Keeps s (s.modCase n fun c => { c with settleDue := f c }) :=
  keeps_modCase_plain (fun _ => ⟨rfl, rfl, rfl, fun _ => rfl⟩) (fun _ => rfl) (fun _ => rfl) (fun _ => rfl) (fun _ => rfl)
    (fun _ => rfl) fun _ _ _ _ => id

theorem keeps_raiseReview (s : State) (reason : Reason) (n : Nat) : Keeps s (raiseReview reason n s) := by
  unfold raiseReview
  split
  · exact .refl s
  · split
    · exact .refl s
    · exact (keeps_modReview s n _).trans (keeps_reportOn _ n _)

theorem keeps_automaticTrigger (s : State) (n : Nat) : Keeps s (automaticTrigger n s) := by
  unfold automaticTrigger
  split
  · exact .refl s
  · rename_i c hc
    split
    · exact .refl s
    · split
      · exact .refl s
      · split
        · exact keeps_modDue s n _
        · split
          · exact .refl s
          · split
            · exact keeps_raiseReview s _ n
            · rename_i hstate _ hjob _ _
              refine keeps_settleWith _ fun d hd => ?_
              rw [Option.some.inj (hd.symm.trans hc)]
              exact ⟨by simpa using hjob, hstate⟩

theorem keeps_testCase (s : State) (n : Nat) : Keeps s (testCase n s) := by
  unfold testCase
  split
  · exact .refl s
  · split
    · exact keeps_automaticTrigger s n
    · exact .refl s

theorem keeps_triggerA (s : State) (n : Nat) : Keeps s (triggerA n s) := by
  unfold triggerA
  split
  · exact .refl s
  · split
    · exact keeps_automaticTrigger s n
    · exact .refl s

/-- A settle due mark is taken of a case without a job (R35). -/
theorem keeps_takeDue {s : State} {n : Nat} (h : ∀ c, s.findCase n = some c → c.job = none) : Keeps s (takeDue n s) := by
  unfold takeDue
  split
  · exact .refl s
  · rename_i c hc
    split
    · exact .refl s
    · split
      · exact .refl s
      · have hmark := keeps_modDue s n fun _ => none
        have hfind : (s.modCase n fun c => { c with settleDue := none }).findCase n = some { c with settleDue := none } := by
          rw [findCase_modCase (by intro _; rfl), hc]; rfl
        dsimp only
        split
        · exact hmark
        · rename_i hstate
          split
          · split
            · refine hmark.trans (keeps_settleWith _ fun d hd => ?_)
              rw [← Option.some.inj (hfind.symm.trans hd)]
              exact ⟨h c hc, hstate⟩
            · exact hmark.trans (keeps_reportOn _ n _)
          · exact hmark.trans (keeps_testCase _ n)

/-! ### The automatic cut as one change of two parts (R106, R107) -/

/-- The signing unit after the hotlist unit went from `h` to `t`: a cut that started asks it with its package. -/
def cutAsked (h t : Hotlist) (u : Signing) : Signing :=
  if h.packaging = .idle ∧ t.packaging = .packaging then
    asked .hotlist (some (.package ⟨t.pending.filter fun c => c.taken, h.generation + 1⟩)) u
  else u

theorem cutAsked_self (h : Hotlist) (u : Signing) : cutAsked h h u = u := by
  unfold cutAsked
  rw [if_neg]
  rintro ⟨h1, h2⟩
  rw [h1] at h2
  cases h2

/-- The automatic trigger changes the hotlist unit and the signing unit alone. -/
theorem autoCut_eq (s : State) :
    autoCut s = { s with
      hotlist := cutIfDue s.settings.autoCut s.hotlist
      signing := cutAsked s.hotlist (cutIfDue s.settings.autoCut s.hotlist) s.signing } := by
  by_cases h : s.hotlist.packaging = .idle ∧ s.settings.autoCut ≤ s.hotlist.pending.length ∧ s.hotlist.pending ≠ [] ∧
      s.hotlist.generation < max32
  · have hcut : cutIfDue s.settings.autoCut s.hotlist =
        { s.hotlist with pending := markTaken 64 s.hotlist.pending, packaging := .packaging } := if_pos h
    obtain ⟨h1, h2, h3, h4⟩ := h
    rw [hcut, autoCut, if_pos ⟨h1, h2⟩, startCut_eq s h1 h3 h4, requestHotlist_eq, cutAsked, if_pos ⟨h1, rfl⟩]
    rfl
  · have hcut : cutIfDue s.settings.autoCut s.hotlist = s.hotlist := if_neg h
    rw [hcut, cutAsked_self]
    rcases autoCut_spec s with e | ⟨h1, h2, h3, h4, _⟩
    · exact e
    · exact absurd ⟨h1, h2, h3, h4⟩ h

/-! ### The end of a case (R36 to R38) -/

/-- The hotlist unit after a case was withdrawn, before the automatic trigger is tested (R104). -/
def withdrawn (cardNo n : Nat) (h : Hotlist) : Hotlist :=
  { h with
    master := h.master.filter fun e => e.caseNo ≠ n
    pending :=
      if h.pending.any (untakenAdd n) then h.pending.eraseP (untakenAdd n) else h.pending ++ [⟨.remove, cardNo, n, false⟩] }

/-- The state after a case ended, before the automatic trigger is tested. -/
def endedState (cancelled : Bool) (c : Case) (s : State) : State :=
  { s.caseReport c.owner (closedReport c cancelled (dayOf s)) with
    hotlist := withdrawn c.snapshot.cardNo c.number s.hotlist
    cases := s.cases.filter fun d => d.number ≠ c.number }

/-- A case ends; a REMOVE lets the automatic trigger be tested. -/
theorem endCase_of_find {s : State} {n : Nat} {c : Case} (cancelled : Bool) (h : s.findCase n = some c) :
    endCase cancelled n s =
      if s.hotlist.pending.any (untakenAdd n) then endedState cancelled c s else autoCut (endedState cancelled c s) := by
  have hn := findCase_number h
  subst hn
  simp only [endCase, h, reportOn_of_find _ h, hotlistWithdraw, appendChange, endedState, withdrawn]
  by_cases ha : s.hotlist.pending.any (untakenAdd c.number) = true
  · simp [ha, State.modHotlist, State.caseReport, State.queueReport, State.setChannel]
  · simp [ha, autoCut_eq, State.modHotlist, State.caseReport, State.queueReport, State.setChannel]

theorem withdrawn_length (cardNo n : Nat) (h : Hotlist) (hm : ∃ e ∈ h.master, e.caseNo = n) :
    (withdrawn cardNo n h).pending.length + (withdrawn cardNo n h).master.length ≤ h.pending.length + h.master.length := by
  have hmaster : (withdrawn cardNo n h).master.length < h.master.length := by
    obtain ⟨e, he, hn⟩ := hm
    exact List.length_filter_lt_length_iff_exists.mpr ⟨e, he, by simp [hn]⟩
  have hpending : (withdrawn cardNo n h).pending.length ≤ h.pending.length + 1 := by
    simp only [withdrawn]
    split
    · exact Nat.le_succ_of_le (List.length_eraseP_le)
    · simp
  omega

/-- The case table stays sound when a case goes with its master entry. -/
theorem caseTableOk_ended {s : State} {c : Case} (cancelled : Bool) (hc : c ∈ s.cases) (h : CaseTableOk s) :
    CaseTableOk (endedState cancelled c s) := by
  obtain ⟨hnum, hcard, hbound, hnext, hlen, hmaster, hin, hout, hpend⟩ := h
  refine ⟨hnum.filter _, hcard.filter _, fun d hd => hbound d (List.mem_of_mem_filter hd), hnext,
    Nat.le_trans (List.length_filter_le _ _) hlen, hmaster.filter _, fun e he => ?_, fun d hd => ?_, ?_⟩
  · obtain ⟨he, hne⟩ := List.mem_filter.mp he
    obtain ⟨d, hd, rfl⟩ := hin e he
    exact ⟨d, List.mem_filter.mpr ⟨hd, hne⟩, rfl⟩
  · obtain ⟨hd, hne⟩ := List.mem_filter.mp hd
    exact List.mem_filter.mpr ⟨hout d hd, hne⟩
  · exact Nat.le_trans (withdrawn_length _ _ _ ⟨entryOf c, hout c hc, rfl⟩) hpend

theorem keeps_endedState {s : State} {c : Case} (cancelled : Bool) (hc : c ∈ s.cases) (hj : c.job = none) :
    Keeps s (endedState cancelled c s) where
  nextCase := rfl
  generation := rfl
  master _ he := List.mem_of_mem_filter he
  channels h := (keeps_queueReport s _ _).channels h
  signing h := h
  ports _ := .refl _
  same d hd := ⟨d, List.mem_of_mem_filter hd, .refl d⟩
  table := caseTableOk_ended cancelled hc
  rise h := h.filter _
  evolves _ d hd := ⟨d, List.mem_of_mem_filter hd, .refl d⟩
  jobs hs h := by
    refine ⟨fun p j hp => ?_, fun d hd => h.2 d (List.mem_of_mem_filter hd)⟩
    obtain ⟨d, hd, h1, h2, h3⟩ := h.1 p j hp
    refine ⟨d, List.mem_filter.mpr ⟨hd, decide_eq_true fun hn => ?_⟩, h1, h2, h3⟩
    rw [eq_of_number hs hd hc hn, hj] at h2
    cases h2
  owners d hd := ⟨d, List.mem_of_mem_filter hd, rfl⟩
  settled _ _ d hd := ⟨d, List.mem_of_mem_filter hd, .refl d⟩

/-- A case without a job ends. -/
theorem keeps_endCase {s : State} {n : Nat} (cancelled : Bool) (h : ∀ c, s.findCase n = some c → c.job = none) :
    Keeps s (endCase cancelled n s) := by
  cases hf : s.findCase n with
  | none =>
    rw [endCase, hf]
    exact .refl s
  | some c =>
    rw [endCase_of_find cancelled hf]
    have hended := keeps_endedState cancelled (findCase_mem hf) (h c hf)
    split
    · exact hended
    · exact hended.trans (keeps_autoCut _)

theorem keeps_retentionTest (s : State) (n : Nat) : Keeps s (retentionTest n s) := by
  unfold retentionTest
  split
  · exact .refl s
  · rename_i c hc
    split
    · rename_i h
      refine keeps_endCase false fun d hd => ?_
      rw [Option.some.inj (hd.symm.trans hc)]
      exact h.2.2.1
    · exact .refl s

/-! ### The rollover pass and a statement's completion (R25, R23) -/

theorem keeps_rolloverCase (s : State) (n : Nat) : Keeps s (rolloverCase n s) := by
  unfold rolloverCase
  split
  · exact .refl s
  · rename_i c hc
    split
    · exact keeps_retentionTest s n
    · split
      · rename_i h
        refine keeps_takeDue fun d hd => ?_
        rw [Option.some.inj (hd.symm.trans hc)]
        exact h.1
      · exact keeps_testCase s n

theorem keeps_rolloverCases (s : State) : Keeps s (rolloverCases s) := keeps_foldl (fun n u => keeps_rolloverCase u n) _ s

/-- The code of a statement is stored and its pending mark cleared. -/
theorem keeps_storeCode (s : State) (n : Nat) (code : Code) :
    Keeps s (s.modCase n fun c =>
      { c with settlement := c.settlement.map fun f => { f with code := some code, statementPending := false } }) := by
  refine keeps_modCase (fun _ => ⟨rfl, rfl, rfl, fun _ => rfl⟩) (fun _ => rfl) (fun _ => rfl)
    (fun _ c _ _ => ⟨rfl, fun _ => ⟨rfl, rfl⟩, fun h => ?_, id⟩) (fun _ _ c _ _ => ⟨rfl, fun h => ⟨h, fun f hf => ?_⟩⟩)
  · unfold CaseStateOk at *
    cases hs : c.state <;> simp_all
  · exact ⟨{ f with code := some code, statementPending := false }, by rw [hf]; rfl, rfl⟩

theorem keeps_completeStatement (s : State) (code : Code) : Keeps s (completeStatement code s) := by
  unfold completeStatement
  split
  · exact .refl s
  · rename_i n rest _
    have hqueue : Keeps s (s.modSigning fun u => { u with queue := rest }) := keeps_signing _ fun h => h
    refine (hqueue.trans (keeps_storeCode _ n code)).trans (Keeps.trans ?_ (keeps_retentionTest _ n))
    split
    · split
      · exact keeps_reportOn _ n _
      · exact .refl _
    · exact .refl _

end Sys2Proof.Machine
end

section
/-! PROOF. Chains, zone closures and the zone feeds keep what `Keeps` says. -/

namespace Sys2Proof.Machine

/-! ### Arrivals (R46 to R52) -/

theorem mem_insertEvent {e x : CardEvent} {l : List CardEvent} : x ∈ insertEvent e l ↔ x = e ∨ x ∈ l := by
  induction l with
  | nil => simp [insertEvent]
  | cons y l ih =>
    unfold insertEvent
    split
    · simp
    · rw [List.mem_cons, ih, List.mem_cons]; exact or_left_comm

theorem insertEvent_length (e : CardEvent) (l : List CardEvent) : (insertEvent e l).length = l.length + 1 := by
  induction l with
  | nil => rfl
  | cons y l ih =>
    unfold insertEvent
    split
    · rfl
    · rw [List.length_cons, ih, List.length_cons]

/-- An event of a new counter keeps the chain ascending. -/
theorem insertEvent_ascends {e : CardEvent} {l : List CardEvent} (h : l.Pairwise fun a b => a.counter < b.counter)
    (hnew : ∀ x ∈ l, x.counter ≠ e.counter) : (insertEvent e l).Pairwise fun a b => a.counter < b.counter := by
  induction l with
  | nil => exact List.pairwise_singleton _ _
  | cons y l ih =>
    obtain ⟨hy, hl⟩ := List.pairwise_cons.mp h
    unfold insertEvent
    split
    · rename_i hlt
      refine List.pairwise_cons.mpr ⟨fun x hx => ?_, h⟩
      rcases List.mem_cons.mp hx with rfl | hx
      · exact hlt
      · exact Nat.lt_trans hlt (hy x hx)
    · rename_i hge
      have hne := hnew y List.mem_cons_self
      refine List.pairwise_cons.mpr ⟨fun x hx => ?_, ih hl fun x hx => hnew x (List.mem_cons_of_mem _ hx)⟩
      rcases mem_insertEvent.mp hx with rfl | hx
      · omega
      · exact hy x hx

/-- What the classification has found out about an inserted event. -/
theorem classify_inserted {c : Case} {e : CardEvent} (h : classify c e = .inserted) :
    c.snapshot.counter < e.counter ∧ (∀ x ∈ c.chain, x.counter ≠ e.counter) ∧ c.chain.length < 64 := by
  unfold classify at h
  split at h
  · cases h
  · rename_i hcounter
    split at h
    · cases h
    · split at h
      · cases h
      · split at h
        · cases h
        · split at h
          · cases h
          · rename_i hnew
            split at h
            · rename_i hlen
              exact ⟨Nat.not_le.mp hcounter, fun x hx hxe => hnew (List.any_eq_true.mpr ⟨x, hx, by simpa using hxe⟩), hlen⟩
            · cases h

theorem classify_overflow {c : Case} {e : CardEvent} (h : classify c e = .overflow) : c.snapshot.counter < e.counter := by
  unfold classify at h
  split at h
  · cases h
  · omega

theorem chainOk_takeArrival (e : CardEvent) {c : Case} (h : ChainOk c) : ChainOk (takeArrival (classify c e) e c) := by
  obtain ⟨hasc, hlen, hin, hcm, hcon, hdup, hov, hco, hatt⟩ := h
  have sat (n : Nat) : satSucc 255 n ≤ 255 := by unfold satSucc; omega
  cases hk : classify c e with
  | stale => exact ⟨hasc, hlen, hin, hcm, hcon, hdup, hov, hco, hatt⟩
  | duplicate => exact ⟨hasc, hlen, hin, hcm, hcon, sat _, hov, hco, hatt⟩
  | conflict =>
    unfold takeArrival takeConflict
    dsimp only
    split
    · rename_i hlt
      refine ⟨hasc, hlen, hin, hcm, ?_, hdup, hov, hco, hatt⟩
      rw [List.length_append, List.length_singleton]
      exact hlt
    · exact ⟨hasc, hlen, hin, hcm, hcon, hdup, hov, sat _, hatt⟩
  | inserted =>
    obtain ⟨hcounter, hnew, hroom⟩ := classify_inserted hk
    refine ⟨insertEvent_ascends hasc hnew, ?_, fun x hx => ?_, Nat.le_trans hcm (Nat.le_max_left _ _), hcon, hdup, hov, hco, hatt⟩
    · rw [takeArrival, insertEvent_length]; exact hroom
    · rcases mem_insertEvent.mp hx with rfl | hx
      · exact ⟨hcounter, Nat.le_max_right _ _⟩
      · exact ⟨(hin x hx).1, Nat.le_trans (hin x hx).2 (Nat.le_max_left _ _)⟩
  | overflow =>
    exact ⟨hasc, hlen, fun x hx => ⟨(hin x hx).1, Nat.le_trans (hin x hx).2 (Nat.le_max_left _ _)⟩,
      Nat.le_trans hcm (Nat.le_max_left _ _), hcon, hdup, sat _, hco, hatt⟩

/-- What an arrival leaves of its case beside the chain. -/
theorem takeArrival_rest (k : ArrivalClass) (e : CardEvent) (c : Case) :
    seeBlocked k e (takeArrival k e c) = { c with
      chain := (takeArrival k e c).chain, cmax := (takeArrival k e c).cmax, duplicates := (takeArrival k e c).duplicates
      overflows := (takeArrival k e c).overflows, conflicts := (takeArrival k e c).conflicts
      conflictOverflow := (takeArrival k e c).conflictOverflow
      blockedSeen := (seeBlocked k e (takeArrival k e c)).blockedSeen } := by
  unfold seeBlocked takeArrival takeConflict
  cases k <;> dsimp only <;> (try split) <;> (try split) <;> rfl

theorem chainOk_seeBlocked {k : ArrivalClass} {e : CardEvent} {c : Case} (h : ChainOk c) : ChainOk (seeBlocked k e c) := by
  unfold seeBlocked
  split
  · exact h
  · exact h

theorem keeps_modAdjustment (s : State) (n : Nat) (delta : Int) :
    Keeps s (s.modCase n fun c => { c with adjustment := c.adjustment + delta }) :=
  keeps_modCase_plain (fun _ => ⟨rfl, rfl, rfl, fun _ => rfl⟩) (fun _ => rfl) (fun _ => rfl) (fun _ => rfl) (fun _ => rfl)
    (fun _ => rfl) fun _ _ _ _ => id

theorem keeps_adjust (s : State) (n : Nat) (e : CardEvent) : Keeps s (adjust n e s) := by
  unfold adjust
  split
  · exact .refl s
  · split
    · exact .refl s
    · exact (keeps_modAdjustment s n _).trans (keeps_reportOn _ n _)

theorem keeps_afterArrival (s : State) (k : ArrivalClass) (settled : Bool) (n : Nat) (e : CardEvent) :
    Keeps s (afterArrival k settled n e s) := by
  unfold afterArrival
  split
  · exact keeps_raiseReview s _ n
  · exact keeps_raiseReview s _ n
  · exact keeps_adjust s n e
  · exact .refl s

theorem keeps_arrival (s : State) (n : Nat) (e : CardEvent) : Keeps s (arrival n e s) := by
  unfold arrival
  split
  · exact .refl s
  · rename_i c hc
    refine Keeps.trans (keeps_modCase_plain (fun d => ⟨?_, ?_, ?_, fun _ => ?_⟩) ?_ ?_ ?_ ?_ ?_ fun hs d hd hn hch => ?_)
      (keeps_afterArrival _ _ _ n e)
    · rw [takeArrival_rest]
    · rw [takeArrival_rest]
    · rw [takeArrival_rest]
    · rw [takeArrival_rest]
    · intro d; rw [takeArrival_rest]
    · intro d; rw [takeArrival_rest]
    · intro d; rw [takeArrival_rest]
    · intro d; rw [takeArrival_rest]
    · intro d; rw [takeArrival_rest]
    · rw [eq_of_found hs hc hd hn] at hch ⊢
      exact chainOk_seeBlocked (chainOk_takeArrival e hch)

/-! ### Conflict rulings (R57 to R59) -/

/-- A ruling keeps the chain's counters. -/
theorem chainOk_ruleConflict (replace : Bool) (e : CardEvent) {c : Case} (h : ChainOk c) : ChainOk (ruleConflict replace e c) := by
  obtain ⟨hasc, hlen, hin, hcm, hcon, hrest⟩ := h
  have hconf : (c.conflicts.erase e).length ≤ 4 := Nat.le_trans (List.length_erase_le) hcon
  have hcounter (x : CardEvent) : (if x.counter = e.counter then e else x).counter = x.counter := by
    split
    · exact Eq.symm ‹_›
    · rfl
  cases replace with
  | false => exact ⟨hasc, hlen, hin, hcm, hconf, hrest⟩
  | true =>
    refine ⟨?_, ?_, fun x hx => ?_, hcm, hconf, hrest⟩
    · refine List.pairwise_map.mpr (hasc.imp fun {a b} hab => ?_)
      rw [hcounter, hcounter]; exact hab
    · exact (List.length_map _).trans_le hlen
    · obtain ⟨y, hy, rfl⟩ := List.mem_map.mp hx
      rw [hcounter]; exact hin y hy

theorem clearConflict_eq (c : Case) : clearConflict c = { c with review := (clearConflict c).review } := by
  unfold clearConflict
  split <;> rfl

theorem keeps_afterRuling (s : State) (n : Nat) : Keeps s (afterRuling n s) := by
  unfold afterRuling
  split
  · exact .refl s
  · split
    · have hclear : Keeps s (s.modCase n clearConflict) := by
        rw [show clearConflict = fun c => { c with review := (clearConflict c).review } from funext clearConflict_eq]
        exact keeps_modReview s n _
      dsimp only
      split
      · exact hclear.trans (keeps_testCase _ n)
      · exact hclear
    · exact .refl s

theorem keeps_rule (s : State) (replace : Bool) (e : CardEvent) (n : Nat) : Keeps s (rule replace e n s) := by
  have hrule : Keeps s (s.modCase n (ruleConflict replace e)) :=
    keeps_modCase_plain (fun _ => ⟨rfl, rfl, rfl, fun _ => rfl⟩) (fun _ => rfl) (fun _ => rfl) (fun _ => rfl) (fun _ => rfl)
      (fun _ => rfl) fun _ _ _ _ => chainOk_ruleConflict replace e
  exact hrule.trans (keeps_afterRuling _ n)

/-! ### Zone closures (R60 to R63) -/

/-- A change of the zones closed of every case. -/
theorem keeps_closures {s : State} {f : Case → Case} (hf : ∀ c, f c = { c with zonesClosed := (f c).zonesClosed }) :
    Keeps s { s with cases := s.cases.map f } := by
  refine keeps_map rfl (fun c _ => ?_) (fun c _ => ?_) (fun c _ => ?_) (fun _ c _ => ?_) (fun _ _ c _ => ?_) rfl rfl rfl rfl rfl <;>
    rw [hf]
  · exact ⟨rfl, rfl, rfl, fun _ => rfl⟩
  · exact ⟨rfl, fun _ => ⟨rfl, rfl⟩, id, id⟩
  · exact .of_same rfl rfl rfl

theorem keeps_applyClosures (s : State) (z : ZoneId) (byRecord : List Nat) (rise : Option Nat) :
    Keeps s (applyClosures z byRecord rise s) := by
  have hclose : Keeps s { s with cases := s.cases.map fun c => if closesNow z byRecord rise c then closeZone z c else c } :=
    keeps_closures fun c => by split <;> rfl
  exact hclose.trans (keeps_foldl (fun n u => keeps_triggerA u n) _ _)

theorem keeps_testLacking (s : State) (z : ZoneId) : Keeps s (testLacking z s) :=
  keeps_foldl (fun n u => keeps_triggerA u n) _ s

theorem keeps_configureZone (s : State) (z : ZoneId) (m : SumMethod) (threshold dormancy : Nat) :
    Keeps s (configureZone z m threshold dormancy s) := by
  have hreopen : ∀ c, reopenZone z c = { c with zonesClosed := (reopenZone z c).zonesClosed } := fun c => by
    unfold reopenZone
    split <;> rfl
  exact (keeps_modZone s z fun _ => configuredZone m threshold dormancy).trans (keeps_closures hreopen)

/-! ### The zone feeds (R126 to R137) -/

theorem keeps_raiseError (s : State) (count : ErrorCount) (z : ZoneId) : Keeps s (raiseError count z s) := by
  unfold raiseError
  dsimp only
  split
  · exact ((keeps_modZone s z _).trans (keeps_modZone _ z _)).trans (keeps_systemReport _ _)
  · exact keeps_modZone s z _

theorem keeps_overflowBatch (s : State) (z : ZoneId) : Keeps s (overflowBatch z s) :=
  (keeps_modZone s z _).trans (keeps_raiseError _ _ z)

theorem keeps_takeRecord (s : State) (z : ZoneId) (bytes : List Byte) : Keeps s (takeRecord z bytes s).1 := by
  unfold takeRecord
  split
  · exact .refl s
  · split
    · exact keeps_overflowBatch s z
    · dsimp only
      split
      · exact keeps_modZone s z _
      · exact (keeps_modZone s z _).trans (keeps_raiseError _ _ z)

theorem keeps_takeRecords (s : State) (z : ZoneId) (records : List (List Byte)) : Keeps s (takeRecords z records s).1 := by
  induction records generalizing s with
  | nil => exact .refl s
  | cons r rest ih =>
    have h := keeps_takeRecord s z r
    unfold takeRecords
    split <;> rename_i u hu <;> rw [hu] at h
    · exact h.trans (ih u)
    · exact h

theorem keeps_commitRecords (s : State) (l : List CardEvent) : Keeps s (commitRecords l s).1 := by
  have hstep (acc : State × CommitCount) : ∀ l : List CardEvent, Keeps acc.1 (l.foldl (fun acc e => commitRecord e acc) acc).1 := by
    intro l
    induction l generalizing acc with
    | nil => exact .refl _
    | cons e l ih =>
      refine Keeps.trans ?_ (ih (commitRecord e acc))
      unfold commitRecord
      dsimp only
      split
      · exact .refl _
      · exact keeps_arrival _ _ e
  exact hstep (s, ⟨0, 0, []⟩) l

theorem keeps_commitBatch (s : State) (z : ZoneId) (b : OpenBatch) : Keeps s (commitBatch z b s).1 :=
  (((keeps_commitRecords s _).trans (keeps_modZone _ z _)).trans (keeps_applyClosures _ z _ _)).trans (keeps_modZone _ z _)

theorem keeps_dormancyTest (s : State) (day : Nat) (z : ZoneId) : Keeps s (dormancyTest day z s) := by
  unfold dormancyTest
  dsimp only
  split
  · split
    · exact keeps_modZone s z _
    · split
      · exact (keeps_modZone s z _).trans (keeps_systemReport _ _)
      · exact .refl s
  · exact .refl s

theorem keeps_rolloverZones (s : State) (day : Nat) : Keeps s (rolloverZones day s) :=
  keeps_runFree fun z _ u => keeps_dormancyTest u day z

theorem keeps_headerChecked (s : State) (z : ZoneId) (h : HeaderFields) (b : List Byte) :
    Keeps s (headerChecked z h b s).1 := by
  unfold headerChecked
  split
  · exact keeps_raiseError s _ z
  · split
    · exact keeps_raiseError s _ z
    · unfold sequenceChecked
      split
      · exact keeps_modZone s z _
      · split
        · exact .refl s
        · split
          · exact keeps_raiseError s _ z
          · exact keeps_modZone s z _

theorem keeps_discardForHeader (s : State) (z : ZoneId) : Keeps s (discardForHeader z s) := by
  unfold discardForHeader
  split
  · exact keeps_overflowBatch s z
  · exact .refl s

end Sys2Proof.Machine
end

section
/-! PROOF. Card jobs and the couplers' messages keep what `Keeps` says. -/

namespace Sys2Proof.Machine

/-! ### The end of a job (R158) -/

/-- A job goes from its port and its case. -/
def freeJob (p : Port) (n : Nat) (s : State) : State :=
  (s.modPort p fun r => { r with outstanding := none, job := none }).modCase n fun c => { c with job := none }

/-- What the case table makes of an ended job's outcome, its case already without it (R31 to R35). -/
def outcomeTaken (o : JobOutcome) (j : Job) (s : State) : State :=
  match j.kind with
  | .issue _ =>
    retentionTest j.caseNo (takeDue j.caseNo (if issueSucceeded o then s.modCase j.caseNo issuedCase else s))
  | .recover =>
    match recoverySucceeded o, j.contents with
    | true, some r => settleFromCard r j.caseNo s
    | _, _ => takeDue j.caseNo s

/-- A report reads no port. -/
theorem reportOn_modPort (n : Nat) (body : Case → ReportBody) (s : State) (p : Port) (f : PortRec → PortRec) :
    reportOn n body (s.modPort p f) = (reportOn n body s).modPort p f := by
  unfold reportOn
  rw [findCase_of_cases (modPort_cases s p f) n]
  split <;> rfl

/-- A job's end in four steps: the grant given up, the report, the job gone, the outcome. -/
theorem endJob_of_job {s : State} {p : Port} {j : Job} (o : JobOutcome) (h : (s.port p).job = some j) :
    endJob p o s =
      outcomeTaken o j (freeJob p j.caseNo (reportOn j.caseNo (jobReport p o j) (giveUpSigning p s))) := by
  unfold endJob
  rw [h]
  dsimp only
  rw [reportOn_modPort]
  rfl

theorem endJob_of_no_job {s : State} {p : Port} (o : JobOutcome) (h : (s.port p).job = none) : endJob p o s = s := by
  unfold endJob
  rw [h]

/-- The match of ports and cases once a job went from both. -/
theorem jobsOk_freeJob {s : State} {p : Port} {n : Nat} {k : JobKind} (hkey : (s.port p).job.map jobKey = some (k, n))
    (hs : NumbersRise s) (h : JobsOk s) : JobsOk (freeJob p n s) := by
  obtain ⟨j, hj, hjk⟩ := Option.map_eq_some_iff.mp hkey
  have hno : j.caseNo = n := congrArg Prod.snd hjk
  have hport (q : Port) : ((freeJob p n s).port q).job = if q = p then none else (s.port q).job := by
    unfold freeJob
    rw [port_of_ports (modCase_ports _ n _) q, modPort_port]
    split <;> rfl
  have hcases : (freeJob p n s).cases = s.cases.map fun c => if c.number = n then { c with job := none } else c := rfl
  obtain ⟨c, hc, hcn, hcj, _⟩ := h.1 p j hj
  refine ⟨fun q i hi => ?_, fun d hd k q hdj => ?_⟩
  · rw [hport] at hi
    split at hi
    · cases hi
    · rename_i hq
      obtain ⟨d, hd, h1, h2, h3⟩ := h.1 q i hi
      have hdn : d.number ≠ n := fun e => by
        rw [eq_of_number hs hd hc (e.trans (hcn.trans hno).symm), hcj] at h2
        exact hq (congrArg Prod.snd (Option.some.inj h2)).symm
      refine ⟨d, ?_, h1, h2, h3⟩
      rw [hcases]
      exact List.mem_map.mpr ⟨d, hd, if_neg hdn⟩
  · rw [hcases] at hd
    obtain ⟨e, he, rfl⟩ := List.mem_map.mp hd
    split at hdj
    · cases hdj
    · rename_i hen
      obtain ⟨i, hi, h1, h2⟩ := h.2 e he k q hdj
      rw [if_neg hen]
      refine ⟨i, ?_, h1, h2⟩
      rw [hport, if_neg ?_]
      · exact hi
      · rintro rfl
        rw [hj] at hi
        exact hen (h1.symm.trans ((congrArg Job.caseNo (Option.some.inj hi)).symm.trans hno))

theorem keeps_freeJob {s : State} {p : Port} {n : Nat} {k : JobKind} (hkey : (s.port p).job.map jobKey = some (k, n)) :
    Keeps s (freeJob p n s) := by
  have hf (c : Case) : Evolves c { c with job := none } ∧ SameCase c { c with job := none } :=
    ⟨⟨rfl, fun h => absurd rfl h, id, id⟩, ⟨rfl, rfl, rfl, fun h => absurd rfl h⟩⟩
  have hc : (freeJob p n s).cases = s.cases.map fun c => if c.number = n then { c with job := none } else c := rfl
  refine
    { toKeepsTable := keepsTable_map_ports hc (forall_modCase .refl fun c _ _ => (hf c).2)
        (fun _ => forall_modCase .refl fun c _ _ => (hf c).1) rfl rfl rfl rfl (fun q => ?_) (jobsOk_freeJob hkey)
      owners := fun d hd => ?_
      settled := fun _ _ d hd => ?_ }
  · unfold freeJob
    rw [port_of_ports (modCase_ports _ n _) q, modPort_port]
    split
    · subst q
      exact ⟨id, fun h hq => ⟨rfl, rfl, (h hq).2.2⟩⟩
    · exact .refl _
  · rw [hc] at hd
    obtain ⟨c, hm, rfl⟩ := List.mem_map.mp hd
    exact ⟨c, hm, by split <;> rfl⟩
  · rw [hc] at hd
    obtain ⟨c, hm, rfl⟩ := List.mem_map.mp hd
    refine ⟨c, hm, ?_⟩
    split
    · exact .of_same rfl rfl rfl
    · exact .refl c

/-- The case of an ended job has none. -/
theorem findCase_freeJob (p : Port) (n : Nat) (s : State) :
    (freeJob p n s).findCase n = (s.findCase n).map fun c => { c with job := none } :=
  (findCase_modCase (by intro _; rfl)).trans (congrArg _ (findCase_of_cases (modPort_cases s p _) n))

theorem issuedCase_job (c : Case) : (issuedCase c).job = c.job := by
  unfold issuedCase
  split <;> rfl

/-- A case without a job that a successful issue leaves. -/
theorem keeps_issuedCase {s : State} {n : Nat} (h : ∀ c, s.findCase n = some c → c.job = none) :
    Keeps s (s.modCase n issuedCase) := by
  have hsame (c : Case) : SameCase c (issuedCase c) := by
    unfold issuedCase
    split
    · exact .refl c
    · exact ⟨rfl, rfl, rfl, fun _ => rfl⟩
  refine keeps_modCase hsame (fun c => ?_) issuedCase_job (fun hs c hc hn => ⟨(hsame c).number, fun hj => ?_, fun hst => ?_, fun hch => ?_⟩)
    (fun _ _ c _ _ => ⟨(hsame c).number, fun hst => ?_⟩)
  · unfold issuedCase
    split <;> rfl
  · rw [issuedCase_job, h c (by rw [← hn]; exact findCase_of_mem hs hc)] at hj
    exact absurd rfl hj
  · unfold issuedCase
    split
    · exact hst
    · unfold CaseStateOk at *
      cases hs : c.state <;> simp_all
  · unfold issuedCase
    split <;> exact hch
  · unfold issuedCase
    split
    · exact ⟨hst, fun f hf => ⟨f, hf, .refl f⟩⟩
    · rename_i fig _
      refine ⟨by simp [hst], fun f hf => ⟨{ f with residue := some (lateResidue f fig) }, by simp [hst, hf], rfl⟩⟩

/-- An outcome is taken of a case whose job is gone, and which a RECOVER job did not find SETTLED. -/
theorem keepsTable_outcomeTaken {s : State} {j : Job} (o : JobOutcome) (h : ∀ c, s.findCase j.caseNo = some c → c.job = none) :
    KeepsTable s (outcomeTaken o j s) ∧ (∀ d ∈ (outcomeTaken o j s).cases, ∃ c ∈ s.cases, d.owner = c.owner) ∧
      (NumbersRise s → JobsOk s → (j.kind = .recover → ∀ c, s.findCase j.caseNo = some c → c.state ≠ .settled) →
        ∀ d ∈ (outcomeTaken o j s).cases, ∃ c ∈ s.cases, StaysSettled c d) := by
  have whole {t : State} (k : Keeps s t) : KeepsTable s t ∧ (∀ d ∈ t.cases, ∃ c ∈ s.cases, d.owner = c.owner) ∧
      (NumbersRise s → JobsOk s → (j.kind = .recover → ∀ c, s.findCase j.caseNo = some c → c.state ≠ .settled) →
        ∀ d ∈ t.cases, ∃ c ∈ s.cases, StaysSettled c d) :=
    ⟨k.toKeepsTable, k.owners, fun hs hj _ => k.settled hs hj⟩
  unfold outcomeTaken
  split
  · refine whole (Keeps.trans ?_ (keeps_retentionTest _ _))
    split
    · refine (keeps_issuedCase h).trans (keeps_takeDue fun d hd => ?_)
      rw [findCase_modCase fun c => ?_] at hd
      · obtain ⟨c, hc, rfl⟩ := Option.map_eq_some_iff.mp hd
        rw [issuedCase_job, h c hc]
      · unfold issuedCase
        split <;> rfl
    · exact keeps_takeDue h
  · rename_i hk
    split
    · exact ⟨keepsTable_settleWith _ h, owners_settleWith _, fun hs _ hu => settled_settleWith _ hs (hu hk)⟩
    · exact whole (keeps_takeDue h)

theorem keeps_endJob (s : State) (p : Port) (o : JobOutcome) : Keeps s (endJob p o s) := by
  cases hj : (s.port p).job with
  | none =>
    rw [endJob_of_no_job o hj]
    exact .refl s
  | some j =>
    rw [endJob_of_job o hj]
    have hreport := (keeps_giveUpSigning s p).trans (keeps_reportOn _ j.caseNo (jobReport p o j))
    have hkey : ((reportOn j.caseNo (jobReport p o j) (giveUpSigning p s)).port p).job.map jobKey = some (j.kind, j.caseNo) := by
      rw [port_of_ports (reportOn_ports _ _ _) p, key_of_seat (giveUpSigning_seat s p p), hj]
      rfl
    have hfreed := hreport.trans (keeps_freeJob hkey)
    have hnone : ∀ c, (freeJob p j.caseNo (reportOn j.caseNo (jobReport p o j) (giveUpSigning p s))).findCase j.caseNo = some c →
        c.job = none := by
      intro c hc
      rw [findCase_freeJob] at hc
      obtain ⟨d, _, rfl⟩ := Option.map_eq_some_iff.mp hc
      rfl
    obtain ⟨htable, howners, hsettled⟩ := keepsTable_outcomeTaken o hnone
    refine { toKeepsTable := hfreed.toKeepsTable.trans htable, owners := fun d hd => ?_, settled := fun hs hjobs d hd => ?_ }
    · obtain ⟨e, he, h2⟩ := howners d hd
      obtain ⟨c, hc, h1⟩ := hfreed.owners e he
      exact ⟨c, hc, h2.trans h1⟩
    · have hunsettled : j.kind = .recover → ∀ c, (freeJob p j.caseNo
          (reportOn j.caseNo (jobReport p o j) (giveUpSigning p s))).findCase j.caseNo = some c → c.state ≠ .settled := by
        intro hk c hc
        rw [findCase_freeJob, findCase_of_cases (t := s) (by simp)] at hc
        obtain ⟨a, ha, rfl⟩ := Option.map_eq_some_iff.mp hc
        obtain ⟨b, hb, h1, _, h3⟩ := hjobs.1 p j hj
        rw [eq_of_found hs ha hb h1] at h3
        exact h3 hk
      obtain ⟨e, he, h2⟩ := hsettled (hfreed.rise hs) (hfreed.jobs hs hjobs) hunsettled d hd
      obtain ⟨c, hc, h1⟩ := hfreed.settled hs hjobs e he
      exact ⟨c, hc, h1.trans h2⟩

end Sys2Proof.Machine
end

section
/-! PROOF. The phases of a job, the couplers' messages and the moves of the clock keep what `Keeps` says. -/

namespace Sys2Proof.Machine

/-! ### Ports that may send -/

/-- A port that carries a job or is in service: it may send a command. -/
def Live (p : Port) (s : State) : Prop := (s.port p).job ≠ none ∨ inService (s.port p) = true

theorem live_of_job {p : Port} {s : State} {j : Job} (h : (s.port p).job = some j) : Live p s := .inl (by simp [h])

theorem live_of_seat {p : Port} {s t : State} (h : seatOf (t.port p) = seatOf (s.port p)) (hl : Live p s) : Live p t := by
  rcases hl with hj | hs
  · refine .inl fun hn => hj ?_
    have := key_of_seat h
    rw [hn] at this
    simpa using this.symm
  · exact .inr ((inService_of_seat h).trans hs)

theorem live_modJob {p : Port} {s : State} (f : Job → Job) (h : Live p s) : Live p (s.modJob p f) := by
  have hp : (s.modJob p f).port p = { s.port p with job := (s.port p).job.map f } := by
    rw [State.modJob, modPort_port, if_pos rfl]
  unfold Live
  rw [hp]
  rcases h with h | h
  · exact .inl (by simpa using h)
  · exact .inr h

theorem keeps_sendRead {s : State} {p : Port} (seg : Nat) (h : Live p s) : Keeps s (sendRead p seg s) := keeps_sendCommand _ h

/-! ### Failures (R149) -/

theorem keeps_failCommand {p : Port} {again : State → State} (failed : Command) (s : State)
    (h : ∀ u, Live p u → Keeps u (again u)) : Keeps s (failCommand p failed again s) := by
  unfold failCommand
  split
  · exact .refl s
  · split
    · exact keeps_endJob s p _
    · split
      · exact (keeps_modJob s p _).trans (h _ (live_modJob _ (live_of_job ‹_›)))
      · exact keeps_endJob s p _

theorem keeps_retrySame (s : State) (p : Port) (failed : Command) : Keeps s (retrySame p failed s) :=
  keeps_failCommand failed s fun _ hl => keeps_sendCommand _ hl

/-! ### Phases (R144 to R148, R153 to R155) -/

section
variable {s : State} {p : Port}

theorem keeps_startCheck (mode : CheckMode) (h : Live p s) : Keeps s (startCheck p mode s) :=
  (keeps_modJob s p _).trans (keeps_sendRead 0 (live_modJob _ h))

theorem keeps_enterWrite (s : State) (p : Port) (next : Nat) : Keeps s (enterWrite p next s) :=
  (keeps_modJob s p _).trans (keeps_requestGrant _ _)

theorem keeps_modIssue (s : State) (n : Nat) (f : Case → Option IssueFigures) :
    Keeps s (s.modCase n fun c => { c with issue := f c }) :=
  keeps_modCase_plain (fun _ => ⟨rfl, rfl, rfl, fun _ => rfl⟩) (fun _ => rfl) (fun _ => rfl) (fun _ => rfl) (fun _ => rfl)
    (fun _ => rfl) fun _ _ _ _ => id

theorem keeps_cardCheck (s : State) (p : Port) (target : Family) (card : Card) (n : Nat) :
    Keeps s (cardCheck p target card n s) :=
  ((keeps_modJob s p _).trans (keeps_modIssue _ n _)).trans (keeps_enterWrite _ p 0)

theorem keeps_takeCheckResult (s : State) (p : Port) (target : Family) (card : Card) (n : Nat) (r : CheckResult) :
    Keeps s (takeCheckResult p target card n r s) := by
  unfold takeCheckResult
  split
  · exact keeps_endJob s p _
  · exact keeps_cardCheck s p target card n
  · exact (keeps_modJob s p _).trans (keeps_endJob _ p _)
  · exact keeps_enterWrite s p _

theorem keeps_checkIssueRead (target : Family) (j : Job) (card : Card) (content : Option Segment) (h : Live p s) :
    Keeps s (checkIssueRead p target j card content s) := by
  refine (keeps_modJob s p (fun j => { j with reads := j.reads ++ [content], retries := 0 })).trans ?_
  have hl := live_modJob (fun j => { j with reads := j.reads ++ [content], retries := 0 }) h
  unfold checkIssueRead
  dsimp only
  split
  · exact keeps_sendRead _ hl
  · exact keeps_sendRead _ hl
  · exact keeps_takeCheckResult _ p target card _ _

theorem keeps_checkRecoverRead (j : Job) (card : Card) (content : Option Segment) (h : Live p s) :
    Keeps s (checkRecoverRead p j card content s) := by
  unfold checkRecoverRead
  split
  · exact keeps_endJob s p _
  · split
    · exact (keeps_modJob s p _).trans (keeps_sendRead 1 (live_modJob _ h))
    · exact keeps_endJob s p _

theorem keeps_recoverRead (seg : Nat) (card : Card) (content : Option Segment) (h : Live p s) :
    Keeps s (recoverRead p seg card content s) := by
  unfold recoverRead
  dsimp only
  split
  · split
    · exact (keeps_modJob s p _).trans (keeps_endJob _ p _)
    · exact ((keeps_modJob s p _).trans (keeps_modJob _ p _)).trans (keeps_requestGrant _ _)
  · split
    · exact (keeps_modJob s p _).trans (keeps_sendRead _ (live_modJob _ h))
    · exact (keeps_modJob s p _).trans (keeps_sendRead _ (live_modJob _ h))

theorem keeps_confirmSegment (s : State) (p : Port) : Keeps s (confirmSegment p s) := keeps_modJob s p _

theorem keeps_afterConfirm (s : State) (p : Port) (target : Family) (seg : Nat) : Keeps s (afterConfirm p target seg s) := by
  unfold afterConfirm
  split
  · exact .refl s
  · split
    · exact keeps_endJob s p _
    · split
      · exact keeps_endJob s p _
      · split
        · exact (keeps_modJob s p _).trans (keeps_releaseAndRequest _ _)
        · exact keeps_sendWrite s p

theorem keeps_writeDone (target : Family) (seg : Nat) (j : Job) (h : Live p s) : Keeps s (writeDone p target seg j s) := by
  unfold writeDone
  split
  · split
    · exact keeps_endJob s p _
    · exact keeps_sendRead seg h
  · split
    · exact (keeps_confirmSegment s p).trans (keeps_afterConfirm _ p target seg)
    · split
      · exact keeps_endJob s p _
      · exact (keeps_modJob s p _).trans (keeps_sendRead seg (live_modJob _ h))

theorem keeps_verifyRead (s : State) (p : Port) (target : Family) (seg : Nat) (j : Job) (content : Option Segment) :
    Keeps s (verifyRead p target seg j content s) := by
  unfold verifyRead
  dsimp only
  split
  · exact (keeps_confirmSegment s p).trans (keeps_afterConfirm _ p target seg)
  · exact keeps_failCommand _ s fun u _ => keeps_sendWrite u p

theorem keeps_takeRead (s : State) (p : Port) (seg : Nat) (content : Option Segment) : Keeps s (takeRead p seg content s) := by
  unfold takeRead
  split
  · rename_i hj _
    have hl := live_of_job hj
    split
    · exact keeps_checkIssueRead _ _ _ content hl
    · exact keeps_checkRecoverRead _ _ content hl
    · exact keeps_recoverRead seg _ content hl
    · exact keeps_verifyRead s p _ seg _ content
    · exact .refl s
  · exact .refl s

/-! ### Departures and tears (R151, R152, R156) -/

theorem keeps_enterTorn (s : State) (p : Port) : Keeps s (enterTorn p s) :=
  ((keeps_dropCommand s p).trans (keeps_giveUpSigning _ p)).trans (keeps_modJob _ p _)

theorem keeps_departure (s : State) (p : Port) : Keeps s (departure p s) := by
  unfold departure
  split
  · exact .refl s
  · split
    · exact keeps_endJob s p _
    · split
      · exact .refl s
      · exact .refl s
      · split
        · exact (keeps_dropCommand s p).trans (keeps_modJob _ p _)
        · exact keeps_enterTorn s p
      · split
        · exact keeps_endJob s p _
        · exact keeps_enterTorn s p
      · exact keeps_enterTorn s p
      · exact keeps_endJob s p _
      · exact (keeps_enterTorn s p).trans (keeps_modJob _ p _)

theorem keeps_cardToJob (j : Job) (serial : Serial) (h : Live p s) : Keeps s (cardToJob p j serial s) := by
  unfold cardToJob
  split
  · exact keeps_startCheck _ h
  · split
    · exact keeps_startCheck _ h
    · exact .refl s
  · exact .refl s

/-! ### The couplers' messages (R141 to R143) -/

theorem keeps_clearTimeouts (s : State) (p : Port) : Keeps s (clearTimeouts p s) := by
  refine keeps_modPort ⟨⟨fun h => ?_, fun h hq => h hq⟩, rfl⟩
  obtain ⟨h1, h2, h3, h4, h5, h6, h7, _⟩ := h
  exact ⟨h1, h2, h3, h4, h5, h6, h7, Nat.zero_le _⟩

/-- The card and the command go from a port. -/
theorem keeps_clearCard (s : State) (p : Port) : Keeps s (s.modPort p fun r => { r with outstanding := none, card := none }) :=
  keeps_modPort ⟨⟨id, fun h hq => ⟨(h hq).1, rfl, rfl⟩⟩, rfl⟩

theorem keeps_cardLeaves (s : State) (p : Port) : Keeps s (cardLeaves p s) := by
  unfold cardLeaves
  refine (keeps_clearCard s p).trans ?_
  dsimp only
  split
  · exact keeps_departure _ p
  · exact keeps_systemReport _ _
  · exact .refl _

theorem inService_modPort {f : PortRec → PortRec} (hf : ∀ r, inService (f r) = inService r) (s : State) (p q : Port) :
    inService ((s.modPort p f).port q) = inService (s.port q) := by
  rw [modPort_port]
  split
  · subst q; exact hf _
  · rfl

theorem outcomeTaken_ports (o : JobOutcome) (j : Job) (s : State) : (outcomeTaken o j s).ports = s.ports := by
  unfold outcomeTaken
  split
  · rw [retentionTest_ports, takeDue_ports]
    split <;> rfl
  · split
    · simp [settleFromCard]
    · exact takeDue_ports s _

theorem inService_endJob (s : State) (p : Port) (o : JobOutcome) (q : Port) :
    inService ((endJob p o s).port q) = inService (s.port q) := by
  cases hj : (s.port p).job with
  | none => rw [endJob_of_no_job o hj]
  | some j =>
    rw [endJob_of_job o hj, port_of_ports (outcomeTaken_ports o j _) q]
    unfold freeJob
    rw [port_of_ports (modCase_ports _ _ _) q, inService_modPort (by intro r; rfl), port_of_ports (reportOn_ports _ _ _) q,
      inService_of_seat (giveUpSigning_seat s p q)]

theorem inService_enterTorn (s : State) (p q : Port) : inService ((enterTorn p s).port q) = inService (s.port q) := by
  have h : seatOf ((enterTorn p s).port q) = seatOf (s.port q) :=
    ((modJob_seat _ p _ (by intro _; rfl) q).trans (giveUpSigning_seat _ p q)).trans (dropCommand_seat s p q)
  exact inService_of_seat h

theorem inService_departure (s : State) (p q : Port) : inService ((departure p s).port q) = inService (s.port q) := by
  unfold departure
  split
  · rfl
  · split
    · exact inService_endJob s p _ q
    · split
      · rfl
      · rfl
      · split
        · exact inService_of_seat ((modJob_seat _ p _ (by intro _; rfl) q).trans (dropCommand_seat s p q))
        · exact inService_enterTorn s p q
      · split
        · exact inService_endJob s p _ q
        · exact inService_enterTorn s p q
      · exact inService_enterTorn s p q
      · exact inService_endJob s p _ q
      · exact (inService_of_seat (modJob_seat _ p _ (by intro _; rfl) q)).trans (inService_enterTorn s p q)

theorem inService_cardLeaves (s : State) (p q : Port) : inService ((cardLeaves p s).port q) = inService (s.port q) := by
  have h := inService_modPort (f := fun r => { r with outstanding := none, card := none }) (fun _ => rfl) s p q
  unfold cardLeaves
  dsimp only
  split
  · exact (inService_departure _ p q).trans h
  · exact h
  · exact h

theorem keeps_cardEnters {s : State} {p : Port} (card : Card) (h : inService (s.port p) = true) :
    Keeps s (cardEnters p card s) := by
  have hset : Keeps s (s.modPort p fun r => { r with card := some card }) := by
    refine keeps_modPort ⟨⟨id, fun _ hq => ?_⟩, rfl⟩
    rw [show inService (s.port p) = false from hq] at h
    cases h
  unfold cardEnters
  refine hset.trans ?_
  dsimp only
  split
  · exact keeps_cardToJob _ _ (live_of_job ‹_›)
  · exact keeps_systemReport _ _

theorem keeps_answerSense (s : State) (p : Port) : Keeps s (answerSense p s) := by
  refine keeps_modPort ⟨⟨id, fun h hq => ⟨(h hq).1, ?_, (h hq).2.2⟩⟩, rfl⟩
  dsimp only
  split
  · rfl
  · exact (h hq).2.1

theorem keeps_takeArrived {s : State} {p : Port} (card : Card) (h : inService (s.port p) = true) :
    Keeps s (takeArrived p card s) := by
  have hs : inService ((answerSense p (clearTimeouts p s)).port p) = true :=
    (inService_modPort (by intro _; rfl) _ p p).trans ((inService_modPort (by intro _; rfl) s p p).trans h)
  unfold takeArrived
  refine ((keeps_clearTimeouts s p).trans (keeps_answerSense _ p)).trans ?_
  dsimp only
  split
  · exact keeps_cardEnters card hs
  · split
    · exact .refl _
    · exact (keeps_cardLeaves _ p).trans (keeps_cardEnters card ((inService_cardLeaves _ p p).trans hs))

theorem keeps_takeLeft (s : State) (p : Port) : Keeps s (takeLeft p s) :=
  (keeps_clearTimeouts s p).trans (keeps_cardLeaves _ p)

theorem keeps_takeData (s : State) (p : Port) (content : Option Segment) : Keeps s (takeData p content s) := by
  unfold takeData
  refine (keeps_clearTimeouts s p).trans ?_
  dsimp only
  split
  · split
    · exact (keeps_dropCommand _ p).trans (keeps_takeRead _ p _ content)
    · exact (keeps_dropCommand _ p).trans (keeps_retrySame _ p _)
  · exact .refl _

theorem keeps_takeDone (s : State) (p : Port) : Keeps s (takeDone p s) := by
  unfold takeDone
  refine (keeps_clearTimeouts s p).trans ?_
  dsimp only
  split
  · rename_i hj
    split
    · exact (keeps_dropCommand _ p).trans (keeps_writeDone _ _ _ (live_of_seat (dropCommand_seat _ p p) (live_of_job hj)))
    · exact .refl _
  · exact (keeps_dropCommand _ p).trans (keeps_endJob _ p _)
  · exact .refl _

theorem keeps_takeFault (s : State) (p : Port) : Keeps s (takeFault p s) := by
  unfold takeFault
  refine (keeps_clearTimeouts s p).trans ?_
  dsimp only
  split
  · exact .refl _
  · exact keeps_dropCommand _ p
  · exact (keeps_dropCommand _ p).trans (keeps_retrySame _ p _)

/-- What follows a port out of service whose job has ended: it carries nothing. -/
theorem portBare_endJob {s : State} {p : Port} (o : JobOutcome) (hc : (s.port p).card = none)
    (ho : (s.port p).outstanding = none) : PortBare ((endJob p o s).port p) := by
  cases hj : (s.port p).job with
  | none =>
    rw [endJob_of_no_job o hj]
    exact ⟨hj, ho, hc⟩
  | some j =>
    rw [endJob_of_job o hj, port_of_ports (outcomeTaken_ports o j _) p]
    unfold freeJob
    rw [port_of_ports (modCase_ports _ _ _) p, modPort_port, if_pos rfl]
    refine ⟨rfl, rfl, ?_⟩
    dsimp only
    rw [port_of_ports (reportOn_ports _ _ _) p, card_of_seat (giveUpSigning_seat s p p), hc]

/-- What keeps the relation from a state with other port records keeps it, once the ports are accounted for. -/
theorem keeps_from_ports {s t : State} {ps : Ports}
    (hkey : ∀ q, (({ s with ports := ps } : State).port q).job.map jobKey = (s.port q).job.map jobKey)
    (hp : ∀ q, PortSound (s.port q) (t.port q)) (k : Keeps { s with ports := ps } t) : Keeps s t where
  nextCase := k.nextCase
  generation := k.generation
  master := k.master
  channels h := k.channels h
  signing h := k.signing h
  ports := hp
  same := k.same
  table h := k.table h
  rise h := k.rise h
  evolves h := k.evolves h
  jobs h hj := k.jobs h (jobsOk_of_keys (s := s) rfl hkey hj)
  owners := k.owners
  settled h hj := k.settled h (jobsOk_of_keys (s := s) rfl hkey hj)

/-- A fence: the port's job ends, and the port out of service carries nothing. -/
theorem keeps_fencePort (s : State) (p : Port) : Keeps s (fencePort p s) := by
  have hport := fun q => modPort_port s p q fun r => { r with fenced := true, card := none, outstanding := none }
  have hended := keeps_endJob (s.modPort p fun r => { r with fenced := true, card := none, outstanding := none }) p .portFenced
  have hself := (hport p).trans (if_pos rfl)
  have hbare := portBare_endJob .portFenced (congrArg PortRec.card hself) (congrArg PortRec.outstanding hself)
  refine Keeps.trans (keeps_from_ports (fun q => ?_) (fun q => ?_) hended) (keeps_systemReport _ _)
  · refine (congrArg (fun r : PortRec => r.job.map jobKey) (hport q)).trans ?_
    split
    · subst q; rfl
    · rfl
  · have hq := hended.ports q
    by_cases e : q = p
    · subst e
      rw [hself] at hq
      exact ⟨fun h => hq.ranges h, fun _ _ => hbare⟩
    · rw [hport, if_neg e] at hq
      exact hq

theorem keeps_takeTimeout (s : State) (p : Port) : Keeps s (takeTimeout p s) := by
  have hcount : Keeps s (s.modPort p fun r => { r with timeouts := satSucc 15 r.timeouts }) := by
    refine keeps_modPort ⟨⟨fun h => ?_, fun h hq => h hq⟩, rfl⟩
    obtain ⟨h1, h2, h3, h4, h5, h6, h7, _⟩ := h
    exact ⟨h1, h2, h3, h4, h5, h6, h7, by dsimp only; unfold satSucc; omega⟩
  unfold takeTimeout
  split
  · exact .refl s
  · refine hcount.trans ?_
    dsimp only
    split
    · exact keeps_fencePort _ p
    · split
      · exact keeps_dropCommand _ p
      · exact (keeps_dropCommand _ p).trans (keeps_retrySame _ p _)

theorem keeps_coupler {s : State} {p : Port} {i : Instr} {work : State → State} (hp : inService (s.port p) = true)
    (hw : CouplerWork p i work) : Keeps s (work s) := by
  cases hw with
  | arrived serial family => exact keeps_takeArrived _ hp
  | left => exact keeps_takeLeft s p
  | data content => exact keeps_takeData s p content
  | done => exact keeps_takeDone s p
  | fault cause => exact keeps_takeFault s p
  | timeout => exact keeps_takeTimeout s p

end

/-! ### The clock (R191, R192) -/

theorem keeps_expireWindow (s : State) (p : Port) : Keeps s (expireWindow p s) := by
  unfold expireWindow
  split
  · exact keeps_endJob s p _
  · exact .refl s

theorem keeps_moveDay (s : State) : Keeps s (moveDay s) := by
  rw [moveDay_eq]
  exact keeps_modClock s fun _ => _

theorem keeps_deliverRollover (s : State) (b : RolloverBlock) : Keeps s (deliverRollover b s) := by
  cases b with
  | cases => exact keeps_rolloverCases s
  | hotlist => exact keeps_rolloverCut s
  | zones => exact keeps_rolloverZones s _

theorem keeps_rolloverTest (s : State) : Keeps s (rolloverTest s) :=
  (keeps_moveDay s).trans (keeps_runFree fun b _ u => keeps_deliverRollover u b)

theorem keeps_runTimeTask (s : State) (t : TimeTask) : Keeps s (runTimeTask t s) := by
  cases t with
  | rollover b => exact keeps_deliverRollover s b
  | window p => exact keeps_expireWindow s p

theorem keeps_moveClock (s : State) (t : Nat) : Keeps s (moveClock t s) :=
  ((keeps_modClock s _).trans (keeps_moveDay _)).trans (keeps_runFree fun b _ u => keeps_runTimeTask u b)

theorem keeps_setTime (s : State) (t : Nat) : Keeps s (setTime t s) := by
  rcases setTime_cases s t with ⟨_, e⟩ | ⟨_, e⟩ <;> rw [e]
  · exact .refl s
  · exact keeps_moveClock s t

theorem keeps_storeSettings (s : State) (v : Settings) : Keeps s (storeSettings v s) := by
  have hset : Keeps s { s with settings := v } := keeps_of_eq rfl rfl rfl rfl rfl rfl
  exact (hset.trans (keeps_rolloverTest _)).trans (keeps_autoCut _)

theorem keeps_tick (s : State) (f : Clock → Clock) : Keeps s (stampFloor s (rolloverTest (s.modClock f))) :=
  ((keeps_modClock s f).trans (keeps_rolloverTest _)).trans (keeps_stampFloor _ _)

end Sys2Proof.Machine
end

section
/-! PROOF. What every command keeps: after one of five changes that only a whole command makes, the rest is what `Keeps` says. -/

namespace Sys2Proof.Machine

/-! ### The changes of a whole command -/

/-- The state of a CASE OPEN before the automatic trigger is tested: the case stands at the end of the table, with its master entry and
its ADD (R20, R103). -/
def openedState (n : Nat) (c : Case) (s : State) : State :=
  { s with
    cases := s.cases ++ [c]
    nextCase := nextCaseNumber n
    hotlist := { s.hotlist with
      master := insertMaster ⟨c.snapshot.cardNo, n, none⟩ s.hotlist.master
      pending := s.hotlist.pending ++ [⟨.add, c.snapshot.cardNo, n, false⟩] } }

/-- The state of an accepted job request before a card in the field is taken up: case and port name each other (R29, R30, R144). -/
def startedState (kind : JobKind) (p : Port) (n : Nat) (attempts : Case → Nat) (s : State) : State :=
  (s.modCase n fun c => { c with job := some (jobName kind, p), attempts := attempts c }).modPort p fun r =>
    { r with job := some (newJob kind n) }

/-- The changes that only a whole command makes. -/
inductive Moves (s : State) : Instr → State → Prop
  | opened {r : Request} {l : LinkId} {today n : Nat} {o : OpenBody} (hread : readOpen today r.body = some o)
      (hnew : ∀ c ∈ s.cases, c.snapshot.cardNo ≠ o.snapshot.cardNo) (hroom : s.cases.length < 256)
      (hnext : s.nextCase = some n) (hlist : s.hotlist.pending.length + s.hotlist.master.length ≤ 510) (hl : s.links[l].state ≠ .free) :
      Moves s (.caseOpen r) (openedState n (newCase n l today (concessionClass today o.snapshot.products)
        (termsOf (concessionClass today o.snapshot.products) s) o.snapshot) s)
  | started {i : Instr} {kind : JobKind} {p : Port} {n : Nat} {c : Case} {attempts : Case → Nat}
      (hc : s.findCase n = some c) (hjob : c.job = none) (hkind : kind = .recover → c.state ≠ .settled)
      (hport : (s.port p).job = none) (hserv : inService (s.port p) = true)
      (hatt : ∀ d, attempts d = d.attempts ∨ attempts d ≤ 255) : Moves s i (startedState kind p n attempts s)
  | owned {i : Instr} {f : Case → LinkId} (hf : ∀ c, f c = c.owner ∨ s.links[f c].state ≠ .free) :
      Moves s i { s with cases := s.cases.map fun c => { c with owner := f c } }
  | package : Moves s .hotlistGrantCompletion (completeCut s)
  | restart {i : Instr} {kind : RestartKind} (hi : Restarts s i kind) : Moves s i (takeUpStore (restartClock kind s))

/-! ### Requests -/

/-- A CASE OPEN after its opening events. -/
theorem keeps_openCase (n : Nat) (c : Case) (events : List CardEvent) (s : State) :
    Keeps (openedState n c s) (openCase n c events s) := by
  unfold openCase
  exact (keeps_autoCut (openedState n c s)).trans (keeps_foldl (fun e u => keeps_arrival u n e) events _)

theorem inService_of_portStatus {r : PortRec} (h : portStatus r = none) : r.job = none ∧ inService r = true := by
  unfold portStatus at h
  split at h
  · cases h
  · split at h
    · cases h
    · split at h
      · cases h
      · simp_all [inService]

/-- A card in the field is taken up by a job that was created. -/
theorem keeps_createJob {s : State} {p : Port} (kind : JobKind) (n : Nat) (hserv : inService (s.port p) = true) :
    Keeps (s.modPort p fun r => { r with job := some (newJob kind n) }) (createJob p kind n s) := by
  unfold createJob
  dsimp only
  split
  · exact keeps_startCheck _ (.inr ((inService_modPort (by intro _; rfl) s p p).trans hserv))
  · exact .refl _

theorem clampTo_bounds {lo hi : Nat} (n : Nat) (h : lo ≤ hi) : lo ≤ clampTo lo hi n ∧ clampTo lo hi n ≤ hi := by
  unfold clampTo
  omega

/-- Settings in their ranges keep R139, on a port without a job. -/
theorem keeps_configurePort {s : State} {p : Port} (enabled : Bool) (mode : WriteMode) (n : PortNumbers)
    (hj : (s.port p).job = none) : Keeps s (configurePort p enabled mode (clampNumbers n) s) := by
  have hset : Keeps s (s.modPort p (configuredPort enabled mode (clampNumbers n))) := by
    refine keeps_modPort ⟨⟨fun h => ?_, fun h hq => ?_⟩, rfl⟩
    · exact ⟨(clampTo_bounds _ (by decide)).2, (clampTo_bounds _ (by decide)).1, (clampTo_bounds _ (by decide)).2,
        (clampTo_bounds _ (by decide)).1, (clampTo_bounds _ (by decide)).2, (clampTo_bounds _ (by decide)).1,
        (clampTo_bounds _ (by decide)).2, Nat.zero_le _⟩
    · cases enabled with
      | false => exact ⟨hj, rfl, rfl⟩
      | true =>
        have hf : (s.port p).fenced = true := by simpa [inService, configuredPort] using hq
        exact h (by simp [inService, hf])
  unfold configurePort
  dsimp only
  split
  · rename_i h
    obtain ⟨he, -, hf⟩ := h
    refine hset.trans (keeps_sendCommand _ (.inr ?_))
    rw [modPort_port, if_pos rfl]
    simp [inService, configuredPort, he, hf]
  · exact hset

theorem keeps_unfencePort (s : State) (p : Port) : Keeps s (unfencePort p s) := by
  rw [unfencePort_eq]
  refine keeps_modPort ⟨⟨fun h => ?_, fun h hq => ?_⟩, rfl⟩
  · obtain ⟨h1, h2, h3, h4, h5, h6, h7, _⟩ := h
    exact ⟨h1, h2, h3, h4, h5, h6, h7, Nat.zero_le _⟩
  · have he : (s.port p).enabled = false := by simpa [inService, unfencedRecord] using hq
    obtain ⟨hj, ho, hc⟩ := h (by simp [inService, he])
    exact ⟨hj, by simp [unfencedRecord, he, ho], hc⟩

/-- A fetched report leaves a channel that is sound still (R184). -/
theorem keeps_fetch {s : State} {c : Fin 4} {head : Report} {tail : List Report} (hq : s.channels[c].queue = head :: tail) :
    Keeps s (s.setChannel c ⟨tail, 0⟩) := by
  have hrest := keeps_of_eq (s := s) (t := { s.setChannel c ⟨tail, 0⟩ with channels := s.channels }) rfl rfl rfl rfl rfl rfl
  refine { hrest with channels := fun hs => channelsOk_setChannel hs ⟨?_, Nat.zero_le _, fun h => absurd h (Nat.lt_irrefl 0)⟩ }
  have := (hs c).1
  rw [hq, List.length_cons] at this
  exact Nat.le_of_succ_le this

theorem keeps_setLink (s : State) (l : LinkId) (r : Link) : Keeps s (s.setLink l r) := keeps_of_eq rfl rfl rfl rfl rfl rfl

theorem active_of_newOwnerStatus {r : Link} (h : newOwnerStatus r = none) : r.state = .active := by
  unfold newOwnerStatus at h
  split at h
  · cases h
  · cases h
  · assumption

/-- A recipient is another link than the target, and live (R180). -/
theorem recipient_lives {target l : LinkId} {n : Nat} {s : State} (h : recipientOf target n s = .ok l) :
    l ≠ target ∧ s.links[l].state ≠ .free := by
  unfold recipientOf at h
  split at h
  · cases h
  · split at h
    · cases h
    · rename_i hlive
      rw [not_or] at hlive
      split at h
      · cases h
      · split at h
        · cases h
          exact hlive
        · cases h

/-- What a request's handler keeps, once the change of its whole command is made. -/
theorem Handled.moves {l : LinkId} {r : Request} {s t : State} {k : Kind} {reply : Reply} (h : Handled l r.body s k t reply)
    (hl : s.links[l].state = .active) :
    ∃ u, (u = s ∨ Moves s (requestCommand k r) u) ∧ Keeps u t := by
  have same {k : Kind} {t : State} (h : Keeps s t) : ∃ u, (u = s ∨ Moves s (requestCommand k r) u) ∧ Keeps u t := ⟨s, .inl rfl, h⟩
  cases h with
  | refused => exact same (.refl s)
  | read => exact same (.refl s)
  | opened _ hread hnew hroom hnext hlist =>
    exact ⟨_, .inr (.opened hread hnew hroom hnext hlist (by rw [hl]; decide)), keeps_openCase _ _ _ s⟩
  | @issues c p target hc hmay hp =>
    obtain ⟨hjob, hserv⟩ := inService_of_portStatus hp
    have hn := findCase_number hc
    refine ⟨startedState (.issue target) p c.number (fun c => satSucc 255 c.attempts) s,
      .inr (.started (hn ▸ hc) (of_decide_eq_true hmay).1 (fun h => by cases h) hjob hserv fun d => .inr ?_),
      keeps_createJob _ _ hserv⟩
    unfold satSucc
    omega
  | @recovers c p hc hmay hp =>
    obtain ⟨hjob, hserv⟩ := inService_of_portStatus hp
    obtain ⟨hnone, hstate⟩ := of_decide_eq_true hmay
    refine ⟨startedState .recover p c.number (fun c => c.attempts) s,
      .inr (.started (findCase_number hc ▸ hc) hnone (fun _ => ?_) hjob hserv fun d => .inl rfl), keeps_createJob _ _ hserv⟩
    rcases hstate with h | h <;> rw [h] <;> decide
  | @cancelled c hc hst =>
    refine same (keeps_endCase true fun d hd => ?_)
    rw [findCase_number hc, hc] at hd
    cases hd
    unfold cancelStatus at hst
    split at hst
    · cases hst
    · simpa using ‹¬ c.job.isSome = true›
  | @settles c hc hst =>
    refine same ?_
    unfold forceSettle
    split
    · exact keeps_modDue s _ _
    · rename_i hjob
      refine keeps_settleWith _ fun d hd => ?_
      rw [findCase_number hc, hc] at hd
      cases hd
      exact ⟨by simpa using hjob, hst⟩
  | @transferred c owner hc ho =>
    refine ⟨_, .inr (.owned (f := fun d => if d.number = c.number then owner else d.owner) fun d => ?_),
      keeps_of_eq ?_ rfl rfl rfl rfl rfl⟩
    · split
      · exact .inr (by rw [active_of_newOwnerStatus ho]; decide)
      · exact .inl rfl
    · rw [modCase_cases]
      refine List.map_congr_left fun d _ => ?_
      split <;> simp_all
  | resolved => exact same (keeps_rule s _ _ _)
  | aborted => exact same (keeps_endJob s _ _)
  | abortMarked => exact same (keeps_modJob s _ _)
  | termsStored => exact same (keeps_of_eq rfl rfl rfl rfl rfl rfl)
  | cut => exact same (keeps_startCut s)
  | zoneConfigured => exact same (keeps_configureZone s _ _ _ _)
  | zoneReleased => exact same (keeps_modZone s _ _)
  | zoneHeld => exact same (keeps_modZone s _ _)
  | zoneResynced => exact same (keeps_modZone s _ _)
  | zoneRemoved => exact same ((keeps_modZone s _ _).trans (keeps_testLacking _ _))
  | zoneCleared => exact same (keeps_modZone s _ _)
  | header => exact same ((keeps_discardForHeader s _).trans (keeps_headerChecked _ _ _ _))
  | records => exact same (keeps_takeRecords s _ _)
  | batchRefused => exact same ((keeps_modZone s _ _).trans (keeps_raiseError _ _ _))
  | committed => exact same (keeps_commitBatch s _ _)
  | portConfigured hj => exact same (keeps_configurePort _ _ _ hj)
  | portUnfenced => exact same (keeps_unfencePort s _)
  | linkCreated => exact same (keeps_setLink s _ _)
  | linkMoved => exact same (keeps_setLink s _ _)
  | linkSuspended => exact same (keeps_setLink s _ _)
  | linkResumed => exact same (keeps_setLink s _ _)
  | linkFreed => exact same (keeps_setLink s _ _)
  | @linkHandedOn target recipient n f _ _ hrec =>
    refine ⟨_, .inr (.owned (f := fun d => if d.owner = target then recipient else d.owner) fun d => ?_),
      Keeps.trans (keeps_of_eq (t := transferCases target recipient s) ?_ rfl rfl rfl rfl rfl) (keeps_setLink _ _ _)⟩
    · split
      · exact .inr (recipient_lives hrec).2
      · exact .inl rfl
    · refine List.map_congr_left fun d _ => ?_
      split <;> simp_all
  | fetched hq => exact same (keeps_fetch hq)
  | timeSet => exact same (keeps_setTime s _)
  | settingsStored => exact same (keeps_storeSettings s _)

/-! ### Events -/

theorem keeps_completePackage (s : State) (code : Code) : Keeps (completeCut s) (completePackage code s) :=
  ((keeps_systemReport _ _).trans (keeps_autoCut _)).trans (keeps_releaseGrant _)

theorem keeps_releaseStatement (s : State) : Keeps s (releaseStatement s) := by
  unfold releaseStatement
  split
  · exact keeps_releaseGrant s
  · exact keeps_releaseAndRequest s _

/-- What follows the RESTARTED report finds every case without a job. -/
theorem keeps_restartDevice (kind : RestartKind) (s : State) :
    Keeps (takeUpStore (restartClock kind s)) (restartDevice kind s) := by
  have hnone : ∀ c ∈ (takeUpStore (restartClock kind s)).cases, c.job = none := by
    intro c hc
    obtain ⟨d, _, rfl⟩ := List.mem_map.mp hc
    rfl
  unfold restartDevice
  refine runFree_keeps (Keeps (takeUpStore (restartClock kind s))) _ _ _ ?_ fun t _ u hu => ?_
  · exact (keeps_systemReport _ _).trans (keeps_useChoices _ _)
  · refine hu.trans ?_
    cases t with
    | statement => exact keeps_requestStatement u
    | cut => exact keeps_autoCut u
    | due n =>
      refine keeps_takeDue fun c hc => ?_
      obtain ⟨d, hd, hsame⟩ := hu.same c (findCase_mem hc)
      by_contra hjob
      exact hjob ((hsame.job hjob).trans (hnone d hd))

/-- What every command keeps, once the change of the whole command is made. -/
theorem Does.moves {i : Instr} {s t : State} (h : Does s i t) : ∃ u, (u = s ∨ Moves s i u) ∧ Keeps u t := by
  cases h with
  | idle => exact ⟨s, .inl rfl, .refl s⟩
  | refused => exact ⟨s, .inl rfl, keeps_placeAnswer _ _ _ s⟩
  | handled hr =>
    obtain ⟨_, _, hactive, _⟩ := hr
    obtain ⟨u, hu, hk⟩ := (handlerOf_handled _ _ _ s).moves hactive
    exact ⟨u, hu, (hk.trans (keeps_stampFloor s _)).trans (keeps_placeAnswer _ _ _ _)⟩
  | line => exact ⟨s, .inl rfl, keeps_modTerminal s _⟩
  | restart hi => exact ⟨_, .inr (.restart hi), (keeps_restartDevice _ s).trans (keeps_stampFloor s _)⟩
  | tick => exact ⟨s, .inl rfl, keeps_tick s _⟩
  | floor => exact ⟨s, .inl rfl, keeps_modClock s _⟩
  | coupler hp hw => exact ⟨s, .inl rfl, (keeps_coupler hp hw).trans (keeps_stampFloor s _)⟩
  | window => exact ⟨s, .inl rfl, (keeps_expireWindow s _).trans (keeps_stampFloor s _)⟩
  | package => exact ⟨_, .inr .package, (keeps_completePackage s _).trans (keeps_stampFloor s _)⟩
  | statement =>
    exact ⟨s, .inl rfl, ((keeps_completeStatement s _).trans (keeps_releaseStatement _)).trans (keeps_stampFloor s _)⟩

end Sys2Proof.Machine
end

section
/-! PROOF. The invariants of cases, hotlist, ports, jobs and signing unit (O8, O9, O12, O13, O14), and the rules over all commands that
speak of cases and counters (O16, O17, O18). -/

namespace Sys2Proof.Machine

theorem CaseTableOk.rise {s : State} (h : CaseTableOk s) : NumbersRise s := h.1

/-- What every whole command's change and every shared operation keep, the step keeps. -/
theorem step_keeps_of_moves {P : State → Prop} (hpend : ∀ s l, P s → P (s.withPending l)) (hmoves : ∀ i s t, P s → Moves s i t → P t)
    (hkeeps : ∀ s t, P s → Keeps s t → P t) {s t : State} (hs : P s) (h : step s = .next t) : P t := by
  refine step_keeps hpend (fun i s t hs hd => ?_) hs h
  obtain ⟨u, hu, hk⟩ := hd.moves
  rcases hu with rfl | hu
  · exact hkeeps _ _ hs hk
  · exact hkeeps _ _ (hmoves i s u hs hu) hk

/-! ### The changes of a whole command, part by part -/

section
variable {s : State}

theorem startedState_cases (kind : JobKind) (p : Port) (n : Nat) (attempts : Case → Nat) :
    (startedState kind p n attempts s).cases =
      s.cases.map fun c => if c.number = n then { c with job := some (jobName kind, p), attempts := attempts c } else c := rfl

theorem startedState_port (kind : JobKind) (p : Port) (n : Nat) (attempts : Case → Nat) (q : Port) :
    (startedState kind p n attempts s).port q = if q = p then { s.port p with job := some (newJob kind n) } else s.port q :=
  modPort_port _ p q _

theorem takeUpStore_port (s : State) (p : Port) : (takeUpStore s).port p = restartPort s.clock.second (s.port p) := by
  cases p <;> rfl

theorem takeUpStore_cases (s : State) : (takeUpStore s).cases = s.cases.map fun c => { c with job := none } := rfl

/-- A restart starts from the state as it stood, but for its clock, or from an erased store. -/
theorem restartClock_parts (kind : RestartKind) (s : State) :
    (restartClock kind s).cases = s.cases ∧ (restartClock kind s).nextCase = s.nextCase ∧ (restartClock kind s).hotlist = s.hotlist ∧
        (restartClock kind s).ports = s.ports ∧ (restartClock kind s).zones = s.zones ∧ kind ≠ .deviceErase ∨
      restartClock kind s = eraseStore s ∧ kind = .deviceErase := by
  cases kind
  · exact .inl ⟨rfl, rfl, rfl, rfl, rfl, by decide⟩
  · exact .inl ⟨rfl, rfl, rfl, rfl, rfl, by decide⟩
  · exact .inr ⟨rfl, rfl⟩

end

/-! ### O14: the signing unit -/

theorem signingOk_of_moves {i : Instr} {s t : State} (hs : SigningOk s) (h : Moves s i t) : SigningOk t := by
  cases h with
  | opened => exact hs
  | started => exact hs
  | owned => exact hs
  | package => exact hs
  | restart => exact fun _ => rfl

/-- Settles O14: no operation leaves anybody waiting at a free unit, and a restart leaves nobody waiting. -/
theorem signingStaysSound : Obligations.SigningStaysSound := fun _ _ hs h =>
  step_keeps_of_moves (fun _ _ h => h) (fun _ _ _ => signingOk_of_moves) (fun _ _ hs hk => hk.signing hs) hs h

/-! ### O12: the ports -/

theorem portOk_erased : PortOk PortRec.erased := by
  refine ⟨by decide, by decide, by decide, by decide, by decide, by decide, by decide, by decide, by decide⟩

theorem portOk_restartPort (clock : Option Nat) {r : PortRec} (h : PortOk r) : PortOk (restartPort clock r) := by
  obtain ⟨h1, h2, h3, h4, h5, h6, h7, _, _⟩ := h
  refine ⟨h1, h2, h3, h4, h5, h6, h7, Nat.zero_le _, fun hq => ⟨rfl, ?_, rfl⟩⟩
  have : inService r = false := hq
  simp [restartPort, this]

theorem portsOk_of_moves {i : Instr} {s t : State} (hs : PortsOk s) (h : Moves s i t) : PortsOk t := by
  cases h with
  | opened => exact hs
  | @started _ kind p n c attempts _ _ _ _ hserv _ =>
    intro q
    rw [startedState_port]
    split
    · obtain ⟨h1, h2, h3, h4, h5, h6, h7, h8, _⟩ := hs p
      refine ⟨h1, h2, h3, h4, h5, h6, h7, h8, fun hq => ?_⟩
      rw [show inService (s.port p) = false from hq] at hserv
      cases hserv
    · exact hs q
  | owned => exact hs
  | package => exact hs
  | @restart _ kind _ =>
    intro p
    rw [takeUpStore_port]
    refine portOk_restartPort _ ?_
    rcases restartClock_parts kind s with ⟨_, _, _, hp, _, _⟩ | ⟨e, _⟩
    · rw [port_of_ports hp p]; exact hs p
    · rw [e]; cases p <;> exact portOk_erased

/-- Settles O12: every operation keeps a port in its ranges, and bare while it is out of service. -/
theorem portsStaySound : Obligations.PortsStaySound := fun _ _ hs h =>
  step_keeps_of_moves (fun _ _ h => h) (fun _ _ _ => portsOk_of_moves) (fun _ _ hs hk p => (hk.ports p).ok (hs p)) hs h

/-! ### O8: the case table and the master list -/

theorem mem_insertMaster {e x : MasterEntry} {l : List MasterEntry} : x ∈ insertMaster e l ↔ x = e ∨ x ∈ l := by
  induction l with
  | nil => simp [insertMaster]
  | cons y l ih =>
    unfold insertMaster
    split
    · simp
    · rw [List.mem_cons, ih, List.mem_cons]; exact or_left_comm

theorem insertMaster_length (e : MasterEntry) (l : List MasterEntry) : (insertMaster e l).length = l.length + 1 := by
  induction l with
  | nil => rfl
  | cons y l ih =>
    unfold insertMaster
    split
    · rfl
    · rw [List.length_cons, ih, List.length_cons]

/-- A new card number keeps the master list in its order. -/
theorem insertMaster_ascends {e : MasterEntry} {l : List MasterEntry} (h : l.Pairwise fun a b => a.cardNo < b.cardNo)
    (hnew : ∀ x ∈ l, x.cardNo ≠ e.cardNo) : (insertMaster e l).Pairwise fun a b => a.cardNo < b.cardNo := by
  induction l with
  | nil => exact List.pairwise_singleton _ _
  | cons y l ih =>
    obtain ⟨hy, hl⟩ := List.pairwise_cons.mp h
    unfold insertMaster
    split
    · rename_i hlt
      refine List.pairwise_cons.mpr ⟨fun x hx => ?_, h⟩
      rcases List.mem_cons.mp hx with rfl | hx
      · exact hlt
      · exact Nat.lt_trans hlt (hy x hx)
    · have hne := hnew y List.mem_cons_self
      refine List.pairwise_cons.mpr ⟨fun x hx => ?_, ih hl fun x hx => hnew x (List.mem_cons_of_mem _ hx)⟩
      rcases mem_insertMaster.mp hx with rfl | hx
      · omega
      · exact hy x hx

/-- A case joins the table with its master entry and its ADD. -/
theorem caseTableOk_opened {s : State} {n : Nat} {c : Case} (hn : c.number = n) (hg : c.generation = none)
    (hnew : ∀ d ∈ s.cases, d.snapshot.cardNo ≠ c.snapshot.cardNo) (hroom : s.cases.length < 256) (hnext : s.nextCase = some n)
    (hlist : s.hotlist.pending.length + s.hotlist.master.length ≤ 510) (h : CaseTableOk s) : CaseTableOk (openedState n c s) := by
  obtain ⟨hnum, hcard, hbound, hnextOk, hlen, hmaster, hin, hout, hpend⟩ := h
  obtain ⟨hn1, hn2⟩ := hnextOk n hnext
  have hentry : entryOf c = ⟨c.snapshot.cardNo, n, none⟩ := by rw [entryOf, hn, hg]
  have hnextVal : ∀ m, nextCaseNumber n = some m → m = n + 1 ∧ n < max32 := by
    intro m hm
    unfold nextCaseNumber at hm
    split at hm
    · exact ⟨(Option.some.inj hm).symm, ‹_›⟩
    · cases hm
  refine ⟨?_, ?_, fun d hd => ?_, fun m hm => ?_, ?_, ?_, fun e he => ?_, fun d hd => ?_, ?_⟩
  · refine List.pairwise_append.mpr ⟨hnum, List.pairwise_singleton _ _, fun a ha b hb => ?_⟩
    rw [List.mem_singleton.mp hb, hn]
    exact (hbound a ha).2.2 n hnext
  · refine List.pairwise_append.mpr ⟨hcard, List.pairwise_singleton _ _, fun a ha b hb => ?_⟩
    rw [List.mem_singleton.mp hb]
    exact hnew a ha
  · rcases List.mem_append.mp hd with hd | hd
    · obtain ⟨h1, h2, h3⟩ := hbound d hd
      refine ⟨h1, h2, fun m hm => ?_⟩
      rw [(hnextVal m hm).1]
      exact Nat.lt_succ_of_lt (h3 n hnext)
    · rw [List.mem_singleton.mp hd, hn]
      refine ⟨hn1, hn2, fun m hm => ?_⟩
      rw [(hnextVal m hm).1]
      exact Nat.lt_succ_self n
  · obtain ⟨rfl, hlt⟩ := hnextVal m hm
    exact ⟨Nat.le_add_left 1 n, hlt⟩
  · rw [show (openedState n c s).cases = s.cases ++ [c] from rfl, List.length_append]
    exact hroom
  · refine insertMaster_ascends hmaster fun x hx => ?_
    obtain ⟨d, hd, rfl⟩ := hin x hx
    exact hnew d hd
  · rcases mem_insertMaster.mp he with rfl | he
    · exact ⟨c, List.mem_append_right _ List.mem_cons_self, hentry.symm⟩
    · obtain ⟨d, hd, rfl⟩ := hin e he
      exact ⟨d, List.mem_append_left _ hd, rfl⟩
  · refine mem_insertMaster.mpr ?_
    rcases List.mem_append.mp hd with hd | hd
    · exact .inr (hout d hd)
    · rw [List.mem_singleton.mp hd]
      exact .inl hentry
  · rw [show (openedState n c s).hotlist = { s.hotlist with
      master := insertMaster ⟨c.snapshot.cardNo, n, none⟩ s.hotlist.master
      pending := s.hotlist.pending ++ [⟨.add, c.snapshot.cardNo, n, false⟩] } from rfl]
    simp only [insertMaster_length, List.length_append, List.length_singleton]
    omega

/-- A published case and its master entry take the generation together. -/
theorem mem_published_iff {s : State} (h : CaseTableOk s) {c : Case} (hc : c ∈ s.cases) :
    c.number ∈ (s.hotlist.master.filter (entryPublished (packageChanges s.hotlist))).map (fun e => e.caseNo) ↔
      entryPublished (packageChanges s.hotlist) (entryOf c) = true := by
  obtain ⟨hnum, _, _, _, _, _, hin, hout, _⟩ := h
  constructor
  · intro hm
    obtain ⟨e, he, hn⟩ := List.mem_map.mp hm
    obtain ⟨he, hp⟩ := List.mem_filter.mp he
    obtain ⟨d, hd, rfl⟩ := hin e he
    rwa [eq_of_number hnum hd hc hn] at hp
  · intro hp
    exact List.mem_map.mpr ⟨entryOf c, List.mem_filter.mpr ⟨hout c hc, hp⟩, rfl⟩

/-- A case as a package's completion leaves it. -/
def published (pkg : List Change) (gen : Nat) (c : Case) : Case :=
  if entryPublished pkg (entryOf c) then { c with generation := some gen } else c

theorem published_number (pkg : List Change) (gen : Nat) (c : Case) : (published pkg gen c).number = c.number := by
  unfold published; split <;> rfl

theorem published_snapshot (pkg : List Change) (gen : Nat) (c : Case) : (published pkg gen c).snapshot = c.snapshot := by
  unfold published; split <;> rfl

theorem entryOf_published (pkg : List Change) (gen : Nat) (c : Case) :
    entryOf (published pkg gen c) = if entryPublished pkg (entryOf c) then { entryOf c with addGen := some gen } else entryOf c := by
  unfold published
  split <;> rfl

theorem completeCut_cases {s : State} (h : CaseTableOk s) :
    (completeCut s).cases = s.cases.map (published (packageChanges s.hotlist) (s.hotlist.generation + 1)) := by
  refine List.map_congr_left fun c hc => ?_
  have hiff := mem_published_iff h hc
  unfold published
  by_cases hp : entryPublished (packageChanges s.hotlist) (entryOf c) = true
  · rw [if_pos (hiff.mpr hp), if_pos hp]
  · rw [if_neg (fun hm => hp (hiff.mp hm)), if_neg hp]

theorem caseTableOk_completeCut {s : State} (h : CaseTableOk s) : CaseTableOk (completeCut s) := by
  have hcases := completeCut_cases h
  obtain ⟨hnum, hcard, hbound, hnext, hlen, hmaster, hin, hout, hpend⟩ := h
  generalize hpkg : packageChanges s.hotlist = pkg at hcases
  generalize hgen : s.hotlist.generation + 1 = gen at hcases
  have hm : (completeCut s).hotlist.master =
      s.hotlist.master.map fun e => if entryPublished pkg e then { e with addGen := some gen } else e := by
    rw [← hpkg, ← hgen]; rfl
  have hcardNo : ∀ e : MasterEntry, (if entryPublished pkg e then { e with addGen := some gen } else e).cardNo = e.cardNo := by
    intro e; split <;> rfl
  unfold CaseTableOk
  rw [hcases, hm]
  refine ⟨?_, ?_, fun d hd => ?_, hnext, by rwa [List.length_map], ?_, fun e he => ?_, fun d hd => ?_, ?_⟩
  · exact List.pairwise_map.mpr (hnum.imp fun {a b} hab => by rw [published_number, published_number]; exact hab)
  · exact List.pairwise_map.mpr (hcard.imp fun {a b} hab => by rw [published_snapshot, published_snapshot]; exact hab)
  · obtain ⟨c, hc, rfl⟩ := List.mem_map.mp hd
    rw [published_number]
    exact hbound c hc
  · exact List.pairwise_map.mpr (hmaster.imp fun {a b} hab => by rw [hcardNo, hcardNo]; exact hab)
  · obtain ⟨x, hx, rfl⟩ := List.mem_map.mp he
    obtain ⟨c, hc, rfl⟩ := hin x hx
    exact ⟨published pkg gen c, List.mem_map_of_mem hc, (entryOf_published pkg gen c).symm⟩
  · obtain ⟨c, hc, rfl⟩ := List.mem_map.mp hd
    rw [entryOf_published]
    exact List.mem_map_of_mem (f := fun e => if entryPublished pkg e then { e with addGen := some gen } else e) (hout c hc)
  · rw [List.length_map]
    exact Nat.le_trans (Nat.add_le_add_right (List.length_filter_le _ _) _) hpend

theorem caseTableOk_takeUpStore {s : State} (h : CaseTableOk s) : CaseTableOk (takeUpStore s) := by
  have hjobs : CaseTableOk { s with cases := s.cases.map fun c => { c with job := none } } :=
    caseTableOk_map (f := fun c => { c with job := none }) rfl (fun _ _ => rfl) rfl rfl h
  obtain ⟨h1, h2, h3, h4, h5, h6, h7, h8, hpend⟩ := hjobs
  refine ⟨h1, h2, h3, h4, h5, h6, h7, h8, Nat.le_trans (Nat.add_le_add_right ?_ _) hpend⟩
  rw [show (takeUpStore s).hotlist.pending = List.map _ _ from rfl, List.length_map]
  exact List.length_filter_le _ _

theorem caseTableOk_of_moves {i : Instr} {s t : State} (hs : CaseTableOk s) (h : Moves s i t) : CaseTableOk t := by
  cases h with
  | opened _ hnew hroom hnext hlist => exact caseTableOk_opened rfl rfl hnew hroom hnext hlist hs
  | @started _ kind p n c attempts =>
    refine caseTableOk_map (startedState_cases kind p n attempts) (fun c _ => ?_) rfl rfl hs
    split <;> rfl
  | @owned _ f _ => exact caseTableOk_map (f := fun c => { c with owner := f c }) rfl (fun _ _ => rfl) rfl rfl hs
  | package => exact caseTableOk_completeCut hs
  | @restart _ kind _ =>
    refine caseTableOk_takeUpStore ?_
    rcases restartClock_parts kind s with ⟨hc, hn, hh, _, _, _⟩ | ⟨e, _⟩
    · exact caseTableOk_congr hc hn (by rw [hh]) (by rw [hh]) hs
    · rw [e]
      exact caseTableOk_of_erased rfl rfl rfl rfl

/-- Settles O8: the cases change together with their master entries, and every command leaves room for the REMOVEs. -/
theorem caseTableStaysSound : Obligations.CaseTableStaysSound := fun _ _ hs h =>
  step_keeps_of_moves (fun _ _ h => h) (fun _ _ _ => caseTableOk_of_moves) (fun _ _ hs hk => hk.table hs) hs h

/-! ### O9: states, settlements and chains -/

/-- A case that comes from one of the table, or is new, keeps R18 and R44. -/
theorem caseRecords_of_moves {i : Instr} {s t : State} (hst : CaseStatesOk s) (hch : ChainsOk s) (h : Moves s i t) :
    CaseStatesOk t ∧ ChainsOk t := by
  have hmap {f : Case → Case} (hf : ∀ c, (CaseStateOk c → CaseStateOk (f c)) ∧ (ChainOk c → ChainOk (f c))) {t : State}
      (ht : t.cases = s.cases.map f) : CaseStatesOk t ∧ ChainsOk t := by
    refine ⟨fun d hd => ?_, fun d hd => ?_⟩ <;> rw [ht] at hd <;> obtain ⟨c, hc, rfl⟩ := List.mem_map.mp hd
    · exact (hf c).1 (hst c hc)
    · exact (hf c).2 (hch c hc)
  cases h with
  | opened =>
    refine ⟨fun d hd => ?_, fun d hd => ?_⟩ <;> rcases List.mem_append.mp hd with hd | hd
    · exact hst d hd
    · rw [List.mem_singleton.mp hd]
      exact ⟨rfl, rfl⟩
    · exact hch d hd
    · rw [List.mem_singleton.mp hd]
      exact ⟨.nil, Nat.zero_le _, fun _ h => (List.not_mem_nil h).elim, Nat.le_refl _, Nat.zero_le _, Nat.zero_le _, Nat.zero_le _, Nat.zero_le _,
        Nat.zero_le _⟩
  | @started _ kind p n c attempts _ _ _ _ _ hatt =>
    refine hmap (fun c => ?_) (startedState_cases kind p n attempts)
    split
    · refine ⟨id, fun ⟨h1, h2, h3, h4, h5, h6, h7, h8, h9⟩ => ⟨h1, h2, h3, h4, h5, h6, h7, h8, ?_⟩⟩
      rcases hatt c with e | e
      · exact e.trans_le h9
      · exact e
    · exact ⟨id, id⟩
  | @owned _ f _ => exact hmap (f := fun c => { c with owner := f c }) (fun c => ⟨id, id⟩) rfl
  | package =>
    refine hmap (fun c => ?_) rfl
    split
    · exact ⟨id, id⟩
    · exact ⟨id, id⟩
  | @restart _ kind _ =>
    rcases restartClock_parts kind s with ⟨hc, _, _, _, _, _⟩ | ⟨e, _⟩
    · exact hmap (f := fun c => { c with job := none }) (fun c => ⟨id, id⟩) ((takeUpStore_cases _).trans (by rw [hc]))
    · have hnone : (takeUpStore (restartClock kind s)).cases = [] := by rw [e]; rfl
      refine ⟨fun d hd => ?_, fun d hd => ?_⟩ <;> rw [hnone] at hd <;> cases hd

/-- Settles O9: R18 and R44 hold of a new case, and no operation on a case breaks them. -/
theorem caseRecordsStaySound : Obligations.CaseRecordsStaySound := by
  intro s t htable hst hch h
  have hall : CaseTableOk t ∧ CaseStatesOk t ∧ ChainsOk t := by
    refine step_keeps_of_moves (P := fun s => CaseTableOk s ∧ CaseStatesOk s ∧ ChainsOk s) (fun _ _ h => h)
      (fun i s t ⟨h1, h2, h3⟩ hm => ⟨caseTableOk_of_moves h1 hm, caseRecords_of_moves h2 h3 hm⟩) (fun s t ⟨h1, h2, h3⟩ hk => ?_)
      ⟨htable, hst, hch⟩ h
    refine ⟨hk.table h1, fun d hd => ?_, fun d hd => ?_⟩ <;> obtain ⟨c, hc, he⟩ := hk.evolves h1.rise d hd
    · exact he.state (h2 c hc)
    · exact he.chain (h3 c hc)
  exact hall.2

/-! ### O13: jobs -/

/-- The match of ports and cases when a job is created on a free port for a case without one. -/
theorem jobsOk_started {s : State} {kind : JobKind} {p : Port} {n : Nat} {c : Case} {attempts : Case → Nat} (hs : NumbersRise s)
    (hc : s.findCase n = some c) (hjob : c.job = none) (hkind : kind = .recover → c.state ≠ .settled)
    (hport : (s.port p).job = none) (h : JobsOk s) : JobsOk (startedState kind p n attempts s) := by
  have hjobAt (q : Port) : ((startedState kind p n attempts s).port q).job = if q = p then some (newJob kind n) else (s.port q).job := by
    rw [startedState_port]
    split <;> rfl
  refine ⟨fun q j hj => ?_, fun d hd k q hdj => ?_⟩
  · rw [startedState_cases]
    rw [hjobAt] at hj
    split at hj
    · subst q
      cases hj
      refine ⟨{ c with job := some (jobName kind, p), attempts := attempts c }, List.mem_map.mpr ⟨c, findCase_mem hc, ?_⟩,
        findCase_number (c := c) hc, rfl, hkind⟩
      rw [if_pos (findCase_number hc)]
    · obtain ⟨d, hd, h1, h2, h3⟩ := h.1 q j hj
      refine ⟨d, List.mem_map.mpr ⟨d, hd, if_neg fun e => ?_⟩, h1, h2, h3⟩
      rw [eq_of_found hs hc hd e, hjob] at h2
      cases h2
  · rw [startedState_cases] at hd
    obtain ⟨e, he, rfl⟩ := List.mem_map.mp hd
    by_cases hn : e.number = n
    · rw [if_pos hn] at hdj ⊢
      cases hdj
      exact ⟨newJob kind n, (hjobAt p).trans (if_pos rfl), hn.symm, rfl⟩
    · rw [if_neg hn] at hdj ⊢
      obtain ⟨j, hj, h1, h2⟩ := h.2 e he k q hdj
      refine ⟨j, (hjobAt q).trans ((if_neg fun hq => ?_).trans hj), h1, h2⟩
      subst q
      rw [hport] at hj
      cases hj

theorem jobsOk_of_moves {i : Instr} {s t : State} (htable : CaseTableOk s) (hs : JobsOk s) (h : Moves s i t) : JobsOk t := by
  cases h with
  | opened =>
    refine ⟨fun p j hj => ?_, fun d hd k p hdj => ?_⟩
    · obtain ⟨c, hc, h1⟩ := hs.1 p j hj
      exact ⟨c, List.mem_append_left _ hc, h1⟩
    · rcases List.mem_append.mp hd with hd | hd
      · exact hs.2 d hd k p hdj
      · rw [List.mem_singleton.mp hd] at hdj
        cases hdj
  | started hc hjob hkind hport => exact jobsOk_started htable.rise hc hjob hkind hport hs
  | @owned _ f _ =>
    exact jobsOk_map (f := fun c => { c with owner := f c }) rfl (fun _ _ => rfl) (fun _ _ => rfl) (fun _ _ _ => rfl) (fun _ => rfl) hs
  | package =>
    refine jobsOk_map (completeCut_cases htable) (fun c _ => published_number _ _ c) (fun c _ => ?_) (fun c _ _ => ?_) (fun _ => rfl) hs
    · unfold published; split <;> rfl
    · unfold published; split <;> rfl
  | restart =>
    refine ⟨fun p j hj => ?_, fun d hd k p hdj => ?_⟩
    · rw [takeUpStore_port] at hj
      cases hj
    · rw [takeUpStore_cases] at hd
      obtain ⟨c, _, rfl⟩ := List.mem_map.mp hd
      cases hdj

/-- Settles O13: a job appears and goes in its port and its case together. -/
theorem jobsStayMatched : Obligations.JobsStayMatched := by
  intro s t htable hjobs h
  have hboth : CaseTableOk t ∧ JobsOk t :=
    step_keeps_of_moves (P := fun s => CaseTableOk s ∧ JobsOk s) (fun _ _ h => h)
      (fun _ _ _ ⟨h1, h2⟩ hm => ⟨caseTableOk_of_moves h1 hm, jobsOk_of_moves h1 h2 hm⟩)
      (fun _ _ ⟨h1, h2⟩ hk => ⟨hk.table h1, hk.jobs h1.rise h2⟩) ⟨htable, hjobs⟩ h
  exact hboth.2

/-! ### O16: the counters -/

theorem moves_counters {i : Instr} {s t : State} (h : Moves s i t) (hi : ¬ (i = .restart ∧ s.terminal.restartDue = some .deviceErase)) :
    (t.hotlist.generation = s.hotlist.generation ∨
      (i = .hotlistGrantCompletion ∧ t.hotlist.generation = s.hotlist.generation + 1)) ∧
    (t.nextCase = s.nextCase ∨
      ∃ r n, i = .caseOpen r ∧ s.nextCase = some n ∧ t.nextCase = if n < 4294967295 then some (n + 1) else none) := by
  cases h with
  | @opened r _ _ n _ _ _ _ hnext => exact ⟨.inl rfl, .inr ⟨r, n, rfl, hnext, rfl⟩⟩
  | started => exact ⟨.inl rfl, .inl rfl⟩
  | owned => exact ⟨.inl rfl, .inl rfl⟩
  | package => exact ⟨.inr ⟨rfl, rfl⟩, .inl rfl⟩
  | @restart _ kind hr =>
    rcases restartClock_parts kind s with ⟨_, hn, hh, _, _, _⟩ | ⟨_, rfl⟩
    · have hgen : (restartClock kind s).hotlist.generation = s.hotlist.generation := by rw [hh]
      exact ⟨.inl hgen, .inl hn⟩
    · cases hr with
      | due hdue => exact absurd ⟨rfl, hdue⟩ hi

/-- Settles O16: the shared operations leave both counters; CASE OPEN and the package's completion move them by one. -/
theorem countersOnlyRise : Obligations.CountersOnlyRise := by
  intro i s t h hi
  obtain ⟨u, hu, hk⟩ := (does_of_exec h).moves
  rw [hk.generation, hk.nextCase]
  rcases hu with rfl | hu
  · exact ⟨.inl rfl, .inl rfl⟩
  · exact moves_counters hu hi

/-! ### O17 and O18: cases across a command -/

/-- The change of a whole command leaves state and settlement of a case, and a job that the case had. -/
theorem moves_case {i : Instr} {s t : State} (htable : CaseTableOk s) (h : Moves s i t) {c d : Case} (hc : c ∈ s.cases) (hd : d ∈ t.cases)
    (hn : d.number = c.number) : d.state = c.state ∧ d.settlement = c.settlement := by
  have hmap {f : Case → Case} (hf : ∀ e, (f e).number = e.number ∧ (f e).state = e.state ∧ (f e).settlement = e.settlement)
      (ht : t.cases = s.cases.map f) : d.state = c.state ∧ d.settlement = c.settlement := by
    rw [ht] at hd
    obtain ⟨e, he, rfl⟩ := List.mem_map.mp hd
    rw [← eq_of_number htable.1 he hc ((hf e).1.symm.trans hn)]
    exact (hf e).2
  cases h with
  | opened _ _ _ hnext =>
    rcases List.mem_append.mp hd with hd | hd
    · rw [eq_of_number htable.1 hd hc hn]
      exact ⟨rfl, rfl⟩
    · obtain ⟨_, _, hlt⟩ := htable.2.2.1 c hc
      rw [List.mem_singleton.mp hd] at hn
      exact absurd hn (Nat.ne_of_gt (hlt _ hnext))
  | @started _ kind p n _ attempts => exact hmap (fun e => by split <;> exact ⟨rfl, rfl, rfl⟩) (startedState_cases kind p n attempts)
  | @owned _ f _ => exact hmap (f := fun c => { c with owner := f c }) (fun e => ⟨rfl, rfl, rfl⟩) rfl
  | package => exact hmap (fun e => by unfold published; split <;> exact ⟨rfl, rfl, rfl⟩) (completeCut_cases htable)
  | @restart _ kind _ =>
    rcases restartClock_parts kind s with ⟨hcases, _, _, _, _, _⟩ | ⟨e, _⟩
    · exact hmap (f := fun c => { c with job := none }) (fun e => ⟨rfl, rfl, rfl⟩) ((takeUpStore_cases _).trans (by rw [hcases]))
    · rw [e] at hd
      cases hd

/-- A case of the table after the command's own change, and the case it was. -/
theorem moves_case_or {i : Instr} {s u : State} (htable : CaseTableOk s) (hu : u = s ∨ Moves s i u) {c d : Case} (hc : c ∈ s.cases)
    (hd : d ∈ u.cases) (hn : d.number = c.number) : d.state = c.state ∧ d.settlement = c.settlement := by
  rcases hu with rfl | hu
  · rw [eq_of_number htable.1 hd hc hn]
    exact ⟨rfl, rfl⟩
  · exact moves_case htable hu hc hd hn

/-- Settles O17: a case that has a job after the operations had it before them, in the same state. -/
theorem aJobKeepsTheState : Obligations.AJobKeepsTheState := by
  intro i s t htable h c hc _ d hd hn hdj
  obtain ⟨u, hu, hk⟩ := (does_of_exec h).moves
  have hrise : NumbersRise u := by
    rcases hu with rfl | hu
    · exact htable.rise
    · exact (caseTableOk_of_moves htable hu).rise
  obtain ⟨e, he, hev⟩ := hk.evolves hrise d hd
  exact (hev.job hdj).2.trans (moves_case_or htable hu hc he (hev.number.symm.trans hn)).1

/-- Settles O18: what the operations make of a SETTLED case has its figures. -/
theorem settledFiguresStayFixed : Obligations.SettledFiguresStayFixed := by
  intro i s t htable hjobs h c hc f hcs hcf d hd hn
  obtain ⟨u, hu, hk⟩ := (does_of_exec h).moves
  have hboth : NumbersRise u ∧ JobsOk u := by
    rcases hu with rfl | hu
    · exact ⟨htable.rise, hjobs⟩
    · exact ⟨(caseTableOk_of_moves htable hu).rise, jobsOk_of_moves htable hjobs hu⟩
  obtain ⟨e, he, hset⟩ := hk.settled hboth.1 hboth.2 d hd
  obtain ⟨hes, hef⟩ := moves_case_or htable hu hc he (hset.number.symm.trans hn)
  obtain ⟨hds, hfig⟩ := hset.settled (hes.trans hcs)
  obtain ⟨g, hg, hsame⟩ := hfig f (hef.trans hcf)
  exact ⟨hds, g, hg, hsame⟩

end Sys2Proof.Machine
end

section
/-! PROOF. The invariants of the terminal port, the channels and the clock (O5, O6), and the rule of the clock over all commands (O15). -/

namespace Sys2Proof.Machine

/-! ### O5: the terminal port and the channels -/

theorem satSucc_le (n m : Nat) : satSucc n m ≤ n := by
  unfold satSucc
  omega

/-- What a taken request leaves of the receive buffer. -/
theorem behindFrame_some {f : Frame} {t : Terminal} {rest : List BufferPlace} (h : behindFrame f t = some rest) :
    t.restartDue = none ∧ (t.buffer = [] ∧ rest = [] ∨ ∃ g, t.buffer = ⟨g, none⟩ :: rest) := by
  unfold behindFrame at h
  split at h
  · cases h
  · rename_i hdue
    refine ⟨by simpa using hdue, ?_⟩
    split at h
    · rename_i hb
      cases h
      exact .inl ⟨hb, rfl⟩
    · rename_i g rest' hb
      split at h
      · cases h
        exact .inr ⟨g, hb⟩
      · cases h
    · cases h

/-- An answer at the head of the buffer. -/
theorem terminalOk_placeAnswer {f : Frame} {rest : List BufferPlace} {s t : State} (reply : Reply)
    (hb : behindFrame f s.terminal = some rest) (ht : t.terminal = s.terminal) (h : TerminalOk s) :
    TerminalOk (placeAnswer f rest reply t) := by
  obtain ⟨hdue, hbuf⟩ := behindFrame_some hb
  obtain ⟨hlen, htail, _, herr, hover⟩ := h
  have hrest : rest.length ≤ 1 ∧ ∀ pl ∈ rest, pl.answer = none := by
    rcases hbuf with ⟨_, rfl⟩ | ⟨g, e⟩
    · exact ⟨Nat.zero_le _, fun _ h => (List.not_mem_nil h).elim⟩
    · rw [e] at hlen htail
      exact ⟨Nat.le_of_succ_le_succ hlen, htail⟩
  unfold TerminalOk
  rw [placeAnswer_terminal, ht]
  exact ⟨Nat.succ_le_succ hrest.1, hrest.2, fun hne => absurd hdue hne, herr, hover⟩

theorem terminalOk_line {f : Terminal → Terminal} (hf : LineEvent f) {s : State} (h : TerminalOk s) : TerminalOk (s.modTerminal f) := by
  obtain ⟨hlen, htail, hdue, herr, hover⟩ := h
  have herror : TerminalOk (s.modTerminal countFrameError) := ⟨hlen, htail, hdue, satSucc_le _ _, hover⟩
  cases hf with
  | received x =>
    cases x with
    | incomplete => exact ⟨hlen, htail, hdue, herr, hover⟩
    | error => exact herror
    | frame fr =>
      unfold TerminalOk State.modTerminal takeReception bufferFrame
      dsimp only
      split
      · rename_i hroom
        refine ⟨?_, fun pl hpl => ?_, fun hne pl hpl => ?_, herr, hover⟩
        · rw [List.length_append]
          exact hroom
        · cases hb : s.terminal.buffer with
          | nil =>
            rw [hb] at hpl
            cases hpl
          | cons x l =>
            rw [hb] at hpl htail
            rcases List.mem_append.mp hpl with hpl | hpl
            · exact htail pl hpl
            · rw [List.mem_singleton.mp hpl]
        · rcases List.mem_append.mp hpl with hpl | hpl
          · exact hdue hne pl hpl
          · rw [List.mem_singleton.mp hpl]
      · exact ⟨hlen, htail, hdue, herr, satSucc_le _ _⟩
  | error => exact herror
  | sent =>
    unfold TerminalOk State.modTerminal finishAnswer
    dsimp only
    split
    · rename_i g a rest hb
      rw [hb] at hlen htail
      exact ⟨Nat.le_of_succ_le hlen, fun pl hpl => htail pl (List.mem_of_mem_tail hpl), fun _ => htail, herr, hover⟩
    · exact ⟨hlen, htail, hdue, herr, hover⟩

theorem terminalOk_congr {s t : State} (ht : t.terminal = s.terminal) (h : TerminalOk s) : TerminalOk t := by
  unfold TerminalOk at *
  rw [ht]
  exact h

theorem Does.terminalOk {i : Instr} {s t : State} (hs : TerminalOk s) (h : Does s i t) : TerminalOk t := by
  cases h with
  | idle => exact hs
  | refused st hb => exact terminalOk_placeAnswer _ hb rfl hs
  | handled hr =>
    obtain ⟨⟨hb, _⟩, _⟩ := hr
    exact terminalOk_placeAnswer _ hb ((stampFloor_terminal _ _).trans (handlerOf_handled _ _ _ s).terminal) hs
  | line hf => exact terminalOk_line hf hs
  | restart =>
    unfold TerminalOk
    rw [stampFloor_terminal, restartDevice_terminal]
    exact ⟨Nat.zero_le _, fun _ h => (List.not_mem_nil h).elim, fun h => absurd rfl h, Nat.zero_le _, Nat.zero_le _⟩
  | tick => exact terminalOk_congr ((stampFloor_terminal _ _).trans (rolloverTest_terminal _)) hs
  | floor => exact hs
  | coupler _ hw => exact terminalOk_congr ((stampFloor_terminal _ _).trans (terminal_of_base (hw.base s))) hs
  | window p => exact terminalOk_congr ((stampFloor_terminal _ _).trans (expireWindow_terminal _ _)) hs
  | package => exact terminalOk_congr ((stampFloor_terminal _ _).trans (terminal_of_base (completePackage_base _ _))) hs
  | statement =>
    exact terminalOk_congr ((stampFloor_terminal _ _).trans
      ((terminal_of_base (releaseStatement_base _)).trans (completeStatement_terminal _ _))) hs

theorem channelsOk_of_moves {i : Instr} {s t : State} (hs : ChannelsOk s) (h : Moves s i t) : ChannelsOk t := by
  cases h with
  | opened => exact hs
  | started => exact hs
  | owned => exact hs
  | package => exact hs
  | restart =>
    intro c
    rw [show (takeUpStore (restartClock _ s)).channels[c] = Channel.empty from Vector.getElem_replicate _]
    exact ⟨Nat.zero_le _, Nat.zero_le _, fun h => absurd h (Nat.lt_irrefl 0)⟩

/-- Settles O5: the terminal port changes at an answer and at a line event alone, a channel at a report and at a fetch. -/
theorem terminalAndChannelsStaySound : Obligations.TerminalAndChannelsStaySound := fun _ _ ht hc h =>
  ⟨step_keeps (fun _ _ h => h) (fun _ _ _ => Does.terminalOk) ht h,
    step_keeps_of_moves (fun _ _ h => h) (fun _ _ _ => channelsOk_of_moves) (fun _ _ hs hk => hk.channels hs) hc h⟩

/-! ### The clock's work -/

theorem beNat_append_lt (l : List Byte) (a : Nat) : l.foldl (fun a b => a * 256 + b.toNat) a < (a + 1) * 256 ^ l.length := by
  induction l generalizing a with
  | nil => simp
  | cons b l ih =>
    have hb : b.toNat < 256 := b.isLt
    refine Nat.lt_of_lt_of_le (ih (a * 256 + b.toNat)) ?_
    rw [List.length_cons, Nat.pow_succ, Nat.mul_comm (256 ^ l.length), ← Nat.mul_assoc]
    exact Nat.mul_le_mul_right _ (by omega)

/-- A field of `n` bytes stays below 256 to the power `n`. -/
theorem fieldAt_lt (off n : Nat) (l : List Byte) : fieldAt off n l < 256 ^ n := by
  have h := beNat_append_lt ((l.drop off).take n) 0
  refine Nat.lt_of_lt_of_le h ?_
  rw [Nat.zero_add, Nat.one_mul]
  exact Nat.pow_le_pow_right (by decide) (by simp)

/-- What a command's work makes of clock and settings, before the floor follows a changed case. -/
inductive ClockWork (s : State) : Instr → Clock → Settings → Prop
  | kept {i : Instr} : ClockWork s i s.clock s.settings
  | set {i : Instr} {t : Nat} (ht : t ≤ max32) (hfloor : s.clock.floor ≤ t) (hnow : ∀ now, s.clock.second = some now → now ≤ t) :
      ClockWork s i (dayAfter ⟨some t, t, 0, s.clock.announcedDay⟩ s.settings.rolloverMinute) s.settings
  | stored {i : Instr} (v : Settings) : ClockWork s i (dayAfter s.clock v.rolloverMinute) v
  | restart {i : Instr} {kind : RestartKind} (hi : Restarts s i kind) :
      ClockWork s i (restartClock kind s).clock (restartClock kind s).settings
  | tick {i : Instr} {now : Nat} (hnow : s.clock.second = some now) :
      ClockWork s i (dayAfter (tickClock (writeFloor s.clock)) s.settings.rolloverMinute) s.settings
  | floor {i : Instr} : ClockWork s i (writeFloor s.clock) s.settings

theorem Handled.clockWork {l : LinkId} {b : List Byte} {s t : State} {k : Kind} {reply : Reply} {i : Instr}
    (h : Handled l b s k t reply) : ClockWork s i t.clock t.settings := by
  by_cases h1 : k = .timeSet
  · subst h1
    cases h with
    | refused => exact .kept
    | read => exact .kept
    | timeSet ht =>
      rcases setTime_cases s (fieldAt 0 4 b) with ⟨_, e⟩ | ⟨_, e⟩ <;> rw [e]
      · exact .kept
      · rw [moveClock_clock, moveClock_settings]
        have hlt := fieldAt_lt 0 4 b
        simp only [timeBackward, Bool.or_eq_false_iff, decide_eq_false_iff_not, Nat.not_lt] at ht
        refine .set (Nat.le_of_lt_succ hlt) ht.1 fun now hnow => ?_
        have := ht.2
        rw [hnow] at this
        simpa using this
  · by_cases h2 : k = .settingsSet
    · subst h2
      cases h with
      | refused => exact .kept
      | read => exact .kept
      | settingsStored =>
        rw [storeSettings_clock, storeSettings_settings]
        exact .stored _
    · rw [h.clock h1 h2, h.settings h2]
      exact .kept

/-- Every command does one work on clock and settings, and then lets the floor follow a changed case. -/
theorem Does.clockWork {i : Instr} {s t : State} (h : Does s i t) :
    ∃ u, ClockWork s i u.clock u.settings ∧ t.clock = (stampFloor s u).clock ∧ t.settings = u.settings ∧ t.cases = u.cases := by
  have kept {u : State} (hb : u.base = s.base) : ClockWork s i u.clock u.settings := by
    rw [clock_of_base hb, settings_of_base hb]
    exact .kept
  cases h with
  | idle => exact ⟨s, .kept, by rw [stampFloor_self], rfl, rfl⟩
  | refused => exact ⟨s, .kept, by rw [stampFloor_self]; rfl, rfl, rfl⟩
  | handled => exact ⟨_, (handlerOf_handled _ _ _ s).clockWork, rfl, stampFloor_settings _ _, stampFloor_cases_eq _ _⟩
  | line => exact ⟨s, .kept, by rw [stampFloor_self]; rfl, rfl, rfl⟩
  | restart hi =>
    refine ⟨_, ?_, rfl, stampFloor_settings _ _, stampFloor_cases_eq _ _⟩
    rw [restartDevice_clock, restartDevice_settings]
    exact .restart hi
  | tick hc =>
    refine ⟨_, ?_, rfl, stampFloor_settings _ _, stampFloor_cases_eq _ _⟩
    rw [rolloverTest_clock, rolloverTest_settings]
    exact .tick hc
  | floor =>
    exact ⟨s.modClock writeFloor, .floor, (congrArg State.clock (stampFloor_of_cases s (s.modClock writeFloor) rfl)).symm, rfl, rfl⟩
  | coupler _ hw => exact ⟨_, kept (hw.base s), rfl, stampFloor_settings _ _, stampFloor_cases_eq _ _⟩
  | window => exact ⟨_, kept (expireWindow_base _ _), rfl, stampFloor_settings _ _, stampFloor_cases_eq _ _⟩
  | package => exact ⟨_, kept (completePackage_base _ _), rfl, stampFloor_settings _ _, stampFloor_cases_eq _ _⟩
  | statement =>
    exact ⟨_, kept ((releaseStatement_base _).trans (completeStatement_base _ _)), rfl, stampFloor_settings _ _,
      stampFloor_cases_eq _ _⟩

/-! ### O6: the clock -/

/-- R191 of a clock under a rollover minute. -/
def ClockSound (c : Clock) (minute : Nat) : Prop :=
  c.floorAge ≤ 600 ∧ ∀ t, c.second = some t →
    t ≤ max32 ∧ c.floor ≤ t ∧ t ≤ c.floor + c.floorAge ∧ computedDay t minute ≤ c.announcedDay

/-- A clock whose second and floor are sound is sound once its day is announced. -/
theorem clockSound_dayAfter {c : Clock} (minute : Nat)
    (h : c.floorAge ≤ 600 ∧ ∀ t, c.second = some t → t ≤ max32 ∧ c.floor ≤ t ∧ t ≤ c.floor + c.floorAge) :
    ClockSound (dayAfter c minute) minute := by
  refine ⟨h.1, fun t ht => ?_⟩
  obtain ⟨h1, h2, h3⟩ := h.2 t ht
  refine ⟨h1, h2, h3, ?_⟩
  rw [show c.second = some t from ht] at *
  simp only [dayAfter, show c.second = some t from ht]
  exact Nat.le_max_right _ _

theorem writeFloor_of_due {c : Clock} {now : Nat} (hnow : c.second = some now) (h : 600 ≤ c.floorAge) :
    writeFloor c = { c with floor := now, floorAge := 0 } := by
  simp [writeFloor, floorDue, hnow, h]

theorem writeFloor_of_not_due {c : Clock} (h : ¬ (c.second.isSome ∧ 600 ≤ c.floorAge)) : writeFloor c = c := by
  simp only [writeFloor, floorDue, h, decide_false, Bool.false_eq_true, if_false]

/-- A floor write is not due, or brings the floor to the second. -/
theorem writeFloor_cases (c : Clock) :
    writeFloor c = c ∧ (∀ now, c.second = some now → c.floorAge < 600) ∨
      ∃ now, c.second = some now ∧ writeFloor c = { c with floor := now, floorAge := 0 } := by
  by_cases h : c.second.isSome ∧ 600 ≤ c.floorAge
  · obtain ⟨now, hnow⟩ := Option.isSome_iff_exists.mp h.1
    exact .inr ⟨now, hnow, writeFloor_of_due hnow h.2⟩
  · refine .inl ⟨writeFloor_of_not_due h, fun now hnow => ?_⟩
    by_contra hage
    exact h ⟨by rw [hnow]; rfl, Nat.not_lt.mp hage⟩

theorem tickClock_second {c : Clock} {now : Nat} (h : c.second = some now) :
    (tickClock c).second = some (min max32 (now + 1)) := by
  rw [tickClock, h]
  rfl

theorem ClockWork.sound {s : State} {i : Instr} {c : Clock} {v : Settings} (h : ClockWork s i c v) (hs : ClockOk s) :
    ClockSound c v.rolloverMinute := by
  obtain ⟨hage, hclock⟩ := hs
  cases h with
  | kept => exact ⟨hage, hclock⟩
  | set ht =>
    refine clockSound_dayAfter _ ⟨Nat.zero_le _, fun u hu => ?_⟩
    cases hu
    exact ⟨ht, Nat.le_refl _, Nat.le_refl _⟩
  | stored =>
    refine clockSound_dayAfter _ ⟨hage, fun u hu => ?_⟩
    obtain ⟨h1, h2, h3, _⟩ := hclock u hu
    exact ⟨h1, h2, h3⟩
  | @restart kind _ =>
    cases kind with
    | powerOn => exact ⟨Nat.zero_le _, fun _ h => by cases h⟩
    | deviceReset => exact ⟨hage, hclock⟩
    | deviceErase => exact ⟨Nat.zero_le _, fun _ h => by cases h⟩
  | tick hnow =>
    obtain ⟨h1, h2, h3, _⟩ := hclock _ hnow
    rcases writeFloor_cases s.clock with ⟨e, hlt⟩ | ⟨m, hm, e⟩ <;> rw [e] <;> refine clockSound_dayAfter _ ⟨?_, fun u hu => ?_⟩
    · exact hlt _ hnow
    · rw [tickClock_second hnow] at hu
      cases hu
      exact ⟨Nat.min_le_left _ _, by simp only [tickClock]; omega, by simp only [tickClock]; omega⟩
    · exact Nat.le_of_ble_eq_true rfl
    · rw [hnow] at hm
      cases hm
      rw [tickClock_second (c := { s.clock with floor := _, floorAge := 0 }) hnow] at hu
      cases hu
      exact ⟨Nat.min_le_left _ _, by simp only [tickClock]; omega, by simp only [tickClock]; omega⟩
  | floor =>
    rcases writeFloor_cases s.clock with ⟨e, _⟩ | ⟨m, hm, e⟩ <;> rw [e]
    · exact ⟨hage, hclock⟩
    · refine ⟨Nat.zero_le _, fun u hu => ?_⟩
      cases hm.symm.trans hu
      obtain ⟨h1, _, _, h4⟩ := hclock _ hu
      exact ⟨h1, Nat.le_refl _, Nat.le_refl _, h4⟩

/-- The stamp of the floor keeps a clock sound. -/
theorem clockSound_stampFloor {s u : State} {minute : Nat} (h : ClockSound u.clock minute) :
    ClockSound (stampFloor s u).clock minute := by
  rcases stampFloor_cases s u with e | ⟨n, hn, _, e⟩ <;> rw [e]
  · exact h
  · refine ⟨Nat.zero_le _, fun t ht => ?_⟩
    cases hn.symm.trans ht
    obtain ⟨h1, _, _, h4⟩ := h.2 _ ht
    exact ⟨h1, Nat.le_refl _, Nat.le_refl _, h4⟩

/-- Settles O6: each work on the clock leaves it sound, and so does the stamp of the floor. -/
theorem clockStaysSound : Obligations.ClockStaysSound := fun _ _ hs h => by
  refine step_keeps (P := ClockOk) (fun _ _ h => h) (fun i s t hs hd => ?_) hs h
  obtain ⟨u, hw, hclock, hset, _⟩ := hd.clockWork
  have hsound := clockSound_stampFloor (s := s) (hw.sound hs)
  unfold ClockSound at hsound
  unfold ClockOk
  rw [hclock, hset]
  exact hsound

/-! ### O15: the clock, the floor and the announced day -/

/-- What a work does to the clock that a sound clock stood at: nothing falls but by a restart. -/
theorem ClockWork.rises {s : State} {i : Instr} {c : Clock} {v : Settings} (h : ClockWork s i c v) (hs : ClockOk s) :
    (∀ a b, s.clock.second = some a → c.second = some b → a ≤ b) ∧
      (s.clock.second.isSome = true → c.second = none →
        i = .powerOn ∨ i = .nrstRelease ∨ (i = .restart ∧ s.terminal.restartDue ≠ some .deviceReset)) ∧
      ((i = .restart ∧ s.terminal.restartDue = some .deviceErase) ∨
        (s.clock.floor ≤ c.floor ∧ s.clock.announcedDay ≤ c.announcedDay)) := by
  obtain ⟨_, hclock⟩ := hs
  have hday (c : Clock) (minute : Nat) : c.announcedDay ≤ (dayAfter c minute).announcedDay := by
    unfold dayAfter
    cases c.second
    · exact Nat.le_refl _
    · exact Nat.le_max_left _ _
  have same {c : Clock} (hc : c.second = s.clock.second) : (∀ a b, s.clock.second = some a → c.second = some b → a ≤ b) ∧
      (s.clock.second.isSome = true → c.second = none →
        i = .powerOn ∨ i = .nrstRelease ∨ (i = .restart ∧ s.terminal.restartDue ≠ some .deviceReset)) := by
    refine ⟨fun a b ha hb => ?_, fun h hn => ?_⟩
    · rw [hc, ha] at hb
      exact Nat.le_of_eq (Option.some.inj hb)
    · rw [← hc, hn] at h
      cases h
  cases h with
  | kept => exact ⟨(same rfl).1, (same rfl).2, .inr ⟨Nat.le_refl _, Nat.le_refl _⟩⟩
  | set _ hfloor hnow =>
    refine ⟨fun a b ha hb => ?_, fun _ hn => (by cases hn), .inr ⟨hfloor, hday ⟨_, _, 0, s.clock.announcedDay⟩ _⟩⟩
    cases hb
    exact hnow a ha
  | stored v => exact ⟨(same rfl).1, (same rfl).2, .inr ⟨Nat.le_refl _, hday s.clock _⟩⟩
  | @restart kind hi =>
    cases kind with
    | powerOn =>
      refine ⟨fun _ _ _ hb => (by cases hb), fun _ _ => ?_, .inr ⟨Nat.le_refl _, Nat.le_refl _⟩⟩
      cases hi with
      | powerOn => exact .inl rfl
      | nrst => exact .inr (.inl rfl)
      | due hdue => exact .inr (.inr ⟨rfl, by rw [hdue]; decide⟩)
    | deviceReset => exact ⟨(same rfl).1, (same rfl).2, .inr ⟨Nat.le_refl _, Nat.le_refl _⟩⟩
    | deviceErase =>
      cases hi with
      | due hdue =>
        exact ⟨fun _ _ _ hb => (by cases hb), fun _ _ => .inr (.inr ⟨rfl, by rw [hdue]; decide⟩), .inl ⟨rfl, hdue⟩⟩
  | @tick now hnow =>
    obtain ⟨h1, h2, _, _⟩ := hclock now hnow
    have hsecond : (writeFloor s.clock).second = some now := by
      rcases writeFloor_cases s.clock with ⟨e, _⟩ | ⟨m, _, e⟩ <;> rw [e] <;> exact hnow
    have hstands : s.clock.floor ≤ (writeFloor s.clock).floor ∧ s.clock.announcedDay = (writeFloor s.clock).announcedDay := by
      rcases writeFloor_cases s.clock with ⟨e, _⟩ | ⟨m, hm, e⟩ <;> rw [e]
      · exact ⟨Nat.le_refl _, rfl⟩
      · rw [hnow] at hm
        cases hm
        exact ⟨h2, rfl⟩
    refine ⟨fun a b ha hb => ?_, fun _ hn => ?_, .inr ⟨hstands.1, hstands.2.trans_le (hday (tickClock _) _)⟩⟩
    · rw [hnow] at ha
      cases ha
      rw [show (dayAfter (tickClock (writeFloor s.clock)) _).second = _ from tickClock_second hsecond] at hb
      cases hb
      exact Nat.le_min.mpr ⟨h1, Nat.le_succ _⟩
    · rw [show (dayAfter (tickClock (writeFloor s.clock)) _).second = _ from tickClock_second hsecond] at hn
      cases hn
  | floor =>
    rcases writeFloor_cases s.clock with ⟨e, _⟩ | ⟨m, hm, e⟩ <;> rw [e]
    · exact ⟨(same rfl).1, (same rfl).2, .inr ⟨Nat.le_refl _, Nat.le_refl _⟩⟩
    · exact ⟨(same rfl).1, (same rfl).2, .inr ⟨(hclock m hm).2.1, Nat.le_refl _⟩⟩

/-- Settles O15: no work lets the clock fall, and the stamp brings the floor to the second of a sound clock. -/
theorem clockAndFloorNeverFall : Obligations.ClockAndFloorNeverFall := by
  intro i s t hs h
  obtain ⟨u, hw, hclock, _, hcases⟩ := (does_of_exec h).clockWork
  obtain ⟨hnow, hunset, hfloor⟩ := hw.rises hs
  have hsecond : t.clock.second = u.clock.second := by rw [hclock, stampFloor_second]
  have hann : t.clock.announcedDay = u.clock.announcedDay := by rw [hclock, stampFloor_announcedDay]
  rw [hsecond, hann]
  refine ⟨hnow, hunset, ?_, fun now hn hne => ?_⟩
  · refine hfloor.imp_right fun ⟨h1, h2⟩ => ⟨?_, h2⟩
    rcases stampFloor_cases s u with e | ⟨n, hn, _, e⟩ <;> rw [hclock, e]
    · exact h1
    · exact Nat.le_trans h1 ((hw.sound hs).2 n hn).2.1
  · rw [hcases] at hne
    rcases stampFloor_cases s u with e | ⟨n, hn', _, e⟩
    · unfold stampFloor at e
      rw [hn] at e
      simp only [if_neg hne] at e
      rw [hclock, stampFloor, hn]
      simp only [if_neg hne]
      exact ⟨rfl, rfl⟩
    · rw [hn] at hn'
      cases hn'
      rw [hclock, e]
      exact ⟨rfl, rfl⟩

end Sys2Proof.Machine
end

section
/-! PROOF. The invariants of the links (O7), of the zone records (O11) and of the generations (O10). -/

namespace Sys2Proof.Machine

/-! ### O7: the links -/

theorem setLink_get (s : State) (n l : LinkId) (r : Link) :
    (s.setLink n r).links[l] = if l = n then r else s.links[l] := by
  rw [setLink_links]
  by_cases h : l = n
  · subst l
    rw [if_pos rfl]
    exact Vector.getElem_set_self _
  · have hne : (n : Nat) ≠ l := fun e => h (Fin.ext e.symm)
    rw [if_neg h]
    exact Vector.getElem_set_ne _ _ hne

theorem live_of_eq {s : State} {a b : LinkId} (e : a = b) (h : s.links[b].state ≠ .free) : s.links[a].state ≠ .free := by
  subst e
  exact h

/-- Links as they were, under cases whose owners lived. -/
theorem linksOk_of_owners {s t : State} (hs : LinksOk s) (hl : t.links = s.links)
    (ho : ∀ d ∈ t.cases, s.links[d.owner].state ≠ .free) : LinksOk t := by
  obtain ⟨h1, h2, h3, _⟩ := hs
  unfold LinksOk
  rw [hl]
  exact ⟨h1, h2, h3, ho⟩

theorem readLink_some {l : LinkId} {b : List Byte} {r : Link} (h : readLink l b = some r) :
    r.state = .active ∧ r.creator = some l := by
  unfold readLink at h
  obtain ⟨rights, _, h⟩ := Option.bind_eq_some_iff.mp h
  unfold linkFields at h
  split at h
  · cases h; exact ⟨rfl, rfl⟩
  · split at h
    · cases h; exact ⟨rfl, rfl⟩
    · cases h
  · cases h

theorem lowestFree_some {s : State} {n : LinkId} (h : lowestFree s = some n) : n ≠ rootLink ∧ s.links[n].state = .free := by
  have := List.find?_some h
  rw [Bool.and_eq_true] at this
  exact ⟨of_decide_eq_true this.1, of_decide_eq_true this.2⟩

theorem targetStatus_none {l target : LinkId} {s : State} (h : targetStatus l target s = none) :
    target ≠ rootLink ∧ s.links[target].state ≠ .free := by
  unfold targetStatus at h
  split at h
  · cases h
  · split at h
    · cases h
    · exact ⟨‹_›, ‹_›⟩

/-- A new link under a live creator whose rights it stays within (R177). -/
theorem linksOk_created {s : State} {l n : LinkId} {r : Link} (hs : LinksOk s) (hl : s.links[l].state ≠ .free)
    (hr : r.state = .active ∧ r.creator = some l) (hw : rightsWithin r.rights s.links[l].rights = true)
    (hn : n ≠ rootLink ∧ s.links[n].state = .free) : LinksOk (s.setLink n r) := by
  obtain ⟨hroot, hfree, hlive, hown⟩ := hs
  have hother {c : LinkId} (hc : s.links[c].state ≠ .free) : (s.setLink n r).links[c] = s.links[c] := by
    rw [setLink_get, if_neg]
    rintro rfl
    exact hc hn.2
  refine ⟨?_, fun c hc => ?_, fun c hc hcl => ?_, fun d hd => ?_⟩
  · rw [setLink_get, if_neg hn.1.symm]
    exact hroot
  · rw [setLink_get] at hc ⊢
    split at hc
    · rw [hr.1] at hc
      cases hc
    · rw [if_neg ‹_›]
      exact hfree c hc
  · by_cases e : c = n
    · subst c
      rw [setLink_get, if_pos rfl]
      exact ⟨l, hr.2, by rw [hother hl]; exact hl, by rw [hother hl]; exact hw⟩
    · rw [setLink_get, if_neg e] at hcl ⊢
      obtain ⟨k, hk, hkl, hkw⟩ := hlive c hc hcl
      exact ⟨k, hk, by rw [hother hkl]; exact hkl, by rw [hother hkl]; exact hkw⟩
  · rw [hother (hown d hd)]
    exact hown d hd

/-- A live link other than link 1 that keeps its creator and its rights (R178, R179). -/
theorem linksOk_changed {s : State} {target : LinkId} {r : Link} (hs : LinksOk s)
    (ht : target ≠ rootLink ∧ s.links[target].state ≠ .free) (hr : r.state ≠ .free) (hc : r.creator = s.links[target].creator)
    (hw : r.rights = s.links[target].rights) : LinksOk (s.setLink target r) := by
  obtain ⟨hroot, hfree, hlive, hown⟩ := hs
  have hfields (c : LinkId) : (s.setLink target r).links[c].creator = s.links[c].creator ∧
      (s.setLink target r).links[c].rights = s.links[c].rights ∧
      ((s.setLink target r).links[c].state = .free ↔ s.links[c].state = .free) := by
    rw [setLink_get]
    split
    · subst c
      exact ⟨hc, hw, fun h => absurd h hr, fun h => absurd h ht.2⟩
    · exact ⟨rfl, rfl, .rfl⟩
  refine ⟨?_, fun c hcf => ?_, fun c hcr hcl => ?_, fun d hd => ?_⟩
  · rw [setLink_get, if_neg ht.1.symm]
    exact hroot
  · have hcs := (hfields c).2.2.mp hcf
    rw [setLink_get, if_neg]
    · exact hfree c hcs
    · rintro rfl
      exact ht.2 hcs
  · obtain ⟨k, hk, hkl, hkw⟩ := hlive c hcr fun h => hcl ((hfields c).2.2.mpr h)
    exact ⟨k, (hfields c).1.trans hk, fun h => hkl ((hfields k).2.2.mp h), by rw [(hfields c).2.1, (hfields k).2.1]; exact hkw⟩
  · exact fun h => hown d hd ((hfields d.owner).2.2.mp h)

/-- A link without children and without cases goes FREE (R180). -/
theorem linksOk_freed {s t : State} {target : LinkId} (hs : LinksOk s) (ht : target ≠ rootLink) (hch : childrenOf target s = [])
    (hl : t.links = (freeLink target s).links) (hown : ∀ d ∈ t.cases, d.owner ≠ target ∧ s.links[d.owner].state ≠ .free) : LinksOk t := by
  obtain ⟨hroot, hfree, hlive, _⟩ := hs
  have hget (c : LinkId) : t.links[c] = if c = target then Link.freeRecord else s.links[c] := by
    rw [hl]
    exact setLink_get s target c _
  refine ⟨?_, fun c hc => ?_, fun c hcr hcl => ?_, fun d hd => ?_⟩
  · rw [hget, if_neg ht.symm]
    exact hroot
  · rw [hget] at hc ⊢
    split
    · rfl
    · rw [if_neg ‹_›] at hc
      exact hfree c hc
  · have hne : c ≠ target := by
      rintro rfl
      rw [hget, if_pos rfl] at hcl
      exact hcl rfl
    rw [hget, if_neg hne] at hcl ⊢
    obtain ⟨k, hk, hkl, hkw⟩ := hlive c hcr hcl
    have hkt : k ≠ target := by
      rintro rfl
      have hmem : c ∈ childrenOf k s := by
        refine List.mem_filter.mpr ⟨List.mem_finRange c, ?_⟩
        rw [decide_eq_true hcl, decide_eq_true hk]
        rfl
      rw [hch] at hmem
      cases hmem
    exact ⟨k, hk, by rw [hget, if_neg hkt]; exact hkl, by rw [hget, if_neg hkt]; exact hkw⟩
  · obtain ⟨h1, h2⟩ := hown d hd
    rw [hget, if_neg h1]
    exact h2

/-- After a command's own change the owner of every case lives. -/
theorem owners_of_moves {i : Instr} {s u : State} (hs : LinksOk s) (h : Moves s i u) :
    ∀ d ∈ u.cases, s.links[d.owner].state ≠ .free := by
  obtain ⟨_, _, _, hown⟩ := hs
  have hmap {f : Case → Case} (hf : ∀ c, (f c).owner = c.owner) (hu : u.cases = s.cases.map f) :
      ∀ d ∈ u.cases, s.links[d.owner].state ≠ .free := by
    intro d hd
    rw [hu] at hd
    obtain ⟨c, hc, rfl⟩ := List.mem_map.mp hd
    exact live_of_eq (hf c) (hown c hc)
  cases h with
  | opened _ _ _ _ _ hl =>
    intro d hd
    rcases List.mem_append.mp hd with hd | hd
    · exact hown d hd
    · rw [List.mem_singleton.mp hd]
      exact hl
  | @started _ kind p n _ attempts => exact hmap (fun c => by split <;> rfl) (startedState_cases kind p n attempts)
  | @owned _ f hf =>
    intro d hd
    obtain ⟨c, hc, rfl⟩ := List.mem_map.mp hd
    rcases hf c with e | e
    · exact live_of_eq e (hown c hc)
    · exact e
  | package => exact hmap (fun c => by split <;> rfl) rfl
  | @restart _ kind _ =>
    rcases restartClock_parts kind s with ⟨hc, _⟩ | ⟨e, _⟩
    · exact hmap (f := fun c => { c with job := none }) (fun _ => rfl) ((takeUpStore_cases _).trans (by rw [hc]))
    · rw [e]
      exact fun d hd => (List.not_mem_nil hd).elim

theorem owners_of_keeps {i : Instr} {s u t : State} (hs : LinksOk s) (hu : u = s ∨ Moves s i u) (hk : Keeps u t) :
    ∀ d ∈ t.cases, s.links[d.owner].state ≠ .free := by
  intro d hd
  obtain ⟨c, hc, e⟩ := hk.owners d hd
  rcases hu with rfl | hu
  · exact live_of_eq e (hs.2.2.2 c hc)
  · exact live_of_eq e (owners_of_moves hs hu c hc)

theorem Handled.linksOk {l : LinkId} {r : Request} {s t : State} {k : Kind} {reply : Reply} (h : Handled l r.body s k t reply)
    (hl : s.links[l].state = .active) (hs : LinksOk s) : LinksOk t := by
  obtain ⟨u, hu, hk⟩ := h.moves hl
  have howners := owners_of_keeps hs hu hk
  cases h
  case opened => exact linksOk_of_owners hs ((links_of_base (openCase_base _ _ _ _)).trans rfl) howners
  case timeSet => exact linksOk_of_owners hs (setTime_links s _) howners
  case settingsStored => exact linksOk_of_owners hs (storeSettings_links s _) howners
  case termsStored => exact hs
  case linkCreated hrec hw hn =>
    exact linksOk_created hs (by rw [hl]; decide) (readLink_some hrec) hw (lowestFree_some hn)
  case linkMoved ht => exact linksOk_changed hs (targetStatus_none ht) (targetStatus_none ht).2 rfl rfl
  case linkSuspended ht => exact linksOk_changed hs (targetStatus_none ht) (fun h => by cases h) rfl rfl
  case linkResumed ht => exact linksOk_changed hs (targetStatus_none ht) (fun h => by cases h) rfl rfl
  case linkFreed target _ ht hch hown =>
    refine linksOk_freed hs (targetStatus_none ht).1 hch rfl fun d hd => ⟨fun e => ?_, hs.2.2.2 d hd⟩
    have hmem : d ∈ ownedBy target s := List.mem_filter.mpr ⟨hd, decide_eq_true e⟩
    rw [hown] at hmem
    cases hmem
  case linkHandedOn target recipient _ _ ht hch hrec =>
    refine linksOk_freed hs (targetStatus_none ht).1 hch rfl fun d hd => ?_
    obtain ⟨c, hc, rfl⟩ := List.mem_map.mp (show d ∈ s.cases.map fun c => if c.owner = target then { c with owner := recipient } else c from hd)
    split
    · exact recipient_lives hrec
    · exact ⟨‹_›, hs.2.2.2 c hc⟩
  all_goals exact linksOk_of_owners hs (links_of_base (by simp)) howners

/-- Settles O7: the link requests keep the tree of creators, and every owner lives. -/
theorem linksStaySound : Obligations.LinksStaySound := fun _ _ hs h => by
  refine step_keeps (P := LinksOk) (fun _ _ h => h) (fun i s t hs hd => ?_) hs h
  obtain ⟨u, hu, hk⟩ := hd.moves
  have howners := owners_of_keeps hs hu hk
  cases hd with
  | idle => exact hs
  | refused => exact hs
  | handled hr =>
    obtain ⟨_, _, hactive, _⟩ := hr
    obtain ⟨h1, h2, h3, h4⟩ := (handlerOf_handled _ _ _ s).linksOk hactive hs
    unfold LinksOk placeAnswer
    rw [modTerminal_links, modTerminal_cases, stampFloor_links, stampFloor_cases_eq]
    exact ⟨h1, h2, h3, h4⟩
  | line => exact hs
  | @restart _ kind _ =>
    by_cases he : kind = .deviceErase
    · subst he
      refine linksOk_of_erased (by rw [stampFloor_links, restartDevice_links]; rfl) ?_
      rw [stampFloor_cases_eq]
      refine List.eq_nil_iff_forall_not_mem.mpr fun d hd => ?_
      obtain ⟨c, hc, _⟩ := (keeps_restartDevice .deviceErase s).owners d hd
      cases hc
    · refine linksOk_of_owners hs ?_ howners
      rw [stampFloor_links, restartDevice_links]
      cases kind
      · rfl
      · rfl
      · exact absurd rfl he
  | tick => exact linksOk_of_owners hs ((stampFloor_links _ _).trans (rolloverTest_links _)) howners
  | floor => exact hs
  | coupler _ hw => exact linksOk_of_owners hs ((stampFloor_links _ _).trans (links_of_base (hw.base s))) howners
  | window => exact linksOk_of_owners hs ((stampFloor_links _ _).trans (expireWindow_links _ _)) howners
  | package => exact linksOk_of_owners hs ((stampFloor_links _ _).trans (links_of_base (completePackage_base _ _))) howners
  | statement =>
    exact linksOk_of_owners hs ((stampFloor_links _ _).trans
      ((links_of_base (releaseStatement_base _)).trans (completeStatement_links _ _))) howners

end Sys2Proof.Machine
end

section
/-! PROOF. The invariants of the zone records (O11) and of the generations (O10). -/

namespace Sys2Proof.Machine

/-! ### One zone, before and after -/

/-- No generation of a zone's record passes `g`. -/
def ZoneBound (g : Nat) (r : Zone) : Prop := r.reached ≤ g ∧ ∀ b, r.batch = some b → b.generation ≤ g

/-- A change of a zone's record that keeps R115, at current generation `g`. -/
structure ZoneStep (g : Nat) (r q : Zone) : Prop where
  sound : ZoneOk r → ZoneOk q
  bound : ZoneBound g r → ZoneBound g q

/-- The same of all twelve. -/
def ZonesStep (g : Nat) (s t : State) : Prop := ∀ z : ZoneId, ZoneStep g s.zones[z] t.zones[z]

section
variable {g : Nat}

theorem ZoneStep.refl (r : Zone) : ZoneStep g r r := ⟨id, id⟩

theorem ZonesStep.refl (s : State) : ZonesStep g s s := fun _ => .refl _

theorem ZonesStep.trans {s t u : State} (h : ZonesStep g s t) (k : ZonesStep g t u) : ZonesStep g s u :=
  fun z => ⟨(k z).sound ∘ (h z).sound, (k z).bound ∘ (h z).bound⟩

theorem zonesStep_of_eq {s t : State} (h : t.zones = s.zones) : ZonesStep g s t := fun z => by
  rw [h]
  exact .refl _

theorem setZone_get (s : State) (z y : ZoneId) (r : Zone) : (s.setZone z r).zones[y] = if y = z then r else s.zones[y] := by
  rw [setZone_zones]
  by_cases h : y = z
  · subst y
    rw [if_pos rfl]
    exact zones_set_get _ _ _
  · have hne : (z : Nat) ≠ y := fun e => h (Fin.ext e.symm)
    rw [if_neg h]
    exact Vector.getElem_set_ne _ _ hne

theorem zonesStep_setZone {s : State} {z : ZoneId} {r : Zone} (h : ZoneStep g s.zones[z] r) : ZonesStep g s (s.setZone z r) := by
  intro y
  rw [setZone_get]
  split
  · subst y; exact h
  · exact .refl _

theorem zonesStep_modZone {s : State} {z : ZoneId} {f : Zone → Zone} (h : ZoneStep g s.zones[z] (f s.zones[z])) :
    ZonesStep g s (s.modZone z f) := zonesStep_setZone h

/-! ### The changes of a zone's record -/

/-- A discarded batch, with the zone in another state than OPEN_BATCH. -/
theorem zoneStep_without_batch {r q : Zone} (hb : q.batch = none) (hs : q.state ≠ .openBatch) (hc : q.counts = r.counts)
    (hr : q.reached = r.reached) : ZoneStep g r q := by
  refine ⟨fun ⟨_, _, h⟩ => ⟨⟨fun h => ?_, fun h => absurd h hs⟩, fun b h => ?_, hc ▸ h⟩, fun h => ⟨hr ▸ h.1, fun b h => ?_⟩⟩
  · rw [hb] at h
    cases h
  · rw [hb] at h
    cases h
  · rw [hb] at h
    cases h

/-- A change of other fields than state, batch, reached generation and error counts. -/
theorem zoneStep_plain {r q : Zone} (hs : q.state = r.state) (hb : q.batch = r.batch) (hr : q.reached = r.reached)
    (hc : q.counts = r.counts) : ZoneStep g r q := by
  refine ⟨fun h => ?_, fun h => ?_⟩
  · unfold ZoneOk at *
    rw [hs, hb, hc]
    exact h
  · unfold ZoneBound at *
    rw [hb, hr]
    exact h

theorem zoneStep_raiseCount (c : ErrorCount) (r : Zone) : ZoneStep g r { r with counts := raiseCount c r.counts } := by
  refine ⟨fun ⟨h1, h2, h3, h4, h5, h6⟩ => ⟨h1, h2, ?_⟩, id⟩
  cases c
  · exact ⟨satSucc_le _ _, h4, h5, h6⟩
  · exact ⟨h3, satSucc_le _ _, h5, h6⟩
  · exact ⟨h3, h4, satSucc_le _ _, h6⟩
  · exact ⟨h3, h4, h5, satSucc_le _ _⟩

theorem zoneStep_discard (r : Zone) : ZoneStep g r (discardToHunt r) :=
  zoneStep_without_batch rfl (fun h => by cases h) rfl rfl

theorem zoneStep_open {h : HeaderFields} (hg : h.generation ≤ g) (r : Zone) : ZoneStep g r (openZone h r) := by
  refine ⟨fun ⟨_, _, hc⟩ => ⟨⟨fun _ => rfl, fun _ => rfl⟩, fun b hb => ?_, hc⟩, fun hr => ⟨hr.1, fun b hb => ?_⟩⟩
  · cases hb
    exact Nat.zero_le _
  · cases hb
    exact hg

theorem zoneStep_store {r : Zone} {b : OpenBatch} (hb : r.batch = some b) (hlen : b.buffer.length < 256) (bytes : List Byte)
    (rec : BatchRecord) : ZoneStep g r (storeInZone bytes rec r) := by
  have hq : (storeInZone bytes rec r).batch = some (storeRecord bytes rec b) := by
    rw [storeInZone, hb]
    rfl
  refine ⟨fun ⟨h1, h2, hc⟩ => ⟨?_, fun x hx => ?_, hc⟩, fun ⟨h1, h2⟩ => ⟨h1, fun x hx => ?_⟩⟩
  · rw [hq]
    rw [hb] at h1
    exact h1
  · cases hq.symm.trans hx
    exact (List.length_append).trans_le hlen
  · cases hq.symm.trans hx
    exact h2 b hb

theorem zoneStep_commit {r : Zone} {b : OpenBatch} (hb : r.batch = some b) (n : CommitCount) (day : Option Nat) :
    ZoneStep g r (commitZone b n day r) := by
  refine ⟨id, fun ⟨h1, h2⟩ => ⟨?_, h2⟩⟩
  unfold commitZone
  dsimp only
  split
  · exact Nat.max_le.mpr ⟨h1, h2 b hb⟩
  · exact h1

theorem zoneStep_cleared (r : Zone) : ZoneStep g r (clearedZone r) :=
  ⟨fun ⟨h1, h2, _⟩ => ⟨h1, h2, Nat.zero_le _, Nat.zero_le _, Nat.zero_le _, Nat.zero_le _⟩, id⟩

theorem zoneOk_fresh {r : Zone} (hb : r.batch = none) (hs : r.state ≠ .openBatch) (hc : r.counts = {}) : ZoneOk r := by
  unfold ZoneOk
  rw [hb, hc]
  exact ⟨⟨fun h => (by cases h), fun h => absurd h hs⟩, fun _ h => (by cases h), Nat.zero_le _, Nat.zero_le _, Nat.zero_le _, Nat.zero_le _⟩

theorem zoneStep_configured (r : Zone) (m : SumMethod) (threshold dormancy : Nat) :
    ZoneStep g r (configuredZone m threshold dormancy) :=
  ⟨fun _ => zoneOk_fresh rfl (fun h => by cases h) rfl, fun _ => ⟨Nat.zero_le _, fun _ h => by cases h⟩⟩

/-- A zone that was HELD has no batch to lose. -/
theorem zoneStep_from_held {r q : Zone} (hr : r.state = .held) (hb : q.batch = r.batch) (hs : q.state ≠ .openBatch)
    (hreach : q.reached = r.reached) (hc : q.counts = r.counts) : ZoneStep g r q := by
  refine ⟨fun ⟨h1, h2, h3⟩ => ?_, fun h => ?_⟩
  · have hnone : r.batch = none := by
      cases hrb : r.batch with
      | none => rfl
      | some b =>
        rw [hrb] at h1
        rw [h1.mp rfl] at hr
        cases hr
    refine ⟨⟨fun h => ?_, fun h => absurd h hs⟩, fun b h => h2 b (hb ▸ h), hc ▸ h3⟩
    rw [hb, hnone] at h
    cases h
  · unfold ZoneBound at *
    rw [hb, hreach]
    exact h

theorem zoneStep_restart (r : Zone) : ZoneStep g r (restartZone r) := by
  refine ⟨fun _ => zoneOk_fresh rfl ?_ rfl, fun h => ⟨h.1, fun _ h => by cases h⟩⟩
  unfold restartZone
  dsimp only
  cases r.state <;> decide

/-! ### The feeds -/

theorem zonesStep_raiseError (s : State) (c : ErrorCount) (z : ZoneId) : ZonesStep g s (raiseError c z s) := by
  have hcount : ZonesStep g s (s.modZone z fun r => { r with counts := raiseCount c r.counts }) :=
    zonesStep_modZone (zoneStep_raiseCount c _)
  unfold raiseError
  dsimp only
  split
  · exact (hcount.trans (zonesStep_modZone (zoneStep_discard _))).trans (zonesStep_of_eq rfl)
  · exact hcount

theorem zonesStep_overflowBatch (s : State) (z : ZoneId) : ZonesStep g s (overflowBatch z s) :=
  (zonesStep_modZone (zoneStep_discard _)).trans (zonesStep_raiseError _ _ z)

theorem zonesStep_takeRecord (s : State) (z : ZoneId) (bytes : List Byte) : ZonesStep g s (takeRecord z bytes s).1 := by
  unfold takeRecord
  split
  · exact .refl s
  · rename_i b hb
    split
    · exact zonesStep_overflowBatch s z
    · rename_i hlen
      have hstore : ZonesStep g s (s.modZone z (storeInZone bytes (recordMark bytes).1)) :=
        zonesStep_modZone (zoneStep_store hb (Nat.not_le.mp hlen) _ _)
      dsimp only
      split
      · exact hstore
      · exact hstore.trans (zonesStep_raiseError _ _ z)

theorem zonesStep_takeRecords (s : State) (z : ZoneId) (records : List (List Byte)) :
    ZonesStep g s (takeRecords z records s).1 := by
  induction records generalizing s with
  | nil => exact .refl s
  | cons r rest ih =>
    have h := zonesStep_takeRecord (g := g) s z r
    unfold takeRecords
    split <;> rename_i u hu <;> rw [hu] at h
    · exact h.trans (ih u)
    · exact h

theorem zonesStep_discardForHeader (s : State) (z : ZoneId) : ZonesStep g s (discardForHeader z s) := by
  unfold discardForHeader
  split
  · exact zonesStep_overflowBatch s z
  · exact .refl s

theorem zonesStep_headerChecked (s : State) (z : ZoneId) (h : HeaderFields) (b : List Byte) :
    ZonesStep s.hotlist.generation s (headerChecked z h b s).1 := by
  unfold headerChecked
  split
  · exact zonesStep_raiseError s _ z
  · split
    · exact zonesStep_raiseError s _ z
    · rename_i hbad
      have hgen : h.generation ≤ s.hotlist.generation := Nat.not_lt.mp fun hlt => hbad (.inr hlt)
      unfold sequenceChecked
      split
      · exact zonesStep_modZone (zoneStep_open hgen _)
      · split
        · exact .refl s
        · split
          · exact zonesStep_raiseError s _ z
          · exact zonesStep_modZone (zoneStep_open hgen _)

theorem zonesStep_commitBatch {s : State} {z : ZoneId} {b : OpenBatch} (hb : s.zones[z].batch = some b) :
    ZonesStep g s (commitBatch z b s).1 := by
  have hrec : ZonesStep g s (commitRecords (goodEvents b.buffer) s).1 := zonesStep_of_eq (commitRecords_zones s _)
  have hbatch : (commitRecords (goodEvents b.buffer) s).1.zones[z].batch = some b := by
    rw [commitRecords_zones]
    exact hb
  exact ((hrec.trans (zonesStep_modZone (zoneStep_commit hbatch _ _))).trans (zonesStep_of_eq (applyClosures_zones _ _ _ _))).trans
    (zonesStep_modZone (zoneStep_without_batch rfl (fun h => by cases h) rfl rfl))

theorem zonesStep_dormancyTest (s : State) (day : Nat) (z : ZoneId) : ZonesStep g s (dormancyTest day z s) := by
  unfold dormancyTest
  dsimp only
  split
  · split
    · exact zonesStep_modZone (zoneStep_plain rfl rfl rfl rfl)
    · split
      · have hmark : ZonesStep g s (s.modZone z fun r => { r with dormant := true }) :=
          zonesStep_modZone (zoneStep_plain rfl rfl rfl rfl)
        exact hmark.trans (zonesStep_of_eq rfl)
      · exact .refl s
  · exact .refl s

/-! ### The clock -/

theorem zonesStep_runFree {α : Type} {tasks : List α} {run : α → State → State} {s : State}
    (h : ∀ t u, ZonesStep g u (run t u)) : ZonesStep g s (s.runFree tasks run) :=
  runFree_keeps (ZonesStep g s) tasks run s (zonesStep_of_eq rfl) fun t _ u hu => hu.trans (h t u)

theorem zonesStep_deliverRollover (b : RolloverBlock) (s : State) : ZonesStep g s (deliverRollover b s) := by
  cases b with
  | cases => exact zonesStep_of_eq (rolloverCases_zones s)
  | hotlist => exact zonesStep_of_eq (rolloverCut_zones s)
  | zones => exact zonesStep_runFree fun z u => zonesStep_dormancyTest u _ z

theorem zonesStep_rolloverTest (s : State) : ZonesStep g s (rolloverTest s) := by
  have hday : ZonesStep g s (moveDay s) := zonesStep_of_eq (moveDay_zones s)
  exact hday.trans (zonesStep_runFree zonesStep_deliverRollover)

theorem zonesStep_runTimeTask (t : TimeTask) (s : State) : ZonesStep g s (runTimeTask t s) := by
  cases t with
  | rollover b => exact zonesStep_deliverRollover b s
  | window p => exact zonesStep_of_eq (expireWindow_zones s p)

theorem zonesStep_setTime (t : Nat) (s : State) : ZonesStep g s (setTime t s) := by
  rcases setTime_cases s t with ⟨_, e⟩ | ⟨_, e⟩ <;> rw [e]
  · exact .refl s
  · have hday : ZonesStep g s (moveDay (takeSecond t s)) := zonesStep_of_eq (moveDay_zones _)
    exact hday.trans (zonesStep_runFree zonesStep_runTimeTask)

theorem zonesStep_storeSettings (v : Settings) (s : State) : ZonesStep g s (storeSettings v s) := by
  have hset : ZonesStep g s { s with settings := v } := zonesStep_of_eq rfl
  exact (hset.trans (zonesStep_rolloverTest _)).trans (zonesStep_of_eq (autoCut_zones _))

end

/-! ### Commands -/

theorem Handled.zonesStep {l : LinkId} {b : List Byte} {s t : State} {k : Kind} {reply : Reply} (h : Handled l b s k t reply) :
    ZonesStep s.hotlist.generation s t := by
  cases h
  case opened => exact zonesStep_of_eq (by simp)
  case zoneConfigured z m threshold dormancy _ =>
    exact (zonesStep_setZone (zoneStep_configured _ m threshold dormancy)).trans (zonesStep_of_eq rfl)
  case zoneReleased hz => exact zonesStep_modZone (zoneStep_from_held hz rfl (fun h => by cases h) rfl rfl)
  case zoneHeld => exact zonesStep_modZone (zoneStep_without_batch rfl (fun h => by cases h) rfl rfl)
  case zoneResynced => exact zonesStep_modZone (zoneStep_without_batch rfl (fun h => by cases h) rfl rfl)
  case zoneRemoved z hz =>
    have hremove : ZonesStep s.hotlist.generation s (s.modZone z removedZone) :=
      zonesStep_modZone (zoneStep_from_held hz rfl (fun h => by cases h) rfl rfl)
    exact hremove.trans (zonesStep_of_eq (testLacking_zones _ z))
  case zoneCleared => exact zonesStep_modZone (zoneStep_cleared _)
  case header z =>
    have hgen : (discardForHeader z s).hotlist.generation = s.hotlist.generation := (keeps_discardForHeader s z).generation
    refine (zonesStep_discardForHeader s z).trans ?_
    rw [← hgen]
    exact zonesStep_headerChecked _ z _ b
  case records => exact zonesStep_takeRecords s _ _
  case batchRefused => exact (zonesStep_modZone (zoneStep_discard _)).trans (zonesStep_raiseError _ _ _)
  case committed ho => exact zonesStep_commitBatch ho
  case timeSet => exact zonesStep_setTime _ s
  case settingsStored => exact zonesStep_storeSettings _ s
  all_goals exact zonesStep_of_eq (by simp [freeLink, transferCases, State.modLink, State.setTerms])

/-- A request is no restart. -/
theorem not_restarts_request {s : State} {k : Kind} {r : Request} {kind : RestartKind} :
    ¬ Restarts s (requestCommand k r) kind := by
  generalize e : requestCommand k r = i
  intro h
  cases h <;> cases k <;> cases e

/-- The generation does not fall but by a restart. -/
theorem generation_le_of_moves {i : Instr} {s u t : State} (hu : u = s ∨ Moves s i u) (hk : Keeps u t)
    (hi : ∀ kind, ¬ Restarts s i kind) : s.hotlist.generation ≤ t.hotlist.generation := by
  rw [hk.generation]
  rcases hu with rfl | hu
  · exact Nat.le_refl _
  · cases hu with
    | opened => exact Nat.le_refl _
    | started => exact Nat.le_refl _
    | owned => exact Nat.le_refl _
    | package => exact Nat.le_succ _
    | restart hr => exact absurd hr (hi _)

/-- A command steps every zone and does not lower the generation, or restarts the part. -/
theorem Does.zonesStep {i : Instr} {s t : State} (h : Does s i t) :
    ZonesStep s.hotlist.generation s t ∧ s.hotlist.generation ≤ t.hotlist.generation ∨
      ∃ kind, (t.zones = Vector.ofFn fun z => restartZone (restartClock kind s).zones[z]) ∧
        t.hotlist.generation = (restartClock kind s).hotlist.generation := by
  have kept {t : State} (hz : ZonesStep s.hotlist.generation s t) (hk : Keeps s t) :
      ZonesStep s.hotlist.generation s t ∧ s.hotlist.generation ≤ t.hotlist.generation ∨
        ∃ kind, (t.zones = Vector.ofFn fun z => restartZone (restartClock kind s).zones[z]) ∧
          t.hotlist.generation = (restartClock kind s).hotlist.generation := .inl ⟨hz, Nat.le_of_eq hk.generation.symm⟩
  cases h with
  | idle => exact kept (.refl s) (.refl s)
  | refused => exact kept (zonesStep_of_eq rfl) (keeps_placeAnswer _ _ _ s)
  | @handled k r l rest hr =>
    obtain ⟨_, _, hactive, _⟩ := hr
    have hwork := handlerOf_handled k l r.body s
    obtain ⟨u, hu, hk⟩ := hwork.moves hactive
    refine .inl ⟨hwork.zonesStep.trans (zonesStep_of_eq (stampFloor_zones _ _)), ?_⟩
    exact generation_le_of_moves hu ((hk.trans (keeps_stampFloor s _)).trans (keeps_placeAnswer _ _ _ _)) fun _ => not_restarts_request
  | line => exact kept (zonesStep_of_eq rfl) (keeps_modTerminal s _)
  | @restart _ kind hi =>
    refine .inr ⟨kind, (stampFloor_zones _ _).trans (restartDevice_zones kind s), ?_⟩
    rw [stampFloor_hotlist, (keeps_restartDevice kind s).generation]
    rfl
  | tick =>
    have hclock : ZonesStep s.hotlist.generation s (s.modClock fun c => tickClock (writeFloor c)) := zonesStep_of_eq rfl
    exact kept ((hclock.trans (zonesStep_rolloverTest _)).trans (zonesStep_of_eq (stampFloor_zones _ _))) (keeps_tick s _)
  | floor => exact kept (zonesStep_of_eq rfl) (keeps_modClock s _)
  | coupler hp hw =>
    exact kept (zonesStep_of_eq ((stampFloor_zones _ _).trans (hw.zones s))) ((keeps_coupler hp hw).trans (keeps_stampFloor s _))
  | window p =>
    exact kept (zonesStep_of_eq ((stampFloor_zones _ _).trans (expireWindow_zones _ _)))
      ((keeps_expireWindow s p).trans (keeps_stampFloor s _))
  | package =>
    refine .inl ⟨zonesStep_of_eq ((stampFloor_zones _ _).trans (completePackage_zones _ _)), ?_⟩
    rw [stampFloor_hotlist, (keeps_completePackage s _).generation]
    exact Nat.le_succ _
  | statement =>
    exact kept (zonesStep_of_eq ((stampFloor_zones _ _).trans ((releaseStatement_zones _).trans (completeStatement_zones _ _))))
      (((keeps_completeStatement s _).trans (keeps_releaseStatement _)).trans (keeps_stampFloor s _))

theorem restartedZones_get (kind : RestartKind) (s : State) (z : ZoneId) :
    (Vector.ofFn fun z : ZoneId => restartZone (restartClock kind s).zones[z])[z] = restartZone (restartClock kind s).zones[z] :=
  Vector.getElem_ofFn _

/-- Settles O11: each change of a zone's record keeps R115, and a restart discards the batch. -/
theorem zonesStaySound : Obligations.ZonesStaySound := fun _ _ hs h => by
  refine step_keeps (P := ZonesOk) (fun _ _ h => h) (fun i s t hs hd z => ?_) hs h
  rcases hd.zonesStep with ⟨hstep, _⟩ | ⟨kind, e, _⟩
  · exact (hstep z).sound (hs z)
  · rw [e, restartedZones_get]
    refine (zoneStep_restart (g := 0) _).sound ?_
    rcases restartClock_parts kind s with ⟨_, _, _, _, hz, _⟩ | ⟨hz, _⟩ <;> rw [hz]
    · exact hs z
    · rw [show (eraseStore s).zones[z] = Zone.erased from Vector.getElem_replicate _]
      exact zoneOk_fresh rfl (fun h => by cases h) rfl

/-! ### O10: the generations -/

/-- R105 of the master list and the cases. -/
def ListGenerationsOk (s : State) : Prop :=
  (∀ e ∈ s.hotlist.master, ∀ g, e.addGen = some g → g ≤ s.hotlist.generation) ∧
    ∀ c ∈ s.cases, ∀ g, c.generation = some g → g ≤ s.hotlist.generation

theorem listGenerations_of_keeps {s t : State} (hs : ListGenerationsOk s) (hk : Keeps s t) : ListGenerationsOk t := by
  unfold ListGenerationsOk
  rw [hk.generation]
  refine ⟨fun e he => hs.1 e (hk.master e he), fun d hd g hg => ?_⟩
  obtain ⟨c, hc, hsame⟩ := hk.same d hd
  exact hs.2 c hc g (hsame.generation ▸ hg)

theorem listGenerations_of_moves {i : Instr} {s t : State} (hs : ListGenerationsOk s) (h : Moves s i t) : ListGenerationsOk t := by
  obtain ⟨hmaster, hcases⟩ := hs
  have hmap {f : Case → Case} (hf : ∀ c, (f c).generation = c.generation) {l : List Case} (hl : l = s.cases.map f) :
      ∀ d ∈ l, ∀ g, d.generation = some g → g ≤ s.hotlist.generation := by
    intro d hd g hg
    rw [hl] at hd
    obtain ⟨c, hc, rfl⟩ := List.mem_map.mp hd
    exact hcases c hc g ((hf c) ▸ hg)
  cases h with
  | opened =>
    refine ⟨fun e he => ?_, fun d hd => ?_⟩
    · rcases mem_insertMaster.mp he with rfl | he
      · exact fun g hg => by cases hg
      · exact hmaster e he
    · rcases List.mem_append.mp hd with hd | hd
      · exact hcases d hd
      · rw [List.mem_singleton.mp hd]
        exact fun g hg => by cases hg
  | @started _ kind p n _ attempts => exact ⟨hmaster, hmap (fun c => by split <;> rfl) (startedState_cases kind p n attempts)⟩
  | @owned _ f _ => exact ⟨hmaster, hmap (f := fun c => { c with owner := f c }) (fun _ => rfl) rfl⟩
  | package =>
    refine ⟨fun e he g hg => ?_, fun d hd g hg => ?_⟩
    · obtain ⟨x, hx, rfl⟩ := List.mem_map.mp he
      split at hg
      · cases hg
        exact Nat.le_refl _
      · exact Nat.le_succ_of_le (hmaster x hx g hg)
    · obtain ⟨c, hc, rfl⟩ := List.mem_map.mp hd
      split at hg
      · cases hg
        exact Nat.le_refl _
      · exact Nat.le_succ_of_le (hcases c hc g hg)
  | @restart _ kind _ =>
    rcases restartClock_parts kind s with ⟨hc, _, hh, _, _, _⟩ | ⟨e, _⟩
    · have hgen : (takeUpStore (restartClock kind s)).hotlist.generation = s.hotlist.generation :=
        Eq.trans (b := (restartClock kind s).hotlist.generation) rfl (by rw [hh])
      have hlist : (takeUpStore (restartClock kind s)).hotlist.master = s.hotlist.master :=
        Eq.trans (b := (restartClock kind s).hotlist.master) rfl (by rw [hh])
      unfold ListGenerationsOk
      rw [hgen, hlist]
      exact ⟨hmaster, hmap (f := fun c => { c with job := none }) (fun _ => rfl) ((takeUpStore_cases _).trans (by rw [hc]))⟩
    · rw [e]
      exact ⟨fun _ h => (List.not_mem_nil h).elim, fun _ h => (List.not_mem_nil h).elim⟩

theorem ZoneBound.mono {g k : Nat} {r : Zone} (h : ZoneBound g r) (hgk : g ≤ k) : ZoneBound k r :=
  ⟨Nat.le_trans h.1 hgk, fun b hb => Nat.le_trans (h.2 b hb) hgk⟩

/-- No zone's generation passes the current one, which rises with a package. -/
theorem Does.zoneBounds {i : Instr} {s t : State} (hs : ∀ z : ZoneId, ZoneBound s.hotlist.generation s.zones[z]) (h : Does s i t)
    (z : ZoneId) : ZoneBound t.hotlist.generation t.zones[z] := by
  rcases h.zonesStep with ⟨hstep, hgen⟩ | ⟨kind, hz, hgen⟩
  · exact ((hstep z).bound (hs z)).mono hgen
  · rw [hz, hgen, restartedZones_get]
    refine (zoneStep_restart _).bound ?_
    rcases restartClock_parts kind s with ⟨_, _, hh, _, hz, _⟩ | ⟨e, _⟩
    · rw [hz, hh]
      exact hs z
    · rw [e, show (eraseStore s).zones[z] = Zone.erased from Vector.getElem_replicate _]
      exact ⟨Nat.zero_le _, fun _ h => by cases h⟩

/-- Settles O10: a generation is stored where it is the current one, or where a header's was checked against it. -/
theorem generationsStayBounded : Obligations.GenerationsStayBounded := by
  intro s t hs h
  obtain ⟨hmaster, hcases, hzones⟩ := hs
  have hlist : ListGenerationsOk t :=
    step_keeps_of_moves (fun _ _ h => h) (fun _ _ _ => listGenerations_of_moves) (fun _ _ => listGenerations_of_keeps)
      ⟨hmaster, hcases⟩ h
  have hbound : ∀ z : ZoneId, ZoneBound t.hotlist.generation t.zones[z] :=
    step_keeps (P := fun s => ∀ z : ZoneId, ZoneBound s.hotlist.generation s.zones[z]) (fun _ _ h => h)
      (fun _ _ _ hs hd => hd.zoneBounds hs) hzones h
  exact ⟨hlist.1, hlist.2, hbound⟩

end Sys2Proof.Machine
end

section
/-! PROOF. Restoration arithmetic (04_restoration_arithmetic.md): the advance and the written purse (R71 to R75, R13), and the
delta of an adjustment (R83). -/

namespace Sys2Proof.Machine

/-! ### The issue figures (R71 to R75) -/

/-- Of an unsettled case the advance is the known purse, as far as it is positive, less the holdback. -/
theorem advance_of_unsettled {c : Case} (h : c.settlement = none) :
    (advance c : Int) = max (knownPurse c) 0 - min (max (knownPurse c) 0) (exposure c.terms) := by
  simp only [advance, h, holdback]
  omega

/-- The purse segment that an issue job writes holds the written purse with card counter 0 (R13). -/
theorem issueContent_purseSegment (caseNo : Nat) (fig : IssueFigures) :
    issueContent caseNo fig (purseSegment fig.family) = some (.purse fig.purse 0) := by
  simp [issueContent, purseSegment]

/-- Settles O59: the advance by R71 and R72; the purse is a minimum and the unplaced value what it leaves. -/
theorem writtenPurseHoldsTheAdvance : Obligations.WrittenPurseHoldsTheAdvance := by
  intro target serial d c
  refine ⟨fun h => advance_of_unsettled h, rfl, ?split, ?bounded, ?unplaced, ?segment⟩
  case split => simp only [issueFigures]; omega
  case bounded => exact Nat.min_le_left _ _
  case unplaced => simp only [issueFigures]; omega
  case segment => exact issueContent_purseSegment c.number (issueFigures target serial d c)

/-! ### Adjustments (R83) -/

/-- A settlement from the card, or a counter past its Cmax, places the event BEYOND, and nothing else does. -/
theorem placeOf_eq (f : Settlement) (e : CardEvent) :
    placeOf f e = if f.kind = .fromCard ∨ f.cmax < e.counter then Place.beyond else .gap := by
  unfold placeOf
  by_cases h : f.kind = .fromCard ∨ f.cmax < e.counter
  · rw [if_pos h, if_neg]; rintro ⟨hk, hc⟩; rcases h with h | h
    · exact hk h
    · omega
  · rw [if_neg h, if_pos]; exact ⟨fun hk => h (.inl hk), by omega⟩

/-- What a place charges for the event it holds (R83). -/
def placeFare (c : Case) : Place → Int
  | .gap => c.terms.presumedFare
  | .beyond => 0

/-- The delta by kind, over what the event's place charges. -/
theorem adjustmentDelta_eq (c : Case) (f : Settlement) (e : CardEvent) :
    adjustmentDelta c f e =
      match e.kind with
      | .paid => placeFare c (placeOf f e) - e.amount
      | .topup => placeFare c (placeOf f e) + e.amount
      | .carnet => placeFare c (placeOf f e) - slotTripValue c e.slot
      | .pass | .blocked => placeFare c (placeOf f e) := by
  have hfare : (if placeOf f e = .gap then (c.terms.presumedFare : Int) else 0) = placeFare c (placeOf f e) := by
    cases placeOf f e <;> rfl
  cases hk : e.kind <;> simp only [adjustmentDelta, hfare, hk]

/-- The trip value of a slot whose product is a carnet. -/
theorem slotTripValue_of_carnet {c : Case} {n slot price purchased : Nat} {zones : ZoneSet} {remaining : Int}
    (h : c.snapshot.products.find? (fun p => p.slot = n) = some ⟨slot, price, zones, .carnet purchased remaining⟩) :
    slotTripValue c n = (2 * price + purchased) / (2 * purchased) := by
  rw [slotTripValue, h]; rfl

/-- A slot without a carnet has no trip value. -/
theorem slotTripValue_of_no_carnet {c : Case} {n : Nat}
    (h : ∀ p ∈ c.snapshot.products, p.slot = n → kindName p.fields ≠ .carnet) : slotTripValue c n = 0 := by
  unfold slotTripValue
  split
  case h_1 price zones purchased remaining hfound =>
    have hslot := List.find?_some hfound
    exact absurd rfl (h _ (List.mem_of_find?_eq_some hfound) (by simpa using hslot))
  case h_2 => rfl

/-- Settles O60: the place decides what the event is charged, its kind what is added or taken. -/
theorem adjustmentDeltasByPlaceAndKind : Obligations.AdjustmentDeltasByPlaceAndKind := by
  intro c f e
  refine ⟨placeOf_eq f e, fun h => ?paid, fun h => ?topup, fun slot price zones purchased remaining h hs => ?carnet,
    fun h hs => ?noCarnet, fun h => ?other⟩
  case paid => simp only [adjustmentDelta_eq, h, placeOf_eq]; rfl
  case topup => simp only [adjustmentDelta_eq, h, placeOf_eq]; rfl
  case carnet => simp only [adjustmentDelta_eq, h, placeOf_eq, slotTripValue_of_carnet hs]; rfl
  case noCarnet =>
    simp only [adjustmentDelta_eq, h, placeOf_eq, slotTripValue_of_no_carnet hs, Nat.cast_zero, Int.sub_zero]; rfl
  case other => rcases h with h | h <;> simp only [adjustmentDelta_eq, h, placeOf_eq] <;> rfl

end Sys2Proof.Machine
end

section
/-! PROOF. The reading requests (R41, R42, R67, R113, R124, R163, R181, R192, R194) and CONCESSION SET (R66). -/

namespace Sys2Proof.Machine

/-! ### The case and the owner test (R21) -/

theorem withCase_of_some {b : List Byte} {s : State} {c : Case} (work : Case → State × Reply)
    (h : s.findCase (fieldAt 0 4 b) = some c) : withCase b s work = work c := by
  rw [withCase, h]

theorem withOwnCase_of_some {l : LinkId} {b : List Byte} {s : State} {c : Case} (work : Case → State × Reply)
    (h : s.findCase (fieldAt 0 4 b) = some c) (hown : c.owner = l ∨ s.links[l].rights.approve = true) :
    withOwnCase l b s work = work c := by
  have hmay : ownerMay l c s = true := by
    rcases hown with ho | ha
    · simp [ownerMay, ho]
    · simp only [ownerMay, ha, Bool.true_or]
  rw [withOwnCase, withCase_of_some _ h, if_pos hmay]

/-- The zone a control request names (R117). -/
theorem withZone_of_some {b : List Byte} {s : State} {z : ZoneId} (work : ZoneId → State × Reply)
    (hz : zoneOf (fieldAt 0 1 b) = some z) : withZone b s work = work z := by
  rw [withZone, hz]

/-! ### Reading requests -/

/-- A request whose handler answers DONE and leaves the state completes from it to it. -/
theorem reads_of {k : Kind} {h : Handler} {r : Request} {l : LinkId} {rest : List BufferPlace} {s : State} {f : Fields}
    (hx : exec (requestCommand k r) s = .next (take k h r s)) (hr : Reaches k r l rest s)
    (hh : h l r.body s = answer f s) : Completes k r rest s s ⟨.done, f⟩ :=
  completes_of_cases hx hr hh rfl rfl

theorem handleCaseQuery_of_part {l : LinkId} {b : List Byte} {s : State} {c : Case} {part : CasePart}
    (hc : s.findCase (fieldAt 0 4 b) = some c) (hp : casePartOf (fieldAt 4 1 b) = some part) (hn : fieldAt 5 1 b ≤ 63) :
    handleCaseQuery l b s = answer (partOf part (fieldAt 5 1 b) c) s := by
  rw [handleCaseQuery, withCase_of_some _ hc]
  simp only [hp, if_neg (Nat.not_lt.mpr hn)]

/-- The cases that CASE LIST finds are those at or above the start number that pass both filters. -/
theorem listedCases_eq (start : Nat) (st : Option CaseState) (own : Bool) (l : LinkId) (s : State) :
    listedCases start st own l s =
      s.cases.filter fun c => start ≤ c.number ∧ (∀ x, st = some x → c.state = x) ∧ (own = true → c.owner = l) := by
  refine List.filter_congr fun c _ => ?_
  cases st <;> cases own <;> simp [Bool.and_assoc]

theorem handleCaseList_of_filters {l : LinkId} {b : List Byte} {s : State} {st : Option CaseState} {own : Bool}
    (hst : stateFilterOf (fieldAt 4 1 b) = some st) (hown : ownerFilterOf (fieldAt 5 1 b) = some own)
    (hn : 1 ≤ fieldAt 0 4 b) :
    handleCaseList l b s =
      answer (.caseList (((listedCases (fieldAt 0 4 b) st own l s).take 16).map fun c => ⟨c.number, c.state, c.owner⟩)
        (decide (16 < (listedCases (fieldAt 0 4 b) st own l s).length))) s := by
  have hn0 : bodyCase b ≠ 0 := Nat.one_le_iff_ne_zero.mp hn
  simp only [handleCaseList, hst, hown, if_neg hn0]

theorem handleHotlistRead_of_master {l : LinkId} {b : List Byte} {s : State} (hp : fieldAt 0 1 b = 1)
    (hn : fieldAt 1 2 b ≤ 255) :
    handleHotlistRead l b s =
      answer (.hotlistMaster (hotlistSummary s.hotlist) (pageOf (fieldAt 1 2 b) (publishedEntries s.hotlist))
        (moreOf (fieldAt 1 2 b) (publishedEntries s.hotlist))) s := by
  simp only [handleHotlistRead, hp, hotlistPartOf, if_neg (Nat.not_lt.mpr hn)]

theorem handleHotlistRead_of_pending {l : LinkId} {b : List Byte} {s : State} (hp : fieldAt 0 1 b = 2)
    (hn : fieldAt 1 2 b ≤ 511) :
    handleHotlistRead l b s =
      answer (.hotlistPending (hotlistSummary s.hotlist) (pageOf (fieldAt 1 2 b) s.hotlist.pending)
        (moreOf (fieldAt 1 2 b) s.hotlist.pending)) s := by
  simp only [handleHotlistRead, hp, hotlistPartOf, if_neg (Nat.not_lt.mpr hn)]

/-- The current service day is the announced day of a set clock (R191). -/
theorem dayOf_eq (s : State) : dayOf s = s.clock.second.map fun _ => s.clock.announcedDay := by
  unfold dayOf; cases s.clock.second <;> rfl

/-- Settles O29: each handler answers DONE with what it reads and leaves the state. -/
theorem readingRequestsLeaveTheState : Obligations.ReadingRequestsLeaveTheState := by
  intro r l rest s
  refine ⟨fun c part hr hc hp hn => ?query, fun st own hr hst hown hn => ?list, fun hr => ?concession,
    fun start hstart hr => ?hotlist, fun z hr hz => ?zone, fun p hr hp => ?port, fun m hr hm => ?link, fun hr => ?time,
    fun hr => ?device⟩
  case query => exact reads_of rfl hr (handleCaseQuery_of_part hc hp hn)
  case list =>
    have h := reads_of rfl hr (handleCaseList_of_filters (s := s) hst hown hn)
    rwa [listedCases_eq] at h
  case concession => exact reads_of rfl hr rfl
  case hotlist =>
    subst hstart
    exact ⟨fun hp hn => reads_of rfl hr (handleHotlistRead_of_master hp hn),
      fun hp hn => reads_of rfl hr (handleHotlistRead_of_pending hp hn)⟩
  case zone => exact reads_of rfl hr (by rw [handleZoneStatus, withZone_of_some _ hz])
  case port => exact reads_of rfl hr (by rw [handlePortStatus, withPort_of_some _ hp])
  case link => exact reads_of rfl hr (by simp only [handleLinkRead, hm]; rfl)
  case time => exact reads_of rfl hr (by rw [handleTimeRead, dayOf_eq])
  case device => exact reads_of rfl hr rfl

/-! ### CONCESSION SET (R66) -/

theorem classOf_of_val {n : Nat} {cls : Fin 16} (h : n = cls.val) : classOf n = some cls := by
  subst h; simp [classOf]

theorem classOf_of_above {n : Nat} (h : 15 < n) : classOf n = none := by
  rw [classOf, dif_neg (by omega)]

/-- A number clamped into a range that begins at 0. -/
theorem clampTo_zero (hi n : Nat) : clampTo 0 hi n = min hi n := Nat.zero_max _

theorem handleConcessionSet_of_class {l : LinkId} {b : List Byte} {s : State} {cls : Fin 16}
    (h : fieldAt 0 1 b = cls.val) :
    handleConcessionSet l b s =
      (s.setTerms cls (clampTerms (bodyTerms b)),
        ⟨.done, .concessionSet cls.val (clampTerms (bodyTerms b)) (termMarks (bodyTerms b))⟩) := by
  simp only [handleConcessionSet, classOf_of_val h, answer]

theorem handleConcessionSet_of_no_class {l : LinkId} {b : List Byte} {s : State} (h : 15 < fieldAt 0 1 b) :
    handleConcessionSet l b s = (s, ⟨.badField, .none⟩) := by
  simp only [handleConcessionSet, classOf_of_above h, refuse]

/-- Settles O30: without ADMIN the link checks refuse, a class above 15 is no row, and else the clamped row is stored. -/
theorem concessionSetStoresTheRow : Obligations.ConcessionSetStoresTheRow := by
  intro r l rest s hframe hlink hactive
  have reaches (hadmin : s.links[l].rights.admin = true) : Reaches .concessionSet r l rest s :=
    ⟨hframe, hlink, hactive, hadmin⟩
  refine ⟨fun hadmin => ?noRight, fun hadmin h => ?badField, fun cls hadmin h => ?stored⟩
  case noRight =>
    exact refuses_of rfl hframe.1 (handle_of_linkStatus hframe hlink (linkStatus_of_lacking_right hactive hadmin))
  case badField => exact completes_of_cases rfl (reaches hadmin) (handleConcessionSet_of_no_class h) rfl rfl
  case stored =>
    have hdone := completes_of_cases rfl (reaches hadmin) (handleConcessionSet_of_class (s := s) h) rfl rfl
    simp only [clampTerms, termMarks, bodyTerms, clampTo_zero] at hdone
    exact hdone

end Sys2Proof.Machine
end

section
/-! PROOF. The link requests (R177 to R180), CASE TRANSFER (R40) and REPORT FETCH (R184). -/

namespace Sys2Proof.Machine

/-- The first entry of 0, 1, … that a test holds of. -/
theorem find?_finRange {n : Nat} {p : Fin n → Bool} {i : Fin n} (hp : p i = true) (hfirst : ∀ j, j < i → p j = false) :
    (List.finRange n).find? p = some i := by
  rw [List.find?_eq_some_iff_getElem]
  refine ⟨hp, i.val, by simp, by simp, fun j hj => ?_⟩
  simp only [List.getElem_finRange, Bool.not_eq_true']
  exact hfirst _ (Fin.lt_def.mpr hj)

/-! ### LINK CREATE (R177) -/

/-- The record that a body passing check 1 of R177 describes. -/
theorem readLink_of_fields {l : LinkId} {b : List Byte} {rights : Rights} {ch : Fin 4} {zone : Option ZoneId}
    (hr : readRights (fieldAt 0 1 b) = some rights) (hch : channelOf (fieldAt 1 1 b) = some ch)
    (hz : (fieldAt 2 1 b = 0 ∧ zone = none) ∨
      (rights.feed = true ∧ ∃ z, zoneOf (fieldAt 2 1 b) = some z ∧ zone = some z)) :
    readLink l b = some ⟨.active, rights, ch, some l, zone, fieldAt 3 2 b⟩ := by
  rw [readLink, hr, Option.bind_some, linkFields]
  rcases hz with ⟨h0, rfl⟩ | ⟨hfeed, z, hz, rfl⟩
  · simp only [hch, h0]
  · have hne : fieldAt 2 1 b ≠ 0 := fun h0 => by rw [h0] at hz; cases hz
    simp only [hch, hz, hfeed]

/-- Rights that are held one by one are held together (R177 check 2). -/
theorem rightsWithin_of_each {a b : Rights} (ho : a.opens = true → b.opens = true) (ha : a.approve = true → b.approve = true)
    (hf : a.feed = true → b.feed = true) (hd : a.admin = true → b.admin = true) (hg : a.grants = true → b.grants = true) :
    rightsWithin a b = true := by
  simp only [rightsWithin, Bool.and_eq_true, Bool.or_eq_true, Bool.not_eq_true']
  have held (x y : Bool) (h : x = true → y = true) : x = false ∨ y = true := by
    cases x
    · exact .inl rfl
    · exact .inr (h rfl)
  exact ⟨⟨⟨⟨held _ _ ho, held _ _ ha⟩, held _ _ hf⟩, held _ _ hd⟩, held _ _ hg⟩

theorem lowestFree_eq {s : State} {n : LinkId} (hn : n ≠ rootLink) (hfree : s.links[n].state = .free)
    (hlow : ∀ m : LinkId, m < n → m ≠ rootLink → s.links[m].state ≠ .free) : lowestFree s = some n := by
  refine find?_finRange ?_ fun m hm => ?_
  · rw [decide_eq_true hn, decide_eq_true hfree]; rfl
  · by_cases hroot : m = rootLink
    · rw [decide_eq_false (not_not_intro hroot)]; rfl
    · rw [decide_eq_false (hlow m hm hroot), Bool.and_false]

/-- Settles O49: the body describes the record, the rights are within the creator's, and the record taken is the lowest FREE one. -/
theorem linkCreateTakesTheLowestFreeRecord : Obligations.LinkCreateTakesTheLowestFreeRecord := by
  intro r l n rest s rights ch zone hr hrights hch hzone ho ha hf hd hg hroot hfree hlow
  refine completes_of_cases rfl hr (t := s.setLink n ⟨.active, rights, ch, some l, zone, fieldAt 3 2 r.body⟩) ?_ rfl rfl
  simp only [handleLinkCreate, readLink_of_fields hrights hch hzone, rightsWithin_of_each ho ha hf hd hg,
    lowestFree_eq hroot hfree hlow, if_true, answer]

/-! ### LINK MOVE, SUSPEND, RESUME and DELETE (R178 to R180) -/

theorem withTarget_of_managed {l target : LinkId} {b : List Byte} {s : State} (work : LinkId → State × Reply)
    (ht : linkOf (fieldAt 0 1 b) = some target) (hlive : s.links[target].state ≠ .free) (hroot : target ≠ rootLink)
    (hmanaged : s.links[target].creator = some l ∨ l = rootLink) : withTarget l b s work = work target := by
  have hstatus : targetStatus l target s = none := by
    rw [targetStatus, if_neg hlive, if_neg hroot, if_pos hmanaged]
  simp only [withTarget, ht, hstatus]

theorem childrenOf_eq_nil {target : LinkId} {s : State}
    (h : ∀ c : LinkId, s.links[c].state ≠ .free → s.links[c].creator ≠ some target) : childrenOf target s = [] := by
  refine List.filter_eq_nil_iff.mpr fun c _ hc => ?_
  rw [Bool.and_eq_true] at hc
  exact h c (of_decide_eq_true hc.1) (of_decide_eq_true hc.2)

theorem recipientOf_eq {target recipient : LinkId} {n : Nat} {s : State} (hn : linkOf n = some recipient)
    (hne : recipient ≠ target) (hactive : s.links[recipient].state = .active)
    (hopens : s.links[recipient].rights.opens = true) : recipientOf target n s = .ok recipient := by
  simp only [recipientOf, hn, hactive, hopens]
  rw [if_neg (by rintro (h | h) <;> [exact hne h; cases h]), if_neg (by intro h; cases h), if_pos trivial]

/-- Settles O50: the four requests on a managed target; DELETE frees it after its cases, if any, went to the recipient. -/
theorem linkManagementChangesTheTarget : Obligations.LinkManagementChangesTheTarget := by
  intro r l target rest s ht hlive hroot hmanaged
  dsimp only
  have managed (work : LinkId → State × Reply) : withTarget l r.body s work = work target :=
    withTarget_of_managed work ht hlive hroot hmanaged
  refine ⟨fun ch hr hch => ?move, fun hr => ?suspend, fun hr => ?resume, fun hr hbody hchild =>
    ⟨fun hown => ?delete, fun recipient hown hrec hne hactive hopens => ?handOn⟩⟩
  case move =>
    exact completes_of_cases rfl hr (by rw [handleLinkMove, managed]; simp only [hch]; rfl) rfl rfl
  case suspend => exact completes_of_cases rfl hr (by rw [handleLinkSuspend, managed]; rfl) rfl rfl
  case resume => exact completes_of_cases rfl hr (by rw [handleLinkResume, managed]; rfl) rfl rfl
  case delete =>
    have hnone : ownedBy target s = [] :=
      List.filter_eq_nil_iff.mpr fun c hc howner => hown c hc (of_decide_eq_true howner)
    refine completes_of_cases rfl hr (t := freeLink target s) ?_ rfl rfl
    rw [handleLinkDelete, managed, if_neg (Nat.not_lt.mpr hbody), if_neg (not_not_intro (childrenOf_eq_nil hchild)),
      if_pos hnone]
    rfl
  case handOn =>
    have hsome : ownedBy target s ≠ [] := by
      obtain ⟨c, hc, howner⟩ := hown
      exact List.ne_nil_of_mem (List.mem_filter.mpr ⟨hc, decide_eq_true howner⟩)
    refine completes_of rfl hr (t := freeLink target (transferCases target recipient s)) ?_ rfl
    rw [handleLinkDelete, managed, if_neg (Nat.not_lt.mpr hbody), if_neg (not_not_intro (childrenOf_eq_nil hchild)),
      if_neg hsome]
    simp only [recipientOf_eq hrec hne hactive hopens]
    rfl

/-! ### CASE TRANSFER (R40) -/

/-- Settles O26: an ACTIVE new owner with OPEN passes, and the case's owner is what changes. -/
theorem caseTransferChangesTheOwner : Obligations.CaseTransferChangesTheOwner := by
  intro r l owner rest s c hr hc howner hactive hopens
  refine completes_of rfl hr (t := s.modCase c.number fun d => { d with owner := owner }) ?_ rfl
  rw [handleCaseTransfer, withCase_of_some _ hc]
  simp only [howner, newOwnerStatus, hactive, hopens, if_true]
  rfl

/-! ### REPORT FETCH (R184) -/

/-- The reports of all four queues, counted through the list of channels. -/
theorem waitingReports_eq (s : State) : waitingReports s = (s.channels.toList.map fun x => x.queue.length).sum := by
  unfold waitingReports
  obtain ⟨⟨l⟩, hl⟩ := s.channels
  match l, hl with
  | [a, b, c, d], _ => simp [Nat.add_assoc]

/-- Taking the head of a queue leaves one report less. -/
theorem waitingReports_taken {s : State} {c : Fin 4} {head : Report} {tail : List Report}
    (h : s.channels[c].queue = head :: tail) : waitingReports (s.setChannel c ⟨tail, 0⟩) + 1 = waitingReports s := by
  have hlen : s.channels[c].queue.length = tail.length + 1 := by rw [h]; rfl
  unfold waitingReports State.setChannel
  fin_cases c <;> simp at hlen ⊢ <;> omega

theorem firstChannel_eq {s : State} {c : Fin 4} (hc : s.channels[c].queue ≠ [])
    (hlow : ∀ d : Fin 4, d < c → s.channels[d].queue = []) : firstChannel s = some c := by
  refine find?_finRange ?_ fun d hd => ?_
  · rw [Bool.not_eq_true', List.isEmpty_eq_false_iff]; exact hc
  · rw [hlow d hd]; rfl

theorem firstChannel_eq_none {s : State} (h : ∀ c : Fin 4, s.channels[c].queue = []) : firstChannel s = none := by
  refine List.find?_eq_none.mpr fun c _ => ?_
  rw [h c]; decide

/-- Settles O51: the first channel with a report gives its head; without one nothing is taken. -/
theorem reportFetchTakesTheFirstReport : Obligations.ReportFetchTakesTheFirstReport := by
  intro r l rest s hr
  refine ⟨fun hnone => ?empty, fun c head tail hc hlow => ?taken⟩
  case empty => exact reads_of rfl hr (by simp only [handleReportFetch, firstChannel_eq_none hnone])
  case taken =>
    refine completes_of_cases rfl hr (t := s.setChannel c ⟨tail, 0⟩) ?_ rfl rfl
    have hfirst : firstChannel s = some c := firstChannel_eq (by rw [hc]; exact List.cons_ne_nil _ _) hlow
    simp only [handleReportFetch, hfirst, fetchFrom, hc, answer, ← waitingReports_eq, ← waitingReports_taken hc,
      Nat.add_sub_cancel]

end Sys2Proof.Machine
end

section
/-! PROOF. The zone control requests (R118 to R121, R123), and the feed requests up to the commit: the header (R126), the records
(R129, R130), and the faults that are counted (R125, R131, R135). -/

namespace Sys2Proof.Machine

/-! ### Control requests -/

theorem handleZoneConfigure_of_unfed {l : LinkId} {b : List Byte} {s : State} {z : ZoneId} {m : SumMethod}
    (hz : zoneOf (fieldAt 0 1 b) = some z) (hm : sumMethodOf (fieldAt 1 1 b) = some m)
    (hfed : isFed s.zones[z].state = false) :
    handleZoneConfigure l b s =
      (configureZone z m (clampTo 1 255 (fieldAt 2 1 b)) (clampTo 1 7 (fieldAt 3 1 b)) s,
        ⟨.done, .zoneConfigured m (clampTo 1 255 (fieldAt 2 1 b)) (clampTo 1 7 (fieldAt 3 1 b))
          [clampedMark (fieldAt 2 1 b) (clampTo 1 255 (fieldAt 2 1 b)),
            clampedMark (fieldAt 3 1 b) (clampTo 1 7 (fieldAt 3 1 b))]⟩) := by
  rw [handleZoneConfigure, withZone_of_some _ hz]
  simp only [hm, hfed]
  rfl

/-- Settles O32: an UNUSED or HELD zone is not fed, so its record is set afresh and its closures are taken back. -/
theorem zoneConfigureSetsTheRecord : Obligations.ZoneConfigureSetsTheRecord := by
  intro r l rest s z m hr hz hm hstate
  have hfed : isFed s.zones[z].state = false := by rcases hstate with h | h <;> rw [h] <;> rfl
  exact completes_of rfl hr (handleZoneConfigure_of_unfed hz hm hfed) rfl

/-- A zone is fed in HUNT, OPEN_BATCH and ALIGNED (R116). -/
theorem isFed_iff (st : ZoneState) : isFed st = true ↔ st = .hunt ∨ st = .openBatch ∨ st = .aligned := by
  cases st <;> simp [isFed]

theorem handleZoneHold_of_fed {l : LinkId} {b : List Byte} {s : State} {z : ZoneId}
    (hz : zoneOf (fieldAt 0 1 b) = some z) (hfed : isFed s.zones[z].state = true) :
    handleZoneHold l b s = answer .none (s.modZone z heldZone) := by
  rw [handleZoneHold, withZone_of_some _ hz]
  rcases (isFed_iff _).mp hfed with h | h | h <;> simp only [h]

theorem handleZoneResync_eq {l : LinkId} {b : List Byte} {s : State} {z : ZoneId} (hz : zoneOf (fieldAt 0 1 b) = some z) :
    handleZoneResync l b s =
      if isFed s.zones[z].state = true then answer .none (s.modZone z resyncedZone) else refuse .wrongState s := by
  rw [handleZoneResync, withZone_of_some _ hz]

/-- Settles O33: each of the four requests by the zone's state. -/
theorem zoneControlsChangeOneZone : Obligations.ZoneControlsChangeOneZone := by
  intro r l rest s z hz
  dsimp only
  refine ⟨fun hr => ⟨fun h => ?release, fun h => ?releaseWrong⟩, fun hr => ⟨fun h => ?hold, fun h => ?held, fun h => ?holdWrong⟩,
    fun hr => ⟨fun h => ?resync, fun h => ?resyncWrong⟩, fun hr => ⟨fun h => ?clear, fun h => ?clearWrong⟩⟩
  case release =>
    refine completes_of_cases rfl hr (t := s.modZone z (releasedZone (s.clock.second.map fun _ => s.clock.announcedDay))) ?_
      rfl rfl
    rw [handleZoneRelease, withZone_of_some _ hz, if_pos h, dayOf_eq, answer]
  case releaseWrong =>
    exact completes_of_cases rfl hr (by rw [handleZoneRelease, withZone_of_some _ hz, if_neg h, refuse]) rfl rfl
  case hold => exact completes_of_cases rfl hr (handleZoneHold_of_fed hz ((isFed_iff _).mpr h)) rfl rfl
  case held =>
    exact reads_of rfl hr (by rw [handleZoneHold, withZone_of_some _ hz]; simp only [h])
  case holdWrong =>
    exact completes_of_cases rfl hr (by rw [handleZoneHold, withZone_of_some _ hz]; simp only [h, refuse]) rfl rfl
  case resync =>
    exact completes_of_cases rfl hr (by rw [handleZoneResync_eq hz, if_pos ((isFed_iff _).mpr h)]; rfl) rfl rfl
  case resyncWrong =>
    exact completes_of_cases rfl hr (by rw [handleZoneResync_eq hz, if_neg (fun hf => h ((isFed_iff _).mp hf)), refuse]) rfl rfl
  case clear =>
    exact completes_of_cases rfl hr (by rw [handleZoneClear, withZone_of_some _ hz, if_neg h]; rfl) rfl rfl
  case clearWrong =>
    exact completes_of_cases rfl hr (by rw [handleZoneClear, withZone_of_some _ hz, if_pos h, refuse]) rfl rfl

/-! ### The checks of a feed request (R125) -/

theorem feedStatus_of_fed {r : Zone} (h : isFed r.state = true) : feedStatus r = none := by
  rcases (isFed_iff _).mp h with h | h | h <;> simp only [feedStatus, h]

theorem withFeed_of_fed {l : LinkId} {b : List Byte} {s : State} {z : ZoneId} (work : ZoneId → State × Reply)
    (hz : zoneOf (fieldAt 0 1 b) = some z) (hl : s.links[l].zone = some z) (hfed : isFed s.zones[z].state = true) :
    withFeed l b s work = work z := by
  rw [withFeed, withZone_of_some _ hz, if_neg (not_not_intro hl)]
  simp only [feedStatus_of_fed hfed]

theorem withFeed_of_no_zone {l : LinkId} {b : List Byte} {s : State} (work : ZoneId → State × Reply)
    (hz : zoneOf (fieldAt 0 1 b) = none) : withFeed l b s work = refuse .badField s := by
  rw [withFeed, withZone, hz]

theorem withFeed_of_other_zone {l : LinkId} {b : List Byte} {s : State} {z : ZoneId} (work : ZoneId → State × Reply)
    (hz : zoneOf (fieldAt 0 1 b) = some z) (hl : s.links[l].zone ≠ some z) : withFeed l b s work = refuse .noRight s := by
  rw [withFeed, withZone_of_some _ hz, if_pos hl]

theorem withFeed_of_status {l : LinkId} {b : List Byte} {s : State} {z : ZoneId} {st : Status} (work : ZoneId → State × Reply)
    (hz : zoneOf (fieldAt 0 1 b) = some z) (hl : s.links[l].zone = some z) (hst : feedStatus s.zones[z] = some st) :
    withFeed l b s work = refuse st s := by
  rw [withFeed, withZone_of_some _ hz, if_neg (not_not_intro hl)]
  simp only [hst]

/-- A feed request of each of the three kinds is its work behind the checks of R125. -/
theorem feed_completes {k : Kind} {r : Request} {l : LinkId} {rest : List BufferPlace} {s t : State} {reply : Reply}
    (hk : k = .batchHeader ∨ k = .batchRecords ∨ k = .batchEnd) (hr : Reaches k r l rest s)
    (h : ∀ work : ZoneId → State × Reply, withFeed l r.body s work = (t, reply)) (ht : t.terminal = s.terminal)
    (hc : t.cases = s.cases) : Completes k r rest s t reply := by
  rcases hk with rfl | rfl | rfl
  · exact completes_of_cases rfl hr (h _) ht hc
  · exact completes_of_cases rfl hr (h _) ht hc
  · exact completes_of_cases rfl hr (h _) ht hc

/-! ### BATCH HEADER (R126) -/

theorem faultCounted_expected (c : ErrorCount) (z : ZoneId) (r : Zone) (s : State) :
    (faultCounted c z r s).zones[z].expected = r.expected := by
  unfold faultCounted; dsimp only; split <;> rw [zones_set_get]

theorem faultCounted_method (c : ErrorCount) (z : ZoneId) (r : Zone) (s : State) :
    (faultCounted c z r s).zones[z].method = r.method := by
  unfold faultCounted; dsimp only; split <;> rw [zones_set_get]

theorem headerReady_expected (z : ZoneId) (s : State) : (headerReady z s).zones[z].expected = s.zones[z].expected := by
  unfold headerReady; split
  · exact faultCounted_expected ..
  · rfl

theorem headerReady_method (z : ZoneId) (s : State) : (headerReady z s).zones[z].method = s.zones[z].method := by
  unfold headerReady; split
  · exact faultCounted_method ..
  · rfl

theorem headerReady_hotlist (z : ZoneId) (s : State) : (headerReady z s).hotlist = s.hotlist := by
  unfold headerReady; split
  · exact faultCounted_hotlist ..
  · rfl

theorem headerReady_cases (z : ZoneId) (s : State) : (headerReady z s).cases = s.cases := by
  unfold headerReady; split
  · exact faultCounted_cases ..
  · rfl

theorem headerReady_terminal (z : ZoneId) (s : State) : (headerReady z s).terminal = s.terminal := by
  unfold headerReady; split
  · exact faultCounted_terminal ..
  · rfl

/-- The header sum goes by the zone's method, which a discarded batch leaves (R127). -/
theorem headerSum_headerReady (z : ZoneId) (s : State) (h : HeaderFields) (b : List Byte) :
    headerSum (headerReady z s).zones[z] z h b = headerSum s.zones[z] z h b := by
  unfold headerSum; rw [headerReady_method]

/-- A header at a fed zone under a set clock is checked against what it finds there (R126). -/
theorem handleBatchHeader_of_fed {l : LinkId} {b : List Byte} {s : State} {z : ZoneId} (hz : zoneOf (fieldAt 0 1 b) = some z)
    (hl : s.links[l].zone = some z) (hfed : isFed s.zones[z].state = true) (hclock : s.clock.second ≠ none) :
    handleBatchHeader l b s = headerChecked z (bodyHeader b) b (headerReady z s) := by
  rw [handleBatchHeader, withFeed_of_fed _ hz hl hfed, if_neg hclock, discardForHeader_eq]

/-- A header whose sum and fields pass is decided by its sequence (R126 step 5). -/
theorem headerChecked_of_fields {z : ZoneId} {h : HeaderFields} {b : List Byte} {s : State}
    (hsum : h.sum = headerSum s.zones[z] z h b) (hseq : 1 ≤ h.sequence) (hgen : h.generation ≤ s.hotlist.generation) :
    headerChecked z h b s = sequenceChecked z h s := by
  rw [headerChecked, if_neg (not_not_intro hsum), if_neg (by omega)]

theorem sequenceChecked_of_expected {z : ZoneId} {h : HeaderFields} {s : State}
    (he : ∀ e, s.zones[z].expected = some e → h.sequence = e) :
    sequenceChecked z h s = answer (.headerTaken h.sequence) (s.modZone z (openZone h)) := by
  unfold sequenceChecked
  split
  · rfl
  · next e hx =>
    have := he e hx
    rw [if_neg (by omega), if_neg (by omega)]

/-- Settles O35: at the zone as the header finds it the sum, the fields and the sequence pass, and the batch opens. -/
theorem batchHeaderOpensTheBatch : Obligations.BatchHeaderOpensTheBatch := by
  intro r l rest s z hr hz hl hstate hclock
  dsimp only
  intro hsum hseq hgen hexp
  have hfed : isFed s.zones[z].state = true := (isFed_iff _).mpr (by tauto)
  refine completes_of_cases rfl hr (t := (headerReady z s).modZone z (openZone (bodyHeader r.body))) ?_
    (headerReady_terminal z s) (headerReady_cases z s)
  have hsum' : (bodyHeader r.body).sum = headerSum (headerReady z s).zones[z] z (bodyHeader r.body) r.body := by
    rw [headerSum_headerReady]; exact hsum
  rw [handleBatchHeader_of_fed hz hl hfed hclock, headerChecked_of_fields hsum' hseq (by rw [headerReady_hotlist]; exact hgen),
    sequenceChecked_of_expected (by rw [headerReady_expected]; exact hexp)]
  rfl

/-! ### Faults (R125, R126, R131) -/

/-- A header at a fed zone that ends in `u` completes with `u`. -/
theorem header_completes {r : Request} {l : LinkId} {rest : List BufferPlace} {s u : State} {z : ZoneId} {reply : Reply}
    (hr : Reaches .batchHeader r l rest s) (hz : zoneOf (fieldAt 0 1 r.body) = some z) (hl : s.links[l].zone = some z)
    (hfed : isFed s.zones[z].state = true) (hclock : s.clock.second ≠ none)
    (h : headerChecked z (bodyHeader r.body) r.body (headerReady z s) = (u, reply))
    (hu : u.terminal = (headerReady z s).terminal) (hc : u.cases = (headerReady z s).cases) :
    Completes .batchHeader r rest s u reply :=
  completes_of_cases rfl hr ((handleBatchHeader_of_fed hz hl hfed hclock).trans h) (hu.trans (headerReady_terminal z s))
    (hc.trans (headerReady_cases z s))

/-- Settles O36: the checks of R125 refuse without a count, and the faults behind them are counted in the order of R126. -/
theorem feedFaultsAreCounted : Obligations.FeedFaultsAreCounted := by
  intro r l rest s
  refine ⟨fun k hk hr => ⟨fun hz => ?noZone, fun z hz => ⟨fun hl => ?otherZone, fun hl =>
    ⟨fun h => ?unused, fun h => ?held, fun h hne => ?noBatch, fun h hke hclock => ?noTime⟩⟩⟩,
    fun z hz hl => ⟨fun hr hstate hclock => ?header, fun o hr hstate hbatch hne => ?mismatch⟩⟩
  case noZone => exact feed_completes hk hr (fun work => withFeed_of_no_zone work hz) rfl rfl
  case otherZone => exact feed_completes hk hr (fun work => withFeed_of_other_zone work hz hl) rfl rfl
  case unused => exact feed_completes hk hr (fun work => withFeed_of_status work hz hl (by simp only [feedStatus, h])) rfl rfl
  case held => exact feed_completes hk hr (fun work => withFeed_of_status work hz hl (by simp only [feedStatus, h])) rfl rfl
  case noBatch =>
    have hfed : isFed s.zones[z].state = true := (isFed_iff _).mpr (by tauto)
    have hopen : s.zones[z].state ≠ .openBatch := by rcases h with h | h <;> rw [h] <;> decide
    rcases hk with rfl | rfl | rfl
    · exact absurd rfl hne
    · exact completes_of_cases rfl hr (by rw [handleBatchRecords, withFeed_of_fed _ hz hl hfed, if_pos hopen, refuse]) rfl rfl
    · exact completes_of_cases rfl hr (by rw [handleBatchEnd, withFeed_of_fed _ hz hl hfed, if_pos hopen, refuse]) rfl rfl
  case noTime =>
    subst hke
    have hfed : isFed s.zones[z].state = true := (isFed_iff _).mpr (by tauto)
    exact completes_of_cases rfl hr (by rw [handleBatchHeader, withFeed_of_fed _ hz hl hfed, if_pos hclock, refuse]) rfl rfl
  case header =>
    have hfed : isFed s.zones[z].state = true := (isFed_iff _).mpr (by tauto)
    dsimp only
    refine ⟨fun hsum => ?badSum, fun hsum hfields => ?badField, fun hsum hfields e he => ⟨fun hlow => ?duplicate, fun hhigh => ?gap⟩⟩
    case badSum =>
      refine header_completes hr hz hl hfed hclock ?_ (faultCounted_terminal ..) (faultCounted_cases ..)
      rw [headerChecked, headerSum_headerReady, if_pos hsum, raiseError_eq]
      rfl
    case badField =>
      refine header_completes hr hz hl hfed hclock ?_ (faultCounted_terminal ..) (faultCounted_cases ..)
      rw [headerChecked, headerSum_headerReady, headerReady_hotlist, if_neg (not_not_intro hsum), if_pos (by omega), raiseError_eq]
      rfl
    all_goals
      have hready : headerChecked z (bodyHeader r.body) r.body (headerReady z s) =
          sequenceChecked z (bodyHeader r.body) (headerReady z s) :=
        headerChecked_of_fields (by rw [headerSum_headerReady]; exact hsum) hfields.1 (by rw [headerReady_hotlist]; exact hfields.2)
    case duplicate =>
      refine header_completes hr hz hl hfed hclock (hready.trans ?_) rfl rfl
      simp only [sequenceChecked, headerReady_expected, he, if_pos hlow]
    case gap =>
      refine header_completes hr hz hl hfed hclock (hready.trans ?_) (faultCounted_terminal ..) (faultCounted_cases ..)
      simp only [sequenceChecked, headerReady_expected, he, if_neg (Nat.lt_asymm hhigh), if_pos hhigh, raiseError_eq]
  case mismatch =>
    have hfed : isFed s.zones[z].state = true := (isFed_iff _).mpr (by tauto)
    refine completes_of_cases rfl hr (t := faultCounted .badSum z (discardToHunt s.zones[z]) s) ?_ (faultCounted_terminal ..)
      (faultCounted_cases ..)
    have hend : endMatches r.body o = false := decide_eq_false (by tauto)
    rw [handleBatchEnd, withFeed_of_fed _ hz hl hfed, if_neg (not_not_intro hstate)]
    simp only [hbatch, hend, raiseError_modZone]
    rfl

end Sys2Proof.Machine
end

section
/-! PROOF. The rules about one port's record under the couplers' operations, and the requests that start a job (R29, R30, R144) or
configure a port (R140). -/

namespace Sys2Proof.Machine

/-! ### One port's record

Every operation on one port alone is brought to the form `s.setPort p r`, in which the record `r` says all. -/

section
variable (s : State) (p : Port) (r : PortRec)

@[simp] theorem setPort_port_same : (s.setPort p r).port p = r := ports_get_set_same s.ports p r

@[simp] theorem setPort_setPort (q : PortRec) : (s.setPort p r).setPort p q = s.setPort p q := by
  simp [State.setPort]

theorem setPort_self : s.setPort p (s.port p) = s := by
  simp [State.setPort, State.port]

theorem systemReport_setPort (b : ReportBody) : (s.systemReport b).setPort p r = (s.setPort p r).systemReport b := rfl

theorem modPort_eq (f : PortRec → PortRec) : s.modPort p f = s.setPort p (f (s.port p)) := rfl

theorem modPort_setPort (f : PortRec → PortRec) : (s.setPort p r).modPort p f = s.setPort p (f r) := by
  rw [modPort_eq, setPort_port_same, setPort_setPort]

theorem modJob_setPort (f : Job → Job) : (s.setPort p r).modJob p f = s.setPort p { r with job := r.job.map f } :=
  modPort_setPort s p r _

theorem sendCommand_setPort (cmd : Command) :
    sendCommand p cmd (s.setPort p r) = s.setPort p { r with outstanding := some ⟨cmd, s.clock.second, r.timeout⟩ } :=
  modPort_setPort s p r _

theorem sendRead_setPort (seg : Nat) :
    sendRead p seg (s.setPort p r) = s.setPort p { r with outstanding := some ⟨.read seg, s.clock.second, r.timeout⟩ } :=
  sendCommand_setPort s p r (.read seg)

theorem dropCommand_setPort : dropCommand p (s.setPort p r) = s.setPort p { r with outstanding := none } :=
  modPort_setPort s p r _

/-- The port enters CHECK and reads the header (R144). -/
theorem startCheck_setPort {j : Job} (mode : CheckMode) (hj : r.job = some j) :
    startCheck p mode (s.setPort p r) =
      s.setPort p { r with
        job := some { j with phase := .check, mode := mode, reads := [], retries := 0, tearEnd := none }
        outstanding := some ⟨.read 0, s.clock.second, r.timeout⟩ } := by
  rw [startCheck, modJob_setPort, sendRead_setPort, hj]
  rfl

theorem clearTimeouts_eq : clearTimeouts p s = s.setPort p { s.port p with timeouts := 0 } := rfl

end

/-! ### CASE ISSUE and CASE RECOVER (R29, R30, R144) -/

/-- The job that a port creates, with the card that it finds in its field (R144). -/
theorem createJob_eq (p : Port) (kind : JobKind) (n : Nat) (s : State) :
    createJob p kind n s = s.setPort p (jobStarted (newJob kind n) s.clock.second (s.port p)) := by
  unfold createJob jobStarted
  dsimp only
  rw [modPort_eq, setPort_port_same]
  dsimp only
  cases (s.port p).card with
  | none => rfl
  | some card => rw [if_pos (Option.isSome_some), startCheck_setPort s p _ .first rfl]; rfl

theorem portStatus_of_free {r : PortRec} (he : r.enabled = true) (hf : r.fenced = false) (hj : r.job = none) :
    portStatus r = none := by
  simp [portStatus, he, hf, hj]

theorem targetOf_of_issuable {n : Nat} {target : Family} (h : familyOf n = some target) (hne : target ≠ .narrow) :
    targetOf n = some target := by
  have hi : issuable target = true := by
    cases target with
    | narrow => exact absurd rfl hne
    | standard => rfl
    | extended => rfl
  simp only [targetOf, h, hi, if_true]

/-- Settles O23: the case, the port and the job of an accepted CASE ISSUE or CASE RECOVER. -/
theorem jobRequestsStartAJob : Obligations.JobRequestsStartAJob := by
  intro r l rest s c p now hc hp hclock hown hjob henabled hfenced hfree
  have hset : s.clock.second ≠ none := by rw [hclock]; exact Option.some_ne_none _
  have hport : portStatus (s.port p) = none := portStatus_of_free henabled hfenced hfree
  refine ⟨fun target hr htarget hne hstate => ?issue, fun hr hstate => ?recover⟩
  case issue =>
    have hmay : mayIssue c = true := decide_eq_true ⟨hjob, hstate⟩
    have hdone : handleCaseIssue l r.body s = answer .none (acceptIssue p target c.number s) := by
      rw [handleCaseIssue, withOwnCase_of_some _ hc hown]
      simp only [hp, targetOf_of_issuable htarget hne, if_neg hset, if_pos hmay, hport]
    rw [acceptIssue, createJob_eq] at hdone
    rw [← hclock]
    exact completes_of rfl hr hdone rfl
  case recover =>
    have hmay : mayRecover c = true := decide_eq_true ⟨hjob, hstate⟩
    have hdone : handleCaseRecover l r.body s = answer .none (acceptRecover p c.number s) := by
      rw [handleCaseRecover, withOwnCase_of_some _ hc hown]
      simp only [hp, if_neg hset, if_pos hmay, hport]
    rw [acceptRecover, createJob_eq] at hdone
    have h := completes_of rfl hr hdone rfl
    rw [stampFloor_of_stored] at h
    · rw [← hclock]; exact h
    · show s.cases.map storedCase = (s.cases.map _).map storedCase
      rw [List.map_map]
      refine List.map_congr_left fun d _ => ?_
      simp only [Function.comp]
      split <;> rfl

/-! ### PORT CONFIGURE (R140) -/

/-- The record that new settings leave, with the SENSE of a port that comes into service (R140, R141). -/
def configuredRecord (now : Option Nat) (enabled : Bool) (mode : WriteMode) (n : PortNumbers) (r : PortRec) : PortRec :=
  { configuredPort enabled mode n r with
    outstanding :=
      if enabled = false then none
      else if r.enabled = false ∧ r.fenced = false then some ⟨.sense, now, n.timeout⟩
      else r.outstanding }

theorem configurePort_eq (p : Port) (enabled : Bool) (mode : WriteMode) (n : PortNumbers) (s : State) :
    configurePort p enabled mode n s = s.setPort p (configuredRecord s.clock.second enabled mode n (s.port p)) := by
  unfold configurePort configuredRecord
  dsimp only
  rw [modPort_eq, sendCommand_setPort]
  cases enabled with
  | false => rw [if_neg (by simp)]; rfl
  | true =>
    by_cases h : (s.port p).enabled = false ∧ (s.port p).fenced = false
    · rw [if_pos ⟨rfl, h⟩, if_neg (by simp), if_pos h]; rfl
    · rw [if_neg (fun hx => h hx.2), if_neg (by simp), if_neg h]; rfl

/-- Settles O39: a port with a job is busy, and else its record becomes `configuredRecord`. -/
theorem portConfigureSetsThePort : Obligations.PortConfigureSetsThePort := by
  intro r l rest s p enabled mode hr hp he hm
  dsimp only
  let n := clampNumbers (bodyPortNumbers r.body)
  have hwork : handlePortConfigure l r.body s =
      if (s.port p).job.isSome then refuse .portBusy s
      else answer (.portConfigured ⟨enabled, mode, n.retryLimit, n.fenceThreshold, n.timeout, n.window⟩
        (numberMarks (bodyPortNumbers r.body))) (configurePort p enabled mode n s) := by
    rw [handlePortConfigure, withPort_of_some _ hp]
    simp only [he, hm, n]
  refine ⟨fun hj => ?busy, fun hj => ?free⟩
  case busy =>
    exact completes_of_cases rfl hr (by rw [hwork, if_pos (Option.isSome_iff_ne_none.mpr hj), refuse]) rfl rfl
  case free =>
    rw [configurePort_eq, hj, if_neg (by simp)] at hwork
    have h := completes_of_cases rfl hr hwork rfl rfl
    simp only [n, clampNumbers, numberMarks, bodyPortNumbers, clampTo_zero] at h
    exact h

end Sys2Proof.Machine
end

section
/-! PROOF. A coupler's message at a port in service (R142, R143), and what an ARRIVED does there (R143, R144, R152). -/

namespace Sys2Proof.Machine

/-! ### A message at a port in service -/

section
variable {s : State} {p : Port} (h : inService (s.port p) = true)
include h

theorem exec_arrived (serial : Serial) (family : Family) :
    exec (.arrived p serial family) s = .next (stampFloor s (takeArrived p ⟨serial, family⟩ s)) :=
  congrArg _ (if_pos h)

theorem exec_left : exec (.left p) s = .next (stampFloor s (takeLeft p s)) := congrArg _ (if_pos h)

theorem exec_data (content : Option Segment) : exec (.data p content) s = .next (stampFloor s (takeData p content s)) :=
  congrArg _ (if_pos h)

theorem exec_done : exec (.done p) s = .next (stampFloor s (takeDone p s)) := congrArg _ (if_pos h)

theorem exec_fault (cause : FaultCause) : exec (.fault p cause) s = .next (stampFloor s (takeFault p s)) :=
  congrArg _ (if_pos h)

theorem exec_responseTimeout : exec (.responseTimeout p) s = .next (stampFloor s (takeTimeout p s)) :=
  congrArg _ (if_pos h)

end

/-- A change of one port's record leaves the floor. -/
@[simp] theorem stampFloor_setPort (s : State) (p : Port) (r : PortRec) : stampFloor s (s.setPort p r) = s.setPort p r :=
  stampFloor_of_cases _ _ rfl

/-- What an event leaves when it leaves the cases as they stood. -/
theorem next_of_cases {s u t : State} (hc : u.cases = s.cases) (h : u = t) :
    (Host.Outcome.next (stampFloor s u) : Host.Outcome State Fault Refusal) = .next t := by
  rw [stampFloor_of_cases s u hc, h]

/-! ### The card leaves (R143) -/

/-- A port's record after its card left: no card, no command, and no timeout counted (R142, R143). -/
def emptied (r : PortRec) : PortRec := { r with timeouts := 0, outstanding := none, card := none }

theorem takeLeft_of_job {s : State} {p : Port} {j : Job} (hj : (s.port p).job = some j) :
    takeLeft p s = departure p (s.setPort p (emptied (s.port p))) := by
  unfold takeLeft cardLeaves
  rw [clearTimeouts_eq, modPort_setPort, setPort_port_same]
  simp only [emptied, hj]

theorem takeLeft_of_card {s : State} {p : Port} {card : Card} (hj : (s.port p).job = none) (hc : (s.port p).card = some card) :
    takeLeft p s = (s.setPort p (emptied (s.port p))).systemReport (.portLeft p card 0 s.clock.second) := by
  unfold takeLeft cardLeaves
  rw [clearTimeouts_eq, modPort_setPort, setPort_port_same]
  simp only [emptied, hj, hc, setPort_port_same, setPort_clock]

theorem takeLeft_of_empty {s : State} {p : Port} (hj : (s.port p).job = none) (hc : (s.port p).card = none) :
    takeLeft p s = s.setPort p (emptied (s.port p)) := by
  unfold takeLeft cardLeaves
  rw [clearTimeouts_eq, modPort_setPort, setPort_port_same]
  simp only [emptied, hj, hc]

/-! ### The card enters (R143, R144, R152) -/

/-- A port's record after an ARRIVED was heard: an outstanding SENSE is answered, and no timeout counted (R141, R142). -/
def heard (r : PortRec) : PortRec :=
  { r with timeouts := 0, outstanding := if outstandingCommand r = some .sense then none else r.outstanding }

theorem answerSense_clearTimeouts (s : State) (p : Port) :
    answerSense p (clearTimeouts p s) = s.setPort p (heard (s.port p)) := by
  rw [clearTimeouts_eq, answerSense, modPort_setPort]
  rfl

theorem takeArrived_of_no_card {s : State} {p : Port} {card : Card} (h : (s.port p).card = none) :
    takeArrived p card s = cardEnters p card (s.setPort p (heard (s.port p))) := by
  simp only [takeArrived, answerSense_clearTimeouts, setPort_port_same, heard, h]

theorem takeArrived_of_same {s : State} {p : Port} {card present : Card} (h : (s.port p).card = some present)
    (hs : present.serial = card.serial) : takeArrived p card s = s.setPort p (heard (s.port p)) := by
  simp only [takeArrived, answerSense_clearTimeouts, setPort_port_same, heard, h, if_pos hs]

/-- Another serial is a LEFT and then the ARRIVED (R143). -/
theorem takeArrived_of_other {s : State} {p : Port} {card present : Card} (h : (s.port p).card = some present)
    (hs : present.serial ≠ card.serial) : takeArrived p card s = cardEnters p card (takeLeft p s) := by
  have hleave : cardLeaves p (s.setPort p (heard (s.port p))) = takeLeft p s := by
    unfold takeLeft cardLeaves
    simp only [clearTimeouts_eq, modPort_setPort, setPort_port_same]
    rfl
  have hcard : (heard (s.port p)).card = some present := h
  simp only [takeArrived, answerSense_clearTimeouts, setPort_port_same, hcard, hleave, if_neg hs]

theorem cardEnters_of_free {s : State} {p : Port} (card : Card) (hj : (s.port p).job = none) :
    cardEnters p card s =
      (s.setPort p { s.port p with card := some card }).systemReport
        (.portArrived p card (s.port p).timeouts s.clock.second) := by
  simp only [cardEnters, modPort_eq, setPort_port_same, hj, setPort_clock]

theorem cardEnters_of_job {s : State} {p : Port} {j : Job} (card : Card) (hj : (s.port p).job = some j) :
    cardEnters p card s = cardToJob p j card.serial (s.setPort p { s.port p with card := some card }) := by
  simp only [cardEnters, modPort_eq, setPort_port_same, hj]

/-- A card that a job takes up reaches its CHECK (R144, R152). -/
theorem cardToJob_checks {s : State} {p : Port} {r : PortRec} {j : Job} {serial : Serial} (mode : CheckMode) (hj : r.job = some j)
    (h : (j.phase = .waitingCard ∧ mode = .first) ∨ (j.phase = .torn ∧ j.target = some serial ∧ mode = .afterTear)) :
    cardToJob p j serial (s.setPort p r) =
      s.setPort p { r with
        job := some { j with phase := .check, mode := mode, reads := [], retries := 0, tearEnd := none }
        outstanding := some ⟨.read 0, s.clock.second, r.timeout⟩ } := by
  rw [← startCheck_setPort s p r mode hj]
  rcases h with ⟨hp, rfl⟩ | ⟨hp, ht, rfl⟩
  · simp only [cardToJob, hp]
  · simp only [cardToJob, hp, if_pos ht]

/-- A card that enters reads the clock's second alone of the clock, and changes no case: the floor may be stamped before. -/
theorem cardEnters_stampFloor (s u : State) (p : Port) (card : Card) :
    stampFloor s (cardEnters p card u) = cardEnters p card (stampFloor s u) := by
  have hmove (n : Nat) : (cardEnters p card u).modClock (fun c => { c with floor := n, floorAge := 0 }) =
      cardEnters p card (u.modClock fun c => { c with floor := n, floorAge := 0 }) := by
    unfold cardEnters
    simp only [modPort_eq, setPort_port_same, modClock_port]
    cases (u.port p).job with
    | none => rfl
    | some j =>
      simp only [cardToJob]
      cases j.phase <;> simp only <;> try rfl
      split <;> rfl
  unfold stampFloor
  rw [cardEnters_clock, cardEnters_cases]
  split
  · rfl
  · split
    · rfl
    · exact hmove _

/-! ### What a departure leaves on the port -/

/-- A port without a card that counts no timeout and waits for no SENSE: an ARRIVED has nothing to clear there. -/
def Rested (r : PortRec) : Prop := r.card = none ∧ r.timeouts = 0 ∧ outstandingCommand r ≠ some .sense

theorem heard_of_rested {r : PortRec} (h : Rested r) : heard r = r := by
  obtain ⟨_, htimeouts, hsense⟩ := h
  unfold heard
  rw [if_neg hsense, ← htimeouts]

section
variable {s : State} {q : Port}

theorem rested_modPort {p : Port} {f : PortRec → PortRec} (hf : ∀ r, Rested r → Rested (f r)) (h : Rested (s.port q)) :
    Rested ((s.modPort p f).port q) := by
  rw [modPort_port]
  split
  · subst q; exact hf _ h
  · exact h

theorem rested_sendCommand {p : Port} {cmd : Command} (hcmd : cmd ≠ .sense) (h : Rested (s.port q)) :
    Rested ((sendCommand p cmd s).port q) := by
  refine rested_modPort (fun r hr => ⟨hr.1, hr.2.1, fun he => ?_⟩) h
  exact hcmd (Option.some.inj he)

theorem rested_sendWrite {p : Port} (h : Rested (s.port q)) : Rested ((sendWrite p s).port q) := by
  unfold sendWrite
  split
  · exact h
  · split
    · exact h
    · exact rested_sendCommand Command.noConfusion h

theorem rested_sendMark {p : Port} (h : Rested (s.port q)) : Rested ((sendMark p s).port q) := by
  unfold sendMark
  split
  · exact h
  · exact rested_sendCommand Command.noConfusion h

theorem rested_grant {m : Member} (h : Rested (s.port q)) : Rested ((grant m s).port q) := by
  cases m with
  | port p =>
    have hjob : Rested ((((s.modSigning (takeGrant (.port p))).modSigning fun u =>
        { u with context := ((s.modSigning (takeGrant (.port p))).port p).job.bind fun j => j.target }).modJob p
          fun j => { j with grantCount := 0 }).port q) := rested_modPort (fun _ hr => hr) h
    simp only [grant, beginGrant]
    split
    · split
      · exact rested_sendMark hjob
      · exact rested_sendWrite hjob
    · exact hjob
  | hotlist => exact h
  | statement => exact h

theorem rested_giveUpSigning {p : Port} (h : Rested (s.port q)) : Rested ((giveUpSigning p s).port q) := by
  unfold giveUpSigning
  split
  · rcases releaseGrant_spec s with ⟨_, e⟩ | ⟨m, _, e⟩ <;> rw [e]
    · exact h
    · exact rested_grant h
  · exact h

theorem rested_endJob {p : Port} (o : JobOutcome) (h : Rested (s.port q)) : Rested ((endJob p o s).port q) := by
  cases hj : (s.port p).job with
  | none => rw [endJob_of_no_job o hj]; exact h
  | some j =>
    rw [endJob_of_job o hj, port_of_ports (outcomeTaken_ports o j _) q]
    unfold freeJob
    rw [port_of_ports (modCase_ports _ _ _) q]
    refine rested_modPort (fun r hr => ⟨hr.1, hr.2.1, fun he => by cases he⟩) ?_
    rw [port_of_ports (reportOn_ports _ _ _) q]
    exact rested_giveUpSigning h

theorem rested_enterTorn {p : Port} (h : Rested (s.port q)) : Rested ((enterTorn p s).port q) := by
  refine rested_modPort (fun _ hr => hr) (rested_giveUpSigning ?_)
  exact rested_modPort (fun r hr => ⟨hr.1, hr.2.1, fun he => by cases he⟩) h

theorem rested_departure {p : Port} (h : Rested (s.port q)) : Rested ((departure p s).port q) := by
  unfold departure
  split
  · exact h
  · split
    · exact rested_endJob _ h
    · split
      · exact h
      · exact h
      · split
        · exact rested_modPort (fun _ hr => hr) (rested_modPort (fun r hr => ⟨hr.1, hr.2.1, fun he => by cases he⟩) h)
        · exact rested_enterTorn h
      · split
        · exact rested_endJob _ h
        · exact rested_enterTorn h
      · exact rested_enterTorn h
      · exact rested_endJob _ h
      · exact rested_modPort (fun _ hr => hr) (rested_enterTorn h)

theorem rested_takeLeft {p : Port} : Rested ((takeLeft p s).port p) := by
  have hempty : Rested ((s.setPort p (emptied (s.port p))).port p) := by
    rw [setPort_port_same]; exact ⟨rfl, rfl, fun he => by cases he⟩
  cases hj : (s.port p).job with
  | some j => rw [takeLeft_of_job hj]; exact rested_departure hempty
  | none =>
    cases hc : (s.port p).card with
    | some card => rw [takeLeft_of_card hj hc]; exact hempty
    | none => rw [takeLeft_of_empty hj hc]; exact hempty

end

/-- An ARRIVED of another serial is one after the LEFT, as its own event (R143). -/
theorem exec_arrived_after_left {s : State} {p : Port} {card : Card} (present : Card) (h : inService (s.port p) = true)
    (hc : (s.port p).card = some present) (hs : present.serial ≠ card.serial) :
    exec (.arrived p card.serial card.family) s =
      exec (.arrived p card.serial card.family) (stampFloor s (takeLeft p s)) := by
  have hserv : inService ((stampFloor s (takeLeft p s)).port p) = true := by
    rw [port_of_ports (stampFloor_ports _ _) p]
    exact (inService_cardLeaves _ p p).trans (by rw [clearTimeouts_eq, setPort_port_same]; exact h)
  have hrest : Rested ((stampFloor s (takeLeft p s)).port p) := by
    rw [port_of_ports (stampFloor_ports _ _) p]; exact rested_takeLeft
  rw [exec_arrived h, exec_arrived hserv, takeArrived_of_other hc hs, takeArrived_of_no_card hrest.1,
    heard_of_rested hrest, setPort_self, cardEnters_stampFloor, stampFloor_of_cases _ _ (cardEnters_cases _ _ _)]

/-- Settles O41: the ARRIVED by the card that is present and the job that waits. -/
theorem arrivedSetsTheCard : Obligations.ArrivedSetsTheCard := by
  intro s p serial family hserv
  dsimp only
  refine ⟨fun present hc hs => ?same, fun hc hj => ?new, fun present hc hs hj => ?other, fun present hc hs => ?leftFirst,
    fun j hc hj hphase => ?waiting, fun j hc hj hphase => ⟨fun ht => ?returned, fun ht => ?stranger⟩⟩
  case same =>
    rw [exec_arrived hserv, takeArrived_of_same (card := ⟨serial, family⟩) hc hs, stampFloor_setPort]
    rfl
  case new =>
    rw [exec_arrived hserv, takeArrived_of_no_card hc, cardEnters_of_free _ (by rw [setPort_port_same]; exact hj)]
    refine next_of_cases rfl ?_
    simp only [setPort_port_same, setPort_setPort]
    rfl
  case other =>
    rw [exec_arrived hserv, takeArrived_of_other (card := ⟨serial, family⟩) hc hs, takeLeft_of_card hj hc,
      cardEnters_of_free _ (by rw [systemReport_port, setPort_port_same]; exact hj)]
    refine next_of_cases rfl ?_
    simp only [systemReport_port, setPort_port_same, systemReport_setPort, setPort_setPort]
    rfl
  case leftFirst =>
    exact ⟨_, exec_left hserv, exec_arrived_after_left (card := ⟨serial, family⟩) present hserv hc hs⟩
  case waiting =>
    rw [exec_arrived hserv, takeArrived_of_no_card hc, cardEnters_of_job _ (by rw [setPort_port_same]; exact hj),
      setPort_port_same, setPort_setPort,
      cardToJob_checks (r := { heard (s.port p) with card := some ⟨serial, family⟩ }) .first hj (.inl ⟨hphase, rfl⟩), stampFloor_setPort]
    rfl
  case returned =>
    rw [exec_arrived hserv, takeArrived_of_no_card hc, cardEnters_of_job _ (by rw [setPort_port_same]; exact hj),
      setPort_port_same, setPort_setPort,
      cardToJob_checks (r := { heard (s.port p) with card := some ⟨serial, family⟩ }) .afterTear hj (.inr ⟨hphase, ht, rfl⟩), stampFloor_setPort]
    rfl
  case stranger =>
    rw [exec_arrived hserv, takeArrived_of_no_card hc, cardEnters_of_job _ (by rw [setPort_port_same]; exact hj),
      setPort_port_same, setPort_setPort]
    simp only [cardToJob, hphase, if_neg ht, stampFloor_setPort]
    rfl

end Sys2Proof.Machine
end

section
/-! PROOF. How a job ends on a port whose record alone has changed (R158), and what a LEFT does to the port and its job (R143, R151,
R156). -/

namespace Sys2Proof.Machine

/-! ### The ends of a job, after a change of its port's record -/

/-- A job that fails leaves the stored cases as they stood: the job field is not stored (R17, R33). -/
theorem JobFails.stored {p : Port} {o : JobOutcome} {j : Job} {c : Case} {s v : State} (h : JobFails p o j c s v) :
    s.cases.map storedCase = v.cases.map storedCase := by
  rw [h.cases_eq, List.map_map]
  refine List.map_congr_left fun d _ => ?_
  simp only [Function.comp]
  split <;> rfl

section
variable {s : State} {p : Port} {r : PortRec} {j : Job} {c : Case} (o : JobOutcome) (hj : r.job = some j)
  (hc : s.findCase j.caseNo = some c)
include hj hc

/-- The job fails, with nothing due behind it. -/
theorem endJob_fails_at (hi : issueSucceeded o = false) (hr : recoverySucceeded o = false) (hd : NothingDue c s) :
    JobFails p o j c (s.setPort p r) (stampFloor s (endJob p o (s.setPort p r))) := by
  have h : JobFails p o j c (s.setPort p r) (endJob p o (s.setPort p r)) :=
    endJob_fails o (by rw [setPort_port_same]; exact hj) hc hi hr hd
  rwa [stampFloor_of_stored (s := s) h.stored]

/-- The ISSUE job has activated its card, with nothing due behind it. -/
theorem endJob_issues_at {target : Family} {fig : IssueFigures} (hk : j.kind = .issue target) (hi : issueSucceeded o = true)
    (hfig : c.issue = some fig) (hst : c.state = .watch ∨ (c.state = .settled ∧ c.newCard = none)) (hd : NothingDue c s)
    (honce : ∀ d ∈ s.cases, d.number = c.number → d = c) :
    JobIssues p o target j c fig (s.setPort p r) (stampFloor s (endJob p o (s.setPort p r))) :=
  endJob_issues (s := s.setPort p r) o (by rw [setPort_port_same]; exact hj) hk hc hi hfig hst hd honce

/-- The RECOVER job has read the old card. -/
theorem endJob_recovers_at {read : ReadContents} (hk : j.kind = .recover) (hr : recoverySucceeded o = true)
    (hread : j.contents = some read) (hst : c.state ≠ .settled) :
    JobRecovers p o (markStatus o read) j c read (s.setPort p r) (stampFloor s (endJob p o (s.setPort p r))) :=
  endJob_recovers (s := s.setPort p r) o (by rw [setPort_port_same]; exact hj) hk hc hr hread hst

end

/-- A read without the block mark was marked by the job, or is not. -/
theorem markStatus_of_unmarked {read : ReadContents} (o : JobOutcome) (h : read.mark = some none) :
    markStatus o read = if o = .recovered then .written else .notWritten := by
  simp only [markStatus, h]

/-! ### The hold on the signing unit (R167, R172) -/

/-- A grant to another member leaves a port's record. -/
theorem grant_port_other {s : State} {p : Port} {m : Member} (hm : m ≠ .port p) : (grant m s).port p = s.port p := by
  cases m with
  | port q =>
    have hq : p ≠ q := fun h => hm (by rw [h])
    simp only [grant, beginGrant]
    split
    · split
      · unfold sendMark
        split
        · rw [modJob_port, if_neg hq]; rfl
        · rw [sendCommand, modPort_port, if_neg hq, modJob_port, if_neg hq]; rfl
      · unfold sendWrite
        split
        · rw [modJob_port, if_neg hq]; rfl
        · split
          · rw [modJob_port, if_neg hq]; rfl
          · rw [sendCommand, modPort_port, if_neg hq, modJob_port, if_neg hq]; rfl
    · rw [modJob_port, if_neg hq]; rfl
  | hotlist => rfl
  | statement => rfl

/-- A port that does not wait while it holds the grant keeps its record when it gives up its hold. -/
theorem giveUpSigning_port_same {s : State} {p : Port}
    (h : s.signing.grantee = some (.port p) → isWaiting s.signing.waiting (.port p) = false) :
    (giveUpSigning p s).port p = s.port p := by
  unfold giveUpSigning
  split
  · next hg =>
    rcases releaseGrant_spec s with ⟨_, e⟩ | ⟨m, hm, e⟩ <;> rw [e]
    · rfl
    · refine grant_port_other fun he => ?_
      have hw : isWaiting s.signing.waiting m = true := (isNext_of_pick hm).1
      rw [he, h hg] at hw
      cases hw
  · rfl

/-! ### The departure by kind and phase (R151, R156) -/

/-- A job that became TORN at `now` (R151). -/
def tornJob (now : Option Nat) (window : Nat) (j : Job) : Job :=
  { j with phase := .torn, retries := 0, grantCount := 0, tearEnd := now.map fun t => min max32 (t + window) }

section
variable {s : State} {p : Port} {r : PortRec} {j : Job} (hj : r.job = some j)
include hj

theorem departure_of_pending (ha : j.abortPending = true) : departure p (s.setPort p r) = endJob p .aborted (s.setPort p r) := by
  unfold departure
  rw [setPort_port_same, hj]
  exact if_pos ha

theorem departure_of_staying (ha : j.abortPending = false) (hp : j.phase = .waitingCard ∨ j.phase = .torn) :
    departure p (s.setPort p r) = s.setPort p r := by
  unfold departure
  rw [setPort_port_same, hj]
  rcases hp with hp | hp <;> simp [ha, hp]

theorem departure_of_first_check (ha : j.abortPending = false) (hp : j.phase = .check) (hm : j.mode = .first) :
    departure p (s.setPort p r) =
      s.setPort p { r with outstanding := none, job := some { j with phase := .waitingCard, retries := 0, reads := [] } } := by
  unfold departure
  rw [setPort_port_same, hj]
  dsimp only
  rw [if_neg (by rw [ha]; exact Bool.false_ne_true)]
  simp only [hp, if_pos hm, dropCommand_setPort, modJob_setPort, hj]
  rfl

/-- A job that a departure tears gives up its hold and waits for its card (R151). -/
theorem departure_torn (ha : j.abortPending = false)
    (hp : (j.phase = .check ∧ j.mode = .afterTear) ∨ (j.kind = .recover ∧ j.phase = .read) ∨
      ∃ target, j.kind = .issue target ∧
        (j.phase = .write ∨ (j.phase = .verify ∧ j.nextSegment ≠ activationSegment target)))
    (ho : r.outstanding = none)
    (hw : s.signing.grantee = some (.port p) → isWaiting s.signing.waiting (.port p) = false) :
    departure p (s.setPort p r) =
      (giveUpSigning p (s.setPort p r)).setPort p
        { r with
          job := some { tornJob s.clock.second r.window j with
            contents := if j.phase = .read then none else j.contents } } := by
  have hsame : (giveUpSigning p (s.setPort p r)).port p = r := by
    rw [giveUpSigning_port_same (s := s.setPort p r) hw, setPort_port_same]
  have hdrop : dropCommand p (s.setPort p r) = s.setPort p r := by
    rw [dropCommand_setPort, ← ho]
  have htorn : enterTorn p (s.setPort p r) =
      (giveUpSigning p (s.setPort p r)).setPort p { r with job := some (tornJob s.clock.second r.window j) } := by
    unfold enterTorn
    rw [hdrop]
    simp only [State.modJob, modPort_eq, hsame, hj, giveUpSigning_clock]
    rfl
  unfold departure
  rw [setPort_port_same, hj]
  dsimp only
  rw [if_neg (by rw [ha]; exact Bool.false_ne_true)]
  rcases hp with ⟨hp, hm⟩ | ⟨hk, hp⟩ | ⟨target, hk, hp | ⟨hp, hn⟩⟩
  · have hmode : j.mode ≠ .first := by rw [hm]; decide
    simp only [hp, if_neg hmode, htorn]
    rfl
  · simp only [hk, hp, htorn, modJob_setPort]
    rfl
  · simp only [hk, hp, htorn]
    rfl
  · simp only [hk, hp, htorn, isActivation, decide_eq_false hn]
    rfl

theorem departure_of_activation {target : Family} (ha : j.abortPending = false) (hk : j.kind = .issue target)
    (hp : j.phase = .verify) (hn : j.nextSegment = activationSegment target) :
    departure p (s.setPort p r) = endJob p .issuedUnverified (s.setPort p r) := by
  unfold departure
  rw [setPort_port_same, hj]
  simp only [ha, hk, hp, hn, isActivation, decide_true]
  rfl

theorem departure_of_mark (ha : j.abortPending = false) (hk : j.kind = .recover) (hp : j.phase = .mark) :
    departure p (s.setPort p r) = endJob p .recoveredUnmarked (s.setPort p r) := by
  unfold departure
  rw [setPort_port_same, hj]
  simp only [ha, hk, hp]
  rfl

end

/-- Settles O42: the card goes and then the job takes the departure by its kind and phase. -/
theorem leftEndsTheCommand : Obligations.LeftEndsTheCommand := by
  intro s p hserv
  dsimp only
  refine ⟨fun present hc hj => ?reported, fun hc hj => ?silent, fun j hj => ?job⟩
  case reported => rw [exec_left hserv, takeLeft_of_card hj hc]; exact next_of_cases rfl rfl
  case silent => rw [exec_left hserv, takeLeft_of_empty hj hc]; exact next_of_cases rfl rfl
  case job =>
    have hgone : (emptied (s.port p)).job = some j := hj
    rw [exec_left hserv, takeLeft_of_job hj]
    refine ⟨fun ha c hc hd => ?aborted, fun ha => ⟨fun hp => ?staying, fun hp hm => ?firstCheck, fun hp hw => ?torn,
      fun target c fig hk hp hn hc hfig hst hd honce => ?activation, fun c read hk hp hc hst hread hmark => ?mark⟩⟩
    case aborted =>
      rw [departure_of_pending hgone ha]
      exact ⟨_, rfl, endJob_fails_at _ hgone hc rfl rfl hd⟩
    case staying => rw [departure_of_staying hgone ha hp]; exact next_of_cases rfl rfl
    case firstCheck => rw [departure_of_first_check hgone ha hp hm]; exact next_of_cases rfl rfl
    case torn =>
      refine ⟨_, giveUpSigning_givesUp p _, ?_⟩
      rw [departure_torn hgone ha hp rfl hw]
      exact next_of_cases (giveUpSigning_cases _ _) rfl
    case activation =>
      rw [departure_of_activation hgone ha hk hp hn]
      exact ⟨_, rfl, endJob_issues_at _ hgone hc hk rfl hfig hst hd honce⟩
    case mark =>
      rw [departure_of_mark hgone ha hk hp]
      have h := endJob_recovers_at (p := p) (r := emptied (s.port p)) .recoveredUnmarked hgone hc hk rfl hread hst
      rw [markStatus_of_unmarked _ hmark] at h
      exact ⟨_, rfl, h⟩

end Sys2Proof.Machine
end

section
/-! PROOF. What waits for the end of a job, one lemma for each way it is taken (R35, R37), and the ends of a job at a tear window
(R152), at the DONE of a MARK (R155) and at an abort (R157). -/

namespace Sys2Proof.Machine

/-- A review is empty when none of its reasons stands. -/
theorem reviewEmpty_iff (r : Review) : reviewEmpty r = true ↔ r = ⟨false, false, false⟩ := by
  obtain ⟨a, b, d⟩ := r
  cases a <;> cases b <;> cases d <;> decide

/-! ### The settle due mark (R35) -/

section
variable {s : State} {n : Nat} {c : Case} (hc : s.findCase n = some c)
include hc

theorem findCase_unmarked : (unmarked n s).findCase n = some { c with settleDue := none } := by
  have h := findCase_modCase (s := s) (n := n) (f := fun d => { d with settleDue := none }) (fun _ => rfl)
  rw [hc] at h
  exact h

theorem takeDue_of_no_mark (hd : c.settleDue = none) : takeDue n s = s := by
  simp only [takeDue, hc, hd]

theorem takeDue_of_mark {due : Due} (hd : c.settleDue = some due) (hclock : s.clock.second ≠ none) (hst : c.state ≠ .settled) :
    takeDue n s = match due with
      | .forced => if c.conflicts = [] then settle .forced n (unmarked n s)
        else reportOn n (fun c => reviewReport c none) (unmarked n s)
      | .automatic => testCase n (unmarked n s) := by
  simp only [takeDue, hc, hd, if_neg hclock, if_neg hst]
  cases due <;> rfl

theorem takeDue_forced (hd : c.settleDue = some .forced) (hclock : s.clock.second ≠ none) (hst : c.state ≠ .settled)
    (hconf : c.conflicts = []) : takeDue n s = settle .forced n (unmarked n s) := by
  rw [takeDue_of_mark hc hd hclock hst]; exact if_pos hconf

/-- A FORCED mark lapses with a report while conflicts are listed (R35). -/
theorem takeDue_lapses (hd : c.settleDue = some .forced) (hclock : s.clock.second ≠ none) (hst : c.state ≠ .settled)
    (hconf : c.conflicts ≠ []) :
    takeDue n s = (unmarked n s).caseReport c.owner (reviewReport { c with settleDue := none } none) := by
  have hreport := reportOn_of_find (fun c => reviewReport c none) (findCase_unmarked hc)
  rw [takeDue_of_mark hc hd hclock hst]
  exact (if_neg hconf).trans hreport

theorem takeDue_automatic (hd : c.settleDue = some .automatic) (hclock : s.clock.second ≠ none) (hst : c.state ≠ .settled) :
    takeDue n s = testCase n (unmarked n s) := takeDue_of_mark hc hd hclock hst

/-! ### The test of a case (R24 to R26) -/

/-- A case is due when its quiet end day has come or every configured zone is closed for it (R28, R35). -/
theorem testCase_of_not_due (h : ¬ (c.quietEnd ≤ s.clock.announcedDay ∨ closedAll s.zones c.zonesClosed = true)) :
    testCase n s = s := by
  simp only [testCase, hc, if_neg h]

theorem testCase_of_due (h : c.quietEnd ≤ s.clock.announcedDay ∨ closedAll s.zones c.zonesClosed = true) :
    testCase n s = automaticTrigger n s := by
  simp only [testCase, hc, if_pos h]

theorem automaticTrigger_of_review (hj : c.job = none) (hr : c.review ≠ ⟨false, false, false⟩) : automaticTrigger n s = s := by
  have hne : reviewEmpty c.review = false := by
    rw [← Bool.not_eq_true]; exact fun h => hr ((reviewEmpty_iff _).mp h)
  simp only [automaticTrigger, hc, hj, hne]
  simp

/-- The trigger settles a case in WATCH or HOLDING that nothing keeps from it (R26 step 5). -/
theorem automaticTrigger_settles (hst : c.state ≠ .settled) (hclock : s.clock.second ≠ none) (hj : c.job = none)
    (hr : c.review = ⟨false, false, false⟩) (hg : gapCount c ≤ 64) :
    automaticTrigger n s = settle (automaticKind s c) n s := by
  have he : reviewEmpty c.review = true := (reviewEmpty_iff _).mpr hr
  simp only [automaticTrigger, hc, if_neg hst, if_neg hclock, hj, he, if_neg (Nat.not_lt.mpr hg)]
  rfl

/-! ### Retention (R37) -/

theorem retentionTest_of_kept
    (h : ∀ f, c.state = .settled → c.settlement = some f → s.clock.second ≠ none →
      f.day + s.settings.retentionDays ≤ s.clock.announcedDay → c.job = none → f.statementPending = true) :
    retentionTest n s = s := by
  unfold retentionTest
  rw [hc]
  refine if_neg ?_
  rintro ⟨hclock, hreached, hj, hpending⟩
  unfold retentionReached at hreached
  unfold statementPending at hpending
  cases hf : c.settlement with
  | none => rw [hf] at hreached; cases hreached
  | some f =>
    rw [hf] at hreached hpending
    obtain ⟨hst, hday⟩ := of_decide_eq_true hreached
    have hp : f.statementPending = false := hpending
    rw [h f hst hf hclock hday hj] at hp
    cases hp

theorem retentionTest_of_unsettled (hst : c.state ≠ .settled) : retentionTest n s = s :=
  retentionTest_of_kept hc fun _ h => absurd h hst

theorem retentionTest_of_reached {f : Settlement} (hclock : s.clock.second ≠ none) (hst : c.state = .settled)
    (hf : c.settlement = some f) (hday : f.day + s.settings.retentionDays ≤ s.clock.announcedDay) (hj : c.job = none)
    (hp : f.statementPending = false) : retentionTest n s = endCase false n s := by
  unfold retentionTest
  rw [hc]
  refine if_pos ⟨hclock, ?_, hj, ?_⟩
  · simp only [retentionReached, hf]; exact decide_eq_true ⟨hst, hday⟩
  · simp only [statementPending, hf]; exact hp

/-- A case that just settled has its statement pending (R22). -/
theorem retentionTest_settle (kind : SettlementKind) : retentionTest n (settle kind n s) = settle kind n s := by
  have hfind : (settle kind n s).findCase n = some (settledCase (chainSettlement kind s.clock.announcedDay c) c) := by
    have hcases : (settle kind n s).cases =
        (s.modCase n fun c => settledCase (chainSettlement kind s.clock.announcedDay c) c).cases := by
      simp only [settle, settleWith, queueStatement, requestStatement_cases, modSigning_cases]
    have hmod := findCase_modCase (s := s) (n := n) (f := fun c => settledCase (chainSettlement kind s.clock.announcedDay c) c)
      (fun _ => rfl)
    rw [hc] at hmod
    exact (findCase_of_cases hcases n).trans hmod
  refine retentionTest_of_kept hfind fun f _ hf _ _ _ => ?_
  cases hf
  rfl

end

/-! ### A failed job's case (R33, R35, R37) -/

section
variable {s v : State} {p : Port} {o : JobOutcome} {j : Job} {c : Case} (hv : JobFails p o j c s v)
include hv

theorem JobFails.clock_eq : v.clock = s.clock := by rw [hv.frame]
theorem JobFails.settings_eq : v.settings = s.settings := by rw [hv.frame]
theorem JobFails.zones_eq : v.zones = s.zones := by rw [hv.frame]
theorem JobFails.links_eq : v.links = s.links := by rw [hv.frame]

end

section
variable {s v : State} {p : Port} {o : JobOutcome} {j : Job} {c : Case} (hv : JobFails p o j c s v)
  (hc : s.findCase j.caseNo = some c)
include hv hc

theorem JobFails.takeDue_of_nothing (hd : NothingDue c s) : takeDue j.caseNo v = v :=
  takeDue_of_no_mark (hv.findCase hc) hd.1

theorem JobFails.retentionTest_of_nothing (hd : NothingDue c s) : retentionTest j.caseNo v = v := by
  refine retentionTest_of_kept (hv.findCase hc) fun f hst hf hclock hday _ => ?_
  rw [hv.clock_eq] at hclock hday
  rw [hv.settings_eq] at hday
  exact hd.2 f hst hf hclock hday

/-- A FORCED mark settles the case of the failed job. -/
theorem JobFails.takeDue_forced (hd : c.settleDue = some .forced) (hst : c.state ≠ .settled) (hconf : c.conflicts = [])
    (hclock : s.clock.second ≠ none) :
    takeDue j.caseNo v = settle .forced c.number (unmarked c.number v) ∧
      retentionTest j.caseNo (takeDue j.caseNo v) = takeDue j.caseNo v := by
  have hn := findCase_number hc
  have htake : takeDue j.caseNo v = settle .forced j.caseNo (unmarked j.caseNo v) :=
    Machine.takeDue_forced (hv.findCase hc) hd (by rw [hv.clock_eq]; exact hclock) hst hconf
  rw [htake, hn]
  exact ⟨rfl, retentionTest_settle (findCase_unmarked (hv.findCase hc)) .forced⟩

end

/-! ### The tear window (R152) -/

theorem exec_tearWindowExpiry (s : State) (p : Port) :
    exec (.tearWindowExpiry p) s = .next (stampFloor s (expireWindow p s)) := rfl

theorem expireWindow_of_running {s : State} {p : Port} {j : Job} {now e : Nat} (hj : (s.port p).job = some j)
    (he : j.tearEnd = some e) (hclock : s.clock.second = some now) (h : now < e) : expireWindow p s = s := by
  have hnot : ¬ (j.phase = .torn ∧ e ≤ now) := by omega
  simp [expireWindow, windowPassed, hj, he, hclock, hnot]

theorem expireWindow_of_passed {s : State} {p : Port} {j : Job} {now e : Nat} (hj : (s.port p).job = some j)
    (hp : j.phase = .torn) (he : j.tearEnd = some e) (hclock : s.clock.second = some now) (h : e ≤ now) :
    expireWindow p s = endJob p .tornTimeout s := by
  simp [expireWindow, windowPassed, hj, he, hclock, hp, h]

/-- Settles O48: the window that has passed fails the job, and what waits for its end is taken in order. -/
theorem tearWindowEndsTheJob : Obligations.TearWindowEndsTheJob := by
  intro s p j now e hj hp he hclock
  refine ⟨fun h => ?running, fun h c hc => ?passed⟩
  case running => rw [exec_tearWindowExpiry, expireWindow_of_running hj he hclock h, stampFloor_self]
  case passed =>
    have hset : s.clock.second ≠ none := by rw [hclock]; exact Option.some_ne_none _
    have hn := findCase_number hc
    rw [exec_tearWindowExpiry, expireWindow_of_passed hj hp he hclock h]
    obtain ⟨v, hv, hend⟩ := endJob_failed (o := .tornTimeout) hj hc rfl rfl
    have hfv := hv.findCase hc
    have hvclock : v.clock.second ≠ none := by rw [hv.clock_eq]; exact hset
    -- of a case that does not settle, the retention test leaves what the mark left
    have hends {t : State} (ht : takeDue j.caseNo v = t) (hr : retentionTest j.caseNo t = t) :
        endJob p .tornTimeout s = t := by
      rw [hend, ht, hr]; split <;> rfl
    refine ⟨fun target hk hd hst hg honce => ?exact, fun hd => ?nothing, v, hv, fun hst => ⟨fun hd hconf => ?forced,
      fun hd hconf => ?lapses, fun hd hkeep => ?kept, fun hd hdue hr hg => ?automatic⟩,
      fun target f hk hst hf hd hday hpend => ?retention⟩
    case exact =>
      have hnothing : NothingDue c s := ⟨hd, fun _ h => absurd h hst⟩
      have h : endJob p .tornTimeout s = v :=
        hends (hv.takeDue_of_nothing hc hnothing) (hv.retentionTest_of_nothing hc hnothing)
      rw [h, stampFloor_of_stored hv.stored]
      have hreport : failureReport p .tornTimeout j c = .issueDone j.caseNo p .tornTimeout target j.target j.nextSegment
          c.attempts (if j.target.isSome then c.issue else none) none := by
        simp only [failureReport, hk]
      obtain ⟨u, hu, rfl⟩ := hv
      have hcases : s.cases.map (fun d => if d.number = c.number then { d with job := none } else d) =
          s.cases.map fun d => if d.number = c.number then { c with job := none } else d := by
        refine List.map_congr_left fun d hd => ?_
        split
        · rw [honce d hd ‹_›]
        · rfl
      rw [hu.2 hg, hreport, hcases]
      rfl
    case nothing =>
      have h : endJob p .tornTimeout s = v := hends (hv.takeDue_of_nothing hc hd) (hv.retentionTest_of_nothing hc hd)
      rw [h, stampFloor_of_stored hv.stored]
      exact ⟨v, rfl, hv⟩
    case forced =>
      obtain ⟨htake, hret⟩ := hv.takeDue_forced hc hd hst hconf hset
      rw [hends htake (by rw [← htake]; exact hret)]
    case lapses =>
      have htake := takeDue_lapses hfv hd hvclock hst hconf
      have hret := retentionTest_of_unsettled (s := (unmarked j.caseNo v).caseReport c.owner
        (reviewReport { c with job := none, settleDue := none } none)) (findCase_unmarked hfv) hst
      rw [hends htake hret, ← hv.links_eq, hn]
      rfl
    case kept =>
      have htake := takeDue_automatic hfv hd hvclock hst
      have hu := findCase_unmarked hfv
      have htest : testCase j.caseNo (unmarked j.caseNo v) = unmarked j.caseNo v := by
        by_cases hdue : c.quietEnd ≤ s.clock.announcedDay ∨ closedAll s.zones c.zonesClosed = true
        · rw [← hv.clock_eq, ← hv.zones_eq] at hdue
          rw [testCase_of_due hu hdue]
          exact automaticTrigger_of_review hu rfl (hkeep.resolve_left (not_not_intro (by rwa [hv.clock_eq, hv.zones_eq] at hdue)))
        · rw [← hv.clock_eq, ← hv.zones_eq] at hdue
          exact testCase_of_not_due hu hdue
      rw [hends (htake.trans htest) (retentionTest_of_unsettled hu hst), hn]
    case automatic =>
      have htake := takeDue_automatic hfv hd hvclock hst
      have hu := findCase_unmarked hfv
      have hkind : automaticKind (unmarked j.caseNo v) { c with job := none, settleDue := none } =
          if closedAll s.zones c.zonesClosed = true ∧ gapCount c = 0 then .exact else .presumed := by
        rw [← hv.zones_eq]; rfl
      have htest : testCase j.caseNo (unmarked j.caseNo v) =
          settle (if closedAll s.zones c.zonesClosed = true ∧ gapCount c = 0 then .exact else .presumed) j.caseNo
            (unmarked j.caseNo v) := by
        rw [← hv.clock_eq, ← hv.zones_eq] at hdue
        rw [testCase_of_due hu hdue, automaticTrigger_settles hu hst hvclock rfl hr hg, hkind]
      rw [hends (htake.trans htest) (retentionTest_settle hu _), hn]
    case retention =>
      have htake := takeDue_of_no_mark hfv hd
      have hday' : f.day + v.settings.retentionDays ≤ v.clock.announcedDay := by rw [hv.settings_eq, hv.clock_eq]; exact hday
      rw [hend, hk]
      dsimp only
      rw [htake, retentionTest_of_reached hfv hvclock hst hf hday' rfl hpend, hn]

end Sys2Proof.Machine
end

section
/-! PROOF. What the end of a job leaves on its port and in its case, whatever waits behind it, and ISSUE ABORT (R157). -/

namespace Sys2Proof.Machine

/-! ### Settling as one change (R22, R171) -/

/-- A settlement changes the cases and the signing unit alone. -/
theorem settleWith_eq (figures : Nat → Case → Settlement) (n : Nat) (s : State) :
    settleWith figures n s = { s with cases := (settleWith figures n s).cases, signing := (settleWith figures n s).signing } :=
  state_eq (settleWith_base s figures n) (settleWith_channels s figures n) rfl (settleWith_hotlist s figures n)
    (settleWith_zones s figures n) (settleWith_ports s figures n) rfl

/-- The cases after a settlement. -/
theorem settleWith_cases (figures : Nat → Case → Settlement) (n : Nat) (s : State) :
    (settleWith figures n s).cases =
      s.cases.map fun c => if c.number = n then settledCase (figures s.clock.announcedDay c) c else c := by
  simp only [settleWith, queueStatement, requestStatement_cases, modSigning_cases, modCase_cases]

/-! ### The end of a job -/

/-- The end of a job changes the cases, the channels, the hotlist, the signing unit and the ports alone. -/
theorem endJob_frame (p : Port) (o : JobOutcome) (s : State) :
    endJob p o s = { s with
      cases := (endJob p o s).cases, channels := (endJob p o s).channels, hotlist := (endJob p o s).hotlist
      signing := (endJob p o s).signing, ports := (endJob p o s).ports } :=
  state_eq (endJob_base s p o) rfl rfl rfl (endJob_zones s p o) rfl rfl

/-- An event that keeps the base and the zones may stamp the floor besides. -/
theorem stampFloor_frame {s u : State} (hbase : u.base = s.base) (hzones : u.zones = s.zones) :
    stampFloor s u = { s with
      cases := (stampFloor s u).cases, channels := (stampFloor s u).channels, hotlist := (stampFloor s u).hotlist
      signing := (stampFloor s u).signing, ports := (stampFloor s u).ports, clock := (stampFloor s u).clock } := by
  refine state_eq ?_ rfl rfl rfl (by rw [stampFloor_zones, hzones]) rfl rfl
  simp only [State.base, stampFloor_terminal, stampFloor_links, stampFloor_nextCase, stampFloor_concession, stampFloor_settings,
    stampFloor_choices, stampFloor_pending, terminal_of_base hbase, links_of_base hbase, nextCase_of_base hbase,
    concession_of_base hbase, settings_of_base hbase, choices_of_base hbase, pending_of_base hbase]

/-- A port whose job ended has neither job nor command, and all else of it stands. -/
theorem endJob_port_self {s : State} {p : Port} {j : Job} (o : JobOutcome) (hj : (s.port p).job = some j) :
    (endJob p o s).port p = { s.port p with outstanding := none, job := none } := by
  have hseat := giveUpSigning_seat s p p
  rw [endJob_of_job o hj, port_of_ports (outcomeTaken_ports o j _) p]
  unfold freeJob
  rw [port_of_ports (modCase_ports _ _ _) p, modPort_port_same, port_of_ports (reportOn_ports _ _ _) p]
  exact congrArg Prod.fst hseat

/-- The cases that bear the number of an ended job have no job. -/
theorem endJob_jobGone {s : State} {p : Port} {j : Job} (o : JobOutcome) (hj : (s.port p).job = some j) :
    ∀ d ∈ (endJob p o s).cases, d.number = j.caseNo → d.job = none := by
  intro d hd hn
  rw [endJob_of_job o hj] at hd
  have hnone : ∀ c, (freeJob p j.caseNo (reportOn j.caseNo (jobReport p o j) (giveUpSigning p s))).findCase j.caseNo = some c →
      c.job = none := by
    intro c hc
    rw [findCase_freeJob] at hc
    obtain ⟨a, _, rfl⟩ := Option.map_eq_some_iff.mp hc
    rfl
  obtain ⟨c, hc, hsame⟩ := (keepsTable_outcomeTaken o hnone).1.same d hd
  by_contra hne
  have hcj : c.job ≠ none := by rw [← hsame.job hne]; exact hne
  obtain ⟨a, _, rfl⟩ := List.mem_map.mp (show c ∈ List.map _ _ from hc)
  revert hcj hsame
  dsimp only
  split
  · exact fun _ h => h rfl
  · next hna => exact fun hsame _ => hna (hsame.number.symm.trans hn)

/-! ### ISSUE ABORT (R157) -/

theorem handleIssueAbort_of_job {l : LinkId} {b : List Byte} {s : State} {c : Case} {k : JobName} {p : Port} {j : Job}
    (hc : s.findCase (fieldAt 0 4 b) = some c) (hown : c.owner = l ∨ s.links[l].rights.approve = true)
    (hcj : c.job = some (k, p)) (hj : (s.port p).job = some j) :
    handleIssueAbort l b s = applyAbort p (abortDecision (decide (s.signing.grantee = some (.port p))) j) s := by
  rw [handleIssueAbort, withOwnCase_of_some _ hc hown]
  simp only [hcj, hj]

theorem abortDecision_of_pending {j : Job} (holds : Bool) (h : j.abortPending = true) :
    abortDecision holds j = .alreadyMarked := by
  rw [abortDecision, if_pos h]

/-- An ISSUE job that writes or reads back is past aborting once its activation is on the way (R157). -/
theorem abortDecision_of_writing {j : Job} {holds : Bool} {target : Family} (h : j.abortPending = false)
    (hk : j.kind = .issue target) (hw : (j.phase = .write ∧ holds = true) ∨ j.phase = .verify) :
    abortDecision holds j = if j.nextSegment = activationSegment target then .tooLate else .marked := by
  unfold abortDecision
  rw [h]
  rcases hw with ⟨hp, rfl⟩ | hp
  · simp [hk, hp, isActivation]
  · simp [hk, hp, isActivation]

theorem abortDecision_of_marking {j : Job} (h : j.abortPending = false) (hk : j.kind = .recover) (hp : j.phase = .mark) :
    abortDecision true j = .tooLate := by
  simp [abortDecision, h, hk, hp]

/-- Every other job ends at once (R157). -/
theorem abortDecision_at_once {j : Job} {holds : Bool} (h : j.abortPending = false)
    (hp : j.phase = .waitingCard ∨ j.phase = .check ∨ j.phase = .torn ∨ j.phase = .read ∨
      (j.phase = .write ∧ holds = false ∧ j.kind ≠ .recover) ∨ (j.phase = .mark ∧ holds = false))
    (hk : j.kind = .recover ∨ (j.phase ≠ .read ∧ j.phase ≠ .mark)) : abortDecision holds j = .atOnce := by
  unfold abortDecision
  rw [h]
  rcases hp with hp | hp | hp | hp | ⟨hp, rfl, hne⟩ | ⟨hp, rfl⟩
  · simp [hp]
  · simp [hp]
  · simp [hp]
  · have hk := hk.resolve_right fun hx => hx.1 hp
    simp [hp, hk]
  · cases hj : j.kind with
    | issue target => simp [hp]
    | recover => exact absurd hj hne
  · have hk := hk.resolve_right fun hx => hx.2 hp
    simp [hp, hk]

/-- Settles O28: the decision by kind and phase, and what an abort taken at once leaves. -/
theorem issueAbortDecidesByPhase : Obligations.IssueAbortDecidesByPhase := by
  intro r l rest s c k p j hr hc hown hcj hj
  dsimp only
  have hwork := handleIssueAbort_of_job hc hown hcj hj
  have decided {d : AbortResult} (h : abortDecision (decide (s.signing.grantee = some (.port p))) j = d) :
      handleIssueAbort l r.body s = applyAbort p d s := by rw [hwork, h]
  refine ⟨fun ha => ?pending, fun ha => ⟨fun target hk hw hn => ?tooLate, fun target hk hw hn => ?marked, fun hk hp hh => ?marking,
    fun hp hk => ?atOnce⟩⟩
  case pending => exact reads_of rfl hr (decided (abortDecision_of_pending _ ha))
  case tooLate =>
    have hd := abortDecision_of_writing (holds := decide (s.signing.grantee = some (.port p))) ha hk
      (by simpa only [decide_eq_true_eq] using hw)
    rw [if_pos hn] at hd
    exact completes_of_cases rfl hr (decided hd) rfl rfl
  case marked =>
    have hd := abortDecision_of_writing (holds := decide (s.signing.grantee = some (.port p))) ha hk
      (by simpa only [decide_eq_true_eq] using hw)
    rw [if_neg hn] at hd
    have h := completes_of_cases rfl hr (decided hd) rfl rfl
    rw [State.modJob, modPort_eq, hj] at h
    exact h
  case marking =>
    have hd := abortDecision_of_marking ha hk hp
    rw [← decide_eq_true hh] at hd
    exact completes_of_cases rfl hr (decided hd) rfl rfl
  case atOnce =>
    have hd : abortDecision (decide (s.signing.grantee = some (.port p))) j = .atOnce :=
      abortDecision_at_once ha (by simpa only [decide_eq_false_iff_not] using hp) hk
    have hdone : Completes .issueAbort r rest s (stampFloor s (endJob p .aborted s)) ⟨.done, .abort false⟩ :=
      completes_of rfl hr (decided hd) (terminal_of_base (endJob_base s p _))
    refine ⟨⟨_, hdone, ?_, ?_, ?_, stampFloor_clock (endJob_clock s p _), ?_⟩, fun hn hnothing => ?nothing,
      fun hn hdue hst hconf hset => ?forced⟩
    · rw [port_of_ports (stampFloor_ports _ _), endJob_port_self _ hj]
    · rw [port_of_ports (stampFloor_ports _ _), endJob_port_self _ hj]
    · rw [stampFloor_cases_eq]; exact endJob_jobGone _ hj
    · exact stampFloor_frame (endJob_base s p _) (endJob_zones s p _)
    case nothing =>
      have hc' : s.findCase j.caseNo = some c := by rw [hn, findCase_number hc]; exact hc
      have hfails := endJob_fails .aborted hj hc' rfl rfl hnothing
      rw [stampFloor_of_stored hfails.stored] at hdone
      exact ⟨_, hdone, hfails⟩
    case forced =>
      have hc' : s.findCase j.caseNo = some c := by rw [hn, findCase_number hc]; exact hc
      obtain ⟨v, hv, hend⟩ := endJob_failed (o := .aborted) hj hc' rfl rfl
      obtain ⟨htake, hret⟩ := hv.takeDue_forced hc' hdue hst hconf hset
      rw [hret, htake] at hend
      have hsettled : endJob p .aborted s = settle .forced c.number (unmarked c.number v) := by
        rw [hend]; split <;> rfl
      rw [hsettled] at hdone
      exact ⟨v, hv, hdone⟩

end Sys2Proof.Machine
end

section
/-! PROOF. Commands that fail and are repeated (R141, R149, R155), the DONE of a MARK (R155), and the fence (R142). -/

namespace Sys2Proof.Machine

/-! ### A failed command (R149) -/

section
variable {s : State} {p : Port} {r : PortRec} {j : Job} (hj : r.job = some j)
include hj

theorem retrySame_of_pending (cmd : Command) (ha : j.abortPending = true) :
    retrySame p cmd (s.setPort p r) = endJob p .aborted (s.setPort p r) := by
  simp only [retrySame, failCommand, setPort_port_same, hj, ha, if_true]

theorem retrySame_repeats (cmd : Command) (ha : j.abortPending = false) (hr : r.retryLimit = 0 ∨ j.retries < r.retryLimit) :
    retrySame p cmd (s.setPort p r) =
      s.setPort p { r with
        job := some { j with retries := min 15 (j.retries + 1) }
        outstanding := some ⟨cmd, s.clock.second, r.timeout⟩ } := by
  have hmay : mayRetry r.retryLimit j = true := decide_eq_true hr
  unfold retrySame failCommand
  rw [setPort_port_same, hj]
  dsimp only
  rw [if_neg (by rw [ha]; exact Bool.false_ne_true), if_pos hmay, modJob_setPort, sendCommand_setPort, hj]
  rfl

theorem retrySame_spent (cmd : Command) (ha : j.abortPending = false) (hl : 0 < r.retryLimit) (hr : r.retryLimit ≤ j.retries) :
    retrySame p cmd (s.setPort p r) = endJob p (spentOutcome cmd) (s.setPort p r) := by
  have hmay : mayRetry r.retryLimit j ≠ true := by
    intro h
    have := of_decide_eq_true h
    omega
  unfold retrySame failCommand
  rw [setPort_port_same, hj]
  dsimp only
  rw [if_neg (by rw [ha]; exact Bool.false_ne_true), if_neg hmay]

end

/-! ### The events that fail a command (R141, R142) -/

/-- A port's record after its command ended unanswered, with its timeout count. -/
def freed (timeouts : Nat) (r : PortRec) : PortRec := { r with timeouts := timeouts, outstanding := none }

theorem takeFault_eq {s : State} {p : Port} {o : Outstanding} (ho : (s.port p).outstanding = some o) :
    takeFault p s =
      if o.command = .sense then s.setPort p (freed 0 (s.port p))
      else retrySame p o.command (s.setPort p (freed 0 (s.port p))) := by
  have hdrop : dropCommand p (clearTimeouts p s) = s.setPort p (freed 0 (s.port p)) := dropCommand_setPort s p _
  unfold takeFault
  dsimp only
  rw [hdrop]
  simp only [clearTimeouts_eq, setPort_port_same, outstandingCommand, ho, Option.map_some]
  cases o.command <;> simp

/-- A timeout below the fence threshold (R142). -/
theorem takeTimeout_below {s : State} {p : Port} {o : Outstanding} (ho : (s.port p).outstanding = some o)
    (h : min 15 ((s.port p).timeouts + 1) < (s.port p).fenceThreshold) :
    takeTimeout p s =
      if o.command = .sense then s.setPort p (freed (min 15 ((s.port p).timeouts + 1)) (s.port p))
      else retrySame p o.command (s.setPort p (freed (min 15 ((s.port p).timeouts + 1)) (s.port p))) := by
  unfold takeTimeout
  simp only [outstandingCommand, ho, Option.map_some, modPort_eq, setPort_port_same, satSucc, if_neg (Nat.not_le.mpr h),
    dropCommand_setPort]
  rfl

/-- A DATA whose content breaks its ranges is a FAULT of the READ (R141). -/
theorem takeData_of_error {s : State} {p : Port} {o : Outstanding} {seg : Nat} {card : Card} {content : Option Segment}
    (ho : (s.port p).outstanding = some o) (hseg : o.command = .read seg) (hc : (s.port p).card = some card)
    (hbad : contentOk card.family seg content = false) : takeData p content s = takeFault p s := by
  have hdrop : dropCommand p (clearTimeouts p s) = s.setPort p (freed 0 (s.port p)) := dropCommand_setPort s p _
  rw [takeFault_eq ho, hseg, if_neg Command.noConfusion]
  unfold takeData
  dsimp only
  rw [hdrop]
  simp only [clearTimeouts_eq, setPort_port_same, outstandingCommand, ho, Option.map_some, hseg, hc, hbad]
  rfl

/-- Settles O46: a FAULT and a timeout below the threshold leave the freed port, from which the command is repeated or the job
ends. -/
theorem failuresAreRetried : Obligations.FailuresAreRetried := by
  intro s p cmd sent timeout hserv ho
  dsimp only
  refine ⟨fun seg card content hcmd hc hbad => ?dataError, fun i timeouts hi => ?failure⟩
  case dataError => rw [exec_data hserv, exec_fault hserv, takeData_of_error ho hcmd hc hbad]
  case failure =>
    have hexec : exec i s = .next (stampFloor s
        (if cmd = .sense then s.setPort p (freed timeouts (s.port p))
          else retrySame p cmd (s.setPort p (freed timeouts (s.port p))))) := by
      rcases hi with ⟨cause, rfl, rfl⟩ | ⟨rfl, hbelow, rfl⟩
      · rw [exec_fault hserv, takeFault_eq ho]
      · rw [exec_responseTimeout hserv, takeTimeout_below ho hbelow]
    refine ⟨fun hsense => ?sense, fun hsense j hj => ?job⟩
    case sense => rw [hexec, if_pos hsense, stampFloor_setPort]; rfl
    case job =>
      have hfreed : (freed timeouts (s.port p)).job = some j := hj
      rw [if_neg hsense] at hexec
      refine ⟨fun ha hr => ?repeated, fun c hc => ⟨fun ha hd => ?aborted, fun ha hl hr =>
        ⟨fun hmark hd => ?writeFailed, fun code read hmark hk hread hnone hst => ?unmarked⟩⟩⟩
      case repeated => rw [hexec, retrySame_repeats hfreed cmd ha hr, stampFloor_setPort]; rfl
      case aborted =>
        rw [retrySame_of_pending hfreed cmd ha] at hexec
        exact ⟨_, hexec, endJob_fails_at .aborted hfreed hc rfl rfl hd⟩
      case writeFailed =>
        have hspent : spentOutcome cmd = .writeFailed := by
          cases cmd with
          | mark code => exact absurd rfl (hmark code)
          | sense => rfl
          | read seg => rfl
          | write seg content code => rfl
        rw [retrySame_spent hfreed cmd ha hl hr, hspent] at hexec
        exact ⟨_, hexec, endJob_fails_at .writeFailed hfreed hc rfl rfl hd⟩
      case unmarked =>
        rw [retrySame_spent hfreed cmd ha hl hr, hmark] at hexec
        have h := endJob_recovers_at (p := p) (r := freed timeouts (s.port p)) .recoveredUnmarked hfreed hc hk rfl hread hst
        rw [markStatus_of_unmarked _ hnone] at h
        exact ⟨_, hexec, h⟩

/-! ### The DONE of a MARK (R155) -/

theorem takeDone_of_mark {s : State} {p : Port} {o : Outstanding} {code : Code} {j : Job} (ho : (s.port p).outstanding = some o)
    (hcmd : o.command = .mark code) (hj : (s.port p).job = some j) :
    takeDone p s = endJob p .recovered (s.setPort p (freed 0 (s.port p))) := by
  have hdrop : dropCommand p (clearTimeouts p s) = s.setPort p (freed 0 (s.port p)) := dropCommand_setPort s p _
  unfold takeDone
  dsimp only
  rw [hdrop]
  simp only [clearTimeouts_eq, setPort_port_same, outstandingCommand, ho, Option.map_some, hcmd, hj]

/-- Settles O45: the DONE ends the job RECOVERED, its reads complete. -/
theorem doneOfAMarkRecovers : Obligations.DoneOfAMarkRecovers := by
  intro s p j code sent timeout c read hserv hj hk ho hc hst hread hmark
  have h := endJob_recovers_at (p := p) (r := freed 0 (s.port p)) .recovered hj hc hk rfl hread hst
  rw [markStatus_of_unmarked _ hmark] at h
  refine ⟨_, ?_, h⟩
  rw [exec_done hserv, takeDone_of_mark ho rfl hj]

/-! ### The fence (R142) -/

/-- A dropped count falls only where it stood above its maximum (R183). -/
def DroppedRises (s t : State) : Prop := ∀ c : Fin 4, min 255 s.channels[c].dropped ≤ t.channels[c].dropped

theorem DroppedRises.of_channels {s t : State} (h : t.channels = s.channels) : DroppedRises s t := fun c => by
  rw [h]; exact Nat.min_le_right _ _

theorem DroppedRises.trans {s t u : State} (h : DroppedRises s t) (k : DroppedRises t u) : DroppedRises s u := fun c => by
  have h1 := h c
  have h2 := k c
  omega

theorem droppedRises_queueReport (s : State) (c : Fin 4) (r : Report) : DroppedRises s (s.queueReport c r) := by
  intro d
  rw [queueReport_channels]
  by_cases hd : d = c
  · subst hd
    simp only [Fin.getElem_fin, Vector.getElem_set_self]
    rcases pushReport_cases r s.channels[d.val] with ⟨_, e⟩ | ⟨_, e⟩ <;> rw [e]
    · exact Nat.min_le_right _ _
    · dsimp only; omega
  · have hne : c.val ≠ d.val := fun e => hd (Fin.ext e.symm)
    simp only [Fin.getElem_fin, Vector.getElem_set_ne _ _ hne]
    exact Nat.min_le_right _ _

theorem droppedRises_reportOn (s : State) (n : Nat) (body : Case → ReportBody) : DroppedRises s (reportOn n body s) := by
  unfold reportOn
  split
  · exact .of_channels rfl
  · exact droppedRises_queueReport s _ _

theorem droppedRises_automaticTrigger (s : State) (n : Nat) : DroppedRises s (automaticTrigger n s) := by
  unfold automaticTrigger
  split
  · exact .of_channels rfl
  · split
    · exact .of_channels rfl
    · split
      · exact .of_channels rfl
      · split
        · exact .of_channels rfl
        · split
          · exact .of_channels rfl
          · split
            · unfold raiseReview
              split
              · exact .of_channels rfl
              · split
                · exact .of_channels rfl
                · exact droppedRises_reportOn (s.modCase n _) n _
            · exact .of_channels (settle_channels s _ n)

theorem droppedRises_takeDue (s : State) (n : Nat) : DroppedRises s (takeDue n s) := by
  unfold takeDue
  split
  · exact .of_channels rfl
  · split
    · exact .of_channels rfl
    · split
      · exact .of_channels rfl
      · dsimp only
        split
        · exact .of_channels rfl
        · split
          · split
            · exact .of_channels (settle_channels _ _ n)
            · exact droppedRises_reportOn (s.modCase n _) n _
          · unfold testCase
            split
            · exact .of_channels rfl
            · split
              · exact droppedRises_automaticTrigger (s.modCase n _) n
              · exact .of_channels rfl

theorem droppedRises_retentionTest (s : State) (n : Nat) : DroppedRises s (retentionTest n s) := by
  unfold retentionTest
  split
  · exact .of_channels rfl
  · next c hc =>
    split
    · rw [endCase_of_find false hc]
      have hreport : DroppedRises s (endedState false c s) := droppedRises_queueReport s _ _
      split
      · exact hreport
      · exact hreport.trans (.of_channels (autoCut_channels _))
    · exact .of_channels rfl

theorem droppedRises_endJob (s : State) (p : Port) (o : JobOutcome) : DroppedRises s (endJob p o s) := by
  cases hj : (s.port p).job with
  | none => rw [endJob_of_no_job o hj]; exact .of_channels rfl
  | some j =>
    rw [endJob_of_job o hj]
    have hreport : DroppedRises s (reportOn j.caseNo (jobReport p o j) (giveUpSigning p s)) :=
      (DroppedRises.of_channels (giveUpSigning_channels s p)).trans (droppedRises_reportOn _ _ _)
    refine (hreport.trans (.of_channels (t := freeJob p j.caseNo _) rfl)).trans ?_
    unfold outcomeTaken
    split
    · refine DroppedRises.trans ?_ (droppedRises_retentionTest _ _)
      refine DroppedRises.trans (.of_channels ?_) (droppedRises_takeDue _ _)
      split <;> rfl
    · split
      · exact .of_channels (settleWith_channels _ _ _)
      · exact droppedRises_takeDue _ _

/-- A report queued after a dropped count rose is the queue's last, or raises the count. -/
theorem queued_or_dropped {s u : State} (h : DroppedRises s u) (c : Fin 4) (r : Report) :
    (u.queueReport c r).channels[c].queue.getLast? = some r ∨
      s.channels[c].dropped < (u.queueReport c r).channels[c].dropped ∨ (u.queueReport c r).channels[c].dropped = 255 := by
  have hc := h c
  have he : (u.queueReport c r).channels[c] = pushReport r u.channels[c] := by
    rw [queueReport_channels]; exact Vector.getElem_set_self _
  rw [he]
  rcases pushReport_cases r u.channels[c] with ⟨_, e⟩ | ⟨_, e⟩ <;> rw [e]
  · exact .inl List.getLast?_concat
  · right; dsimp only; omega

/-- A port's record once it was fenced, its job still to end (R142). -/
def fencedRecord (r : PortRec) : PortRec :=
  { r with timeouts := min 15 (r.timeouts + 1), fenced := true, card := none, outstanding := none }

/-- A timeout at the fence threshold (R142). -/
theorem takeTimeout_fences {s : State} {p : Port} {o : Outstanding} (ho : (s.port p).outstanding = some o)
    (h : (s.port p).fenceThreshold ≤ min 15 ((s.port p).timeouts + 1)) :
    takeTimeout p s =
      (endJob p .portFenced (s.setPort p (fencedRecord (s.port p)))).systemReport
        (.portFenced p ((s.port p).job.map fun j => j.caseNo) (min 15 ((s.port p).timeouts + 1)) s.clock.second) := by
  have htimeouts : ((endJob p .portFenced (s.setPort p (fencedRecord (s.port p)))).port p).timeouts =
      min 15 ((s.port p).timeouts + 1) := by
    cases hj : (s.port p).job with
    | none => rw [endJob_of_no_job _ (by rw [setPort_port_same]; exact hj), setPort_port_same]; rfl
    | some j =>
      rw [endJob_port_self (j := j) _ (by rw [setPort_port_same]; exact hj), setPort_port_same]; rfl
  unfold takeTimeout fencePort
  simp only [outstandingCommand, ho, Option.map_some, modPort_eq, setPort_port_same, satSucc, if_pos h, setPort_setPort]
  rw [← fencedRecord, htimeouts, endJob_clock]
  rfl

/-- Settles O47: the fence, the end of the job, what waits for it, and the fence's own report last. -/
theorem timeoutAtTheThresholdFences : Obligations.TimeoutAtTheThresholdFences := by
  intro s p o hserv ho
  dsimp only
  intro hlimit
  rw [exec_responseTimeout hserv, takeTimeout_fences ho hlimit]
  refine ⟨fun hj => ?free, fun j c hj hc => ?ended, fun j hj => ?frame⟩
  case free =>
    rw [endJob_of_no_job _ (by rw [setPort_port_same]; exact hj), hj]
    refine next_of_cases rfl ?_
    simp only [fencedRecord, hj]
    rfl
  case ended =>
    have hending : s.setPort p (fencedRecord (s.port p)) = s.setPort p { fencedRecord (s.port p) with job := some j } := by
      rw [← hj]; rfl
    have hc' : (s.setPort p { fencedRecord (s.port p) with job := some j }).findCase j.caseNo = some c := hc
    have hn := findCase_number hc
    rw [hending, hj]
    obtain ⟨v, hv, hend⟩ := endJob_failed (o := .portFenced) (by rw [setPort_port_same]) hc' rfl rfl
    refine ⟨v, hv, fun hd => ?nothing, fun hst hd hconf hset => ?forced, ?due⟩
    case nothing =>
      rw [hv.takeDue_of_nothing hc' hd, hv.retentionTest_of_nothing hc' hd] at hend
      have hended : endJob p .portFenced (s.setPort p { fencedRecord (s.port p) with job := some j }) = v := by
        rw [hend]; split <;> rfl
      rw [hended]
      refine congrArg _ (stampFloor_of_stored ?_)
      exact hv.stored
    case forced =>
      obtain ⟨htake, hret⟩ := hv.takeDue_forced hc' hd hst hconf hset
      rw [hret, htake] at hend
      have hended : endJob p .portFenced (s.setPort p { fencedRecord (s.port p) with job := some j }) =
          settle .forced c.number (unmarked c.number v) := by
        rw [hend]; split <;> rfl
      rw [hended]
      rfl
    case due =>
      rw [hend, hn]
      cases hk : j.kind <;> rfl
  case frame =>
    have hj' : ((s.setPort p (fencedRecord (s.port p))).port p).job = some j := by rw [setPort_port_same]; exact hj
    rw [hj]
    refine ⟨_, rfl, ?_, ?_, ?_, stampFloor_clock (endJob_clock _ p _), stampFloor_frame (endJob_base _ p _) (endJob_zones _ p _)⟩
    · rw [port_of_ports (stampFloor_ports _ _), systemReport_port, endJob_port_self _ hj', setPort_port_same]
      rfl
    · rw [stampFloor_cases_eq]
      exact endJob_jobGone _ hj'
    · rw [stampFloor_channels]
      exact queued_or_dropped (s := s) (droppedRises_endJob (s.setPort p (fencedRecord (s.port p))) p _) 0 _

end Sys2Proof.Machine
end

section
/-! PROOF. The DONE of a WRITE (R147, R148, R150): what confirms a segment, what follows the confirmation, and the read-back. -/

namespace Sys2Proof.Machine

/-! ### What follows a confirmed segment (R147, R148, R150) -/

/-- A job with its segment confirmed (R147). -/
def confirmedJob (j : Job) : Job := { j with nextSegment := j.nextSegment + 1, grantCount := j.grantCount + 1, retries := 0 }

/-- A port's record with another job record. -/
def withJob (k : Job) (r : PortRec) : PortRec := { r with job := some k }

theorem withJob_self {j : Job} {r : PortRec} (h : r.job = some j) : withJob j r = r := by
  unfold withJob; rw [← h]

theorem withJob_withJob (k q : Job) (r : PortRec) : withJob k (withJob q r) = withJob k r := rfl

section
variable {s : State} {p : Port} {r : PortRec} {j : Job} (hj : r.job = some j)
include hj

theorem confirmSegment_setPort : confirmSegment p (s.setPort p r) = s.setPort p (withJob (confirmedJob j) r) := by
  rw [confirmSegment, modJob_setPort, hj]
  rfl

/-- The WRITE that goes out next (R147). -/
theorem sendWrite_setPort {c : Case} {fig : IssueFigures} (hc : s.findCase j.caseNo = some c) (hfig : c.issue = some fig) :
    sendWrite p (s.setPort p r) =
      s.setPort p { r with
        outstanding := some ⟨writeOf (s.signing.context.getD 0) j fig, s.clock.second, r.timeout⟩ } := by
  have hc' : (s.setPort p r).findCase j.caseNo = some c := hc
  unfold sendWrite
  rw [setPort_port_same, hj]
  dsimp only
  rw [hc']
  simp only [Option.bind_some, hfig, sendCommand_setPort, hj]
  rfl

theorem afterConfirm_of_pending (target : Family) (seg : Nat) (ha : j.abortPending = true) :
    afterConfirm p target seg (s.setPort p r) = endJob p .aborted (s.setPort p r) := by
  unfold afterConfirm
  rw [setPort_port_same, hj]
  exact if_pos ha

section
variable (ha : j.abortPending = false)
include ha

theorem afterConfirm_of_activation (target : Family) :
    afterConfirm p target (activationSegment target) (s.setPort p r) = endJob p .issued (s.setPort p r) := by
  unfold afterConfirm
  rw [setPort_port_same, hj]
  dsimp only
  rw [if_neg (ne_true_of_eq_false ha), if_pos (by simp [isActivation])]

/-- The end of a grant: a release, with the port's new request before the pick (R147, R148, R167). -/
theorem afterConfirm_releases {target : Family} {seg : Nat} (hseg : seg ≠ activationSegment target)
    (h : r.mode = .careful ∨ j.grantCount = 4) :
    afterConfirm p target seg (s.setPort p r) =
      releaseAndRequest (.port p) (s.setPort p (withJob { j with phase := .write } r)) := by
  unfold afterConfirm
  rw [setPort_port_same, hj]
  dsimp only
  rw [if_neg (ne_true_of_eq_false ha), if_neg (by simp [isActivation, hseg]), if_pos h, modJob_setPort, hj]
  rfl

theorem afterConfirm_writes {target : Family} {seg : Nat} (hseg : seg ≠ activationSegment target)
    (h : ¬ (r.mode = .careful ∨ j.grantCount = 4)) :
    afterConfirm p target seg (s.setPort p r) = sendWrite p (s.setPort p r) := by
  unfold afterConfirm
  rw [setPort_port_same, hj]
  dsimp only
  rw [if_neg (ne_true_of_eq_false ha), if_neg (by simp [isActivation, hseg]), if_neg h]

end
end

/-! ### The release with a new request (R167) -/

theorem setWaiting_alone (m : Member) : setWaiting m false (setWaiting m true {}) = {} := by
  rcases m with p | _ | _
  · cases p <;> rfl
  · rfl
  · rfl

theorem isWaiting_alone_iff (m x : Member) : isWaiting (setWaiting m true {}) x = true ↔ x = m := by
  rcases m with p | _ | _ <;> rcases x with q | _ | _ <;> (try cases p) <;> (try cases q) <;> decide

/-- A member that waits alone is the next. -/
theorem isNext_alone (mode : ArbMode) (u : Signing) {m : Member} (h : u.waiting = setWaiting m true {}) : IsNext mode u m := by
  refine ⟨by rw [h]; exact (isWaiting_alone_iff m m).mpr rfl, fun x hx => ?_⟩
  rw [h] at hx
  rw [(isWaiting_alone_iff m x).mp hx]
  exact ⟨Nat.le_refl _, fun _ => Nat.le_refl _⟩

/-- A port that alone asks again at its release is granted again (R167, R169). -/
theorem releaseAndRequest_alone {s : State} {p : Port} {r : PortRec} {j : Job} {c : Case} {fig : IssueFigures} (hj : r.job = some j)
    (hp : j.phase ≠ .mark) (hc : s.findCase j.caseNo = some c) (hfig : c.issue = some fig)
    (hg : s.signing.grantee = some (.port p)) (hw : s.signing.waiting = {}) :
    releaseAndRequest (.port p) (s.setPort p r) =
      { s.setPort p { r with
          job := some { j with grantCount := 0 }
          outstanding := some ⟨writeOf (j.target.getD 0) j fig, s.clock.second, r.timeout⟩ } with
        signing := { s.signing with context := j.target, lastFirst := .port p, computation := none } } := by
  let asks : State := (s.setPort p r).modSigning fun u => { u with waiting := setWaiting (.port p) true u.waiting }
  let free : State := asks.modSigning fun u => { u with grantee := none, context := none, computation := none }
  have hnext : IsNext asks.settings.mode asks.signing (.port p) :=
    isNext_alone _ _ (by show setWaiting (.port p) true s.signing.waiting = _; rw [hw])
  have hrelease : releaseGrant asks = grant (.port p) free := (releaseGrant_released asks).2 _ hnext
  have hport : free.port p = r := setPort_port_same s p r
  have hgrant := (requestGrant_writes (s := free) (by rw [hport]; exact hj) hp hc hfig).2 rfl
  have hsigning : { takeGrant (.port p) free.signing with context := j.target } =
      { s.signing with context := j.target, lastFirst := .port p, computation := none } := by
    show { takeGrant (.port p) { s.signing with
        waiting := setWaiting (.port p) true s.signing.waiting, grantee := none, context := none, computation := none } with
      context := j.target } = _
    have hback : setWaiting (.port p) false (setWaiting (.port p) true s.signing.waiting) = s.signing.waiting := by
      rw [hw]; exact setWaiting_alone _
    simp only [takeGrant, hback, firstPlaceOf, ← hg]
  calc releaseAndRequest (.port p) (s.setPort p r) = requestGrant (.port p) free := hrelease
    _ = _ := by
      rw [hgrant, hport, hsigning, ← setPort_setPort s p r]
      rfl

/-! ### The DONE of a WRITE (R147 to R149) -/

theorem takeDone_of_write {s : State} {p : Port} {o : Outstanding} {seg : Nat} {content : Option Segment} {code : Code} {j : Job}
    {target : Family} (ho : (s.port p).outstanding = some o) (hcmd : o.command = .write seg content code)
    (hj : (s.port p).job = some j) (hk : j.kind = .issue target) :
    takeDone p s = writeDone p target seg j (s.setPort p (freed 0 (s.port p))) := by
  have hdrop : dropCommand p (clearTimeouts p s) = s.setPort p (freed 0 (s.port p)) := dropCommand_setPort s p _
  unfold takeDone
  dsimp only
  rw [hdrop]
  simp only [clearTimeouts_eq, setPort_port_same, outstandingCommand, ho, Option.map_some, hcmd, hj, hk]

section
variable {s : State} {p : Port} {r : PortRec} {j : Job} (target : Family) (seg : Nat)

theorem writeDone_in_burst (hm : r.mode = .burst) (hp : j.phase = .write) :
    writeDone p target seg j (s.setPort p r) = afterConfirm p target seg (confirmSegment p (s.setPort p r)) := by
  unfold writeDone
  rw [if_neg (by rw [hp]; exact Phase.noConfusion), if_pos (by rw [setPort_port_same]; exact hm)]

theorem writeDone_of_pending (h : (r.mode = .careful ∧ j.phase = .write) ∨ j.phase = .verify) (ha : j.abortPending = true) :
    writeDone p target seg j (s.setPort p r) = endJob p .aborted (s.setPort p r) := by
  unfold writeDone
  rcases h with ⟨hm, hp⟩ | hp
  · rw [if_neg (by rw [hp]; exact Phase.noConfusion),
      if_neg (by rw [setPort_port_same, hm]; exact WriteMode.noConfusion), if_pos ha]
  · rw [if_pos hp, if_pos ha]

/-- CAREFUL reads a written segment back (R148). -/
theorem writeDone_reads_back (hj : r.job = some j) (hm : r.mode = .careful) (hp : j.phase = .write) (ha : j.abortPending = false) :
    writeDone p target seg j (s.setPort p r) =
      s.setPort p { r with
        job := some { j with phase := .verify, retries := 0 }, outstanding := some ⟨.read seg, s.clock.second, r.timeout⟩ } := by
  unfold writeDone
  rw [if_neg (by rw [hp]; exact Phase.noConfusion),
    if_neg (by rw [setPort_port_same, hm]; exact WriteMode.noConfusion), if_neg (ne_true_of_eq_false ha), modJob_setPort,
    sendRead_setPort, hj]
  rfl

/-- A WRITE repeated after a mismatch is read back again (R149). -/
theorem writeDone_repeated (hp : j.phase = .verify) (ha : j.abortPending = false) :
    writeDone p target seg j (s.setPort p r) =
      s.setPort p { r with outstanding := some ⟨.read seg, s.clock.second, r.timeout⟩ } := by
  unfold writeDone
  rw [if_pos hp, if_neg (ne_true_of_eq_false ha), sendRead_setPort]

end

/-! ### A FORCED mark at the issue of a card (R35) -/

/-- A state with other cases, and a number at the tail of its statement queue. -/
def queuedAfter (cases : List Case) (n : Nat) (s : State) : State :=
  { s with cases := cases, signing := { s.signing with queue := s.signing.queue ++ [n] } }

/-- A settlement, its number in the statement queue (R22, R171). -/
theorem settleWith_queued (figures : Nat → Case → Settlement) (n : Nat) (s : State) :
    let cases := s.cases.map fun c => if c.number = n then settledCase (figures s.clock.announcedDay c) c else c
    settleWith figures n s =
      { s with cases := cases, signing := statementsQueued [n] (headStatement (queuedAfter cases n s)) s.signing } := by
  dsimp only
  have hne : s.signing.queue ++ [n] ≠ [] := by simp
  have hasks : settleWith figures n s = requestStatement (queuedAfter _ n s) := rfl
  rw [hasks, requestStatement_eq]
  unfold statementsQueued
  by_cases h : s.signing.waiting.statement = true ∨ s.signing.grantee = some .statement
  · rw [if_pos (.inr h), if_pos (.inr h)]; rfl
  · rw [if_neg (by rintro (h' | h'); exacts [hne h', h h']), if_neg (by rintro (h' | h'); exacts [List.cons_ne_nil _ _ h', h h'])]
    rfl

/-- Settling reads the announced day alone of the clock. -/
theorem settle_stamped (kind : SettlementKind) (n : Nat) (s : State) :
    settle kind n { s with clock := stamped s.clock } = { settle kind n s with clock := stamped s.clock } := by
  have hday : (stamped s.clock).announcedDay = s.clock.announcedDay := by
    unfold stamped; split <;> rfl
  simp only [settle, settleWith_queued, hday]
  rfl

theorem findCase_settle {kind : SettlementKind} {n : Nat} {s : State} {c : Case} (hc : s.findCase n = some c) :
    (settle kind n s).findCase n = some (settledCase (chainSettlement kind s.clock.announcedDay c) c) := by
  have hmod := findCase_modCase (s := s) (n := n) (f := fun c => settledCase (chainSettlement kind s.clock.announcedDay c) c)
    (fun _ => rfl)
  rw [hc] at hmod
  exact (findCase_of_cases (settleWith_cases _ n s) n).trans hmod

/-- A case that changed its state is a change of the stored cases (R191). -/
theorem stored_ne_of_state {s t : State} {n : Nat} {c d : Case} (hc : s.findCase n = some c) (hd : t.findCase n = some d)
    (h : c.state ≠ d.state) : s.cases.map storedCase ≠ t.cases.map storedCase := by
  intro he
  have hfind (u : State) : (u.cases.map storedCase).find? (fun c => c.number = n) = (u.findCase n).map storedCase := by
    rw [List.find?_map]; rfl
  have heq := hfind s
  rw [he, hfind t, hc, hd] at heq
  exact h (congrArg (fun c => c.state) (Option.some.inj heq)).symm

section
variable {s : State} {p : Port} {r : PortRec} {j : Job} {c : Case} {target : Family} {fig : IssueFigures}

/-- The activation of a WATCH case's card takes its FORCED mark (R32, R35). -/
theorem endJob_issued_forced (hj : r.job = some j) (hk : j.kind = .issue target) (hc : s.findCase j.caseNo = some c)
    (hfig : c.issue = some fig) (hst : c.state = .watch) (hd : c.settleDue = some .forced) (hconf : c.conflicts = [])
    (hclock : s.clock.second ≠ none) (honce : ∀ d ∈ s.cases, d.number = c.number → d = c) :
    ∃ v, JobIssues p .issued target j c fig (s.setPort p r) v ∧
      stampFloor s (endJob p .issued (s.setPort p r)) = settle .forced c.number (unmarked c.number v) := by
  obtain ⟨v, hend, hvclock, _, hfind, _, hissues⟩ := endJob_issued (s := s.setPort p r) .issued
    (by rw [setPort_port_same]; exact hj) hk hc rfl hfig (.inl hst) honce
  rw [← findCase_number hc] at hend hfind hc
  have hholding : (if c.state = .watch then CaseState.holding else c.state) ≠ .settled := by
    rw [if_pos hst]; exact CaseState.noConfusion
  have htake : takeDue c.number v = settle .forced c.number (unmarked c.number v) :=
    takeDue_forced hfind hd (by rw [hvclock]; exact hclock) hholding hconf
  have hret := retentionTest_settle (findCase_unmarked hfind) .forced
  have hchanged := stored_ne_of_state hc (findCase_settle (kind := .forced) (findCase_unmarked hfind))
    (by rw [hst]; exact CaseState.noConfusion)
  have hsettled : (settle .forced c.number (unmarked c.number v)).clock = s.clock := by
    rw [settle, settleWith_eq]; exact hvclock
  refine ⟨_, hissues, ?_⟩
  rw [hend, htake, hret, stampFloor_of_changed hchanged hsettled]
  have h := settle_stamped .forced c.number (unmarked c.number v)
  rw [show (unmarked c.number v).clock = s.clock from hvclock] at h
  exact h.symm

end

/-- Settles O44: a DONE by the write mode, the phase and the segment written. -/
theorem doneConfirmsInBurst : Obligations.DoneConfirmsInBurst := by
  intro s p j target seg content code sent timeout c fig hserv hj hk hseg ho hc hfig
  subst hseg
  dsimp only
  have hfreed : (freed 0 (s.port p)).job = some j := hj
  have hexec : exec (.done p) s = .next (stampFloor s (writeDone p target j.nextSegment j (s.setPort p (freed 0 (s.port p))))) := by
    rw [exec_done hserv, takeDone_of_write ho rfl hj hk]
  refine ⟨fun hm hp => ?burst, fun h => ?readBack⟩
  case burst =>
    have hmay {k : Nat} (hk : k ≠ 4) : ¬ ((freed 0 (s.port p)).mode = .careful ∨ k = 4) := by
      rintro (h | h)
      · rw [show (freed 0 (s.port p)).mode = .burst from hm] at h; cases h
      · exact hk h
    have hjob : (withJob (confirmedJob j) (freed 0 (s.port p))).job = some (confirmedJob j) := rfl
    rw [hexec, writeDone_in_burst (r := freed 0 (s.port p)) _ _ hm hp, confirmSegment_setPort hfreed]
    refine ⟨fun ha hd => ?aborted, fun ha hne hg => ?writes, fun ha hne hg => ?released, fun ha he honce hst => ?issued⟩
    case aborted =>
      rw [afterConfirm_of_pending hjob _ _ ha]
      exact ⟨_, rfl, endJob_fails_at .aborted hjob hc rfl rfl hd⟩
    case writes =>
      rw [afterConfirm_writes hjob ha hne (hmay (Nat.ne_of_lt hg)),
        sendWrite_setPort hjob hc hfig, stampFloor_setPort]
      rfl
    case released =>
      have hwriting : { confirmedJob j with phase := .write } = confirmedJob j := by rw [← hp]; rfl
      rw [afterConfirm_releases hjob ha hne (.inr hg), hwriting, withJob_withJob]
      refine ⟨⟨_, next_of_cases (releaseGrant_cases _) rfl, releaseGrant_released _⟩, fun hgrantee hw => ?_⟩
      rw [releaseAndRequest_alone hjob (by rw [← hwriting]; exact Phase.noConfusion) hc hfig hgrantee hw]
      exact next_of_cases rfl rfl
    case issued =>
      have h := afterConfirm_of_activation (s := s) (p := p) hjob ha target
      rw [← he] at h
      rw [h]
      exact ⟨fun hd => ⟨_, rfl, endJob_issues_at .issued hjob hc hk rfl hfig hst hd honce⟩,
        fun hwatch hdue hconf hclock => by
          obtain ⟨v, hv, hsettled⟩ :=
            endJob_issued_forced hjob hk hc hfig hwatch hdue hconf hclock honce
          exact ⟨v, hv, congrArg _ hsettled⟩⟩
  case readBack =>
    rw [hexec]
    refine ⟨fun ha hd => ?aborted, fun ha hp => ?read, fun ha hp => ?again⟩
    case aborted =>
      rw [writeDone_of_pending (r := freed 0 (s.port p)) _ _ h ha]
      rw [← withJob_self hfreed]
      exact ⟨_, rfl, endJob_fails_at (r := withJob j (freed 0 (s.port p))) .aborted rfl hc rfl rfl hd⟩
    case read =>
      have hm := (h.resolve_right (by rw [hp]; exact Phase.noConfusion)).1
      rw [writeDone_reads_back (r := freed 0 (s.port p)) _ _ hfreed hm hp ha, stampFloor_setPort]
      rfl
    case again =>
      rw [writeDone_repeated (r := freed 0 (s.port p)) _ _ hp ha, stampFloor_setPort, ← hj]
      rfl

end Sys2Proof.Machine
end

section
/-! PROOF. What a DATA does by the phase of the job: the check of a card (R145, R146, R152, R153), the read-back of a segment (R148,
R149), and the reads of a recovery (R154). -/

namespace Sys2Proof.Machine

/-! ### The DATA that answers a READ (R141) -/

theorem takeData_of_ok {s : State} {p : Port} {o : Outstanding} {seg : Nat} {card : Card} {content : Option Segment}
    (ho : (s.port p).outstanding = some o) (hseg : o.command = .read seg) (hc : (s.port p).card = some card)
    (hok : contentOk card.family seg content = true) :
    takeData p content s = takeRead p seg content (s.setPort p (freed 0 (s.port p))) := by
  have hdrop : dropCommand p (clearTimeouts p s) = s.setPort p (freed 0 (s.port p)) := dropCommand_setPort s p _
  unfold takeData
  dsimp only
  rw [hdrop]
  simp only [clearTimeouts_eq, setPort_port_same, outstandingCommand, ho, Option.map_some, hseg, hc, hok, if_true]

section
variable {s : State} {p : Port} {r : PortRec} {j : Job} {card : Card} (seg : Nat) (content : Option Segment)
  (hj : r.job = some j) (hc : r.card = some card)
include hj hc

theorem takeRead_in_check_of_issue {target : Family} (hk : j.kind = .issue target) (hp : j.phase = .check) :
    takeRead p seg content (s.setPort p r) = checkIssueRead p target j card content (s.setPort p r) := by
  simp only [takeRead, setPort_port_same, hj, hc, hk, hp]

theorem takeRead_in_check_of_recover (hk : j.kind = .recover) (hp : j.phase = .check) :
    takeRead p seg content (s.setPort p r) = checkRecoverRead p j card content (s.setPort p r) := by
  simp only [takeRead, setPort_port_same, hj, hc, hk, hp]

theorem takeRead_in_read (hk : j.kind = .recover) (hp : j.phase = .read) :
    takeRead p seg content (s.setPort p r) = recoverRead p seg card content (s.setPort p r) := by
  simp only [takeRead, setPort_port_same, hj, hc, hk, hp]

theorem takeRead_in_verify {target : Family} (hk : j.kind = .issue target) (hp : j.phase = .verify) :
    takeRead p seg content (s.setPort p r) = verifyRead p target seg j content (s.setPort p r) := by
  simp only [takeRead, setPort_port_same, hj, hc, hk, hp]

end

/-! ### The classification of a checked card (R145, R152) -/

section
variable {target : Family} {n : Nat} {stored : Option Serial} {card : Card} {header activation mark : Option Segment}

/-- A blank card of the target family, or one partly written for the case (R145). -/
def Accepted (target : Family) (n : Nat) (card : Card) (header activation mark : Option Segment) : Prop :=
  mark = none ∧ activation = none ∧ card.family = target ∧ (header = none ∨ headerCase header = some n)

/-- A card activated for the case, whose figures the case holds (R145). -/
def Completed (n : Nat) (stored : Option Serial) (card : Card) (header activation mark : Option Segment) : Prop :=
  mark = none ∧ activation ≠ none ∧ headerCase header = some n ∧ stored = some card.serial

theorem header_of_headerCase (h : headerCase header = some n) : header ≠ none := by
  rintro rfl; cases h

theorem classifyFirst_accepts (h : Accepted target n card header activation mark) :
    classifyFirst target n stored card header activation mark = .accept := by
  obtain ⟨rfl, rfl, hfam, rfl | hours⟩ := h
  · simp [classifyFirst, hfam]
  · simp [classifyFirst, hfam, hours, header_of_headerCase hours]

theorem classifyFirst_completes (h : Completed n stored card header activation mark) :
    classifyFirst target n stored card header activation mark = .completed := by
  obtain ⟨rfl, hact, hours, hstored⟩ := h
  simp [classifyFirst, hact, hours, header_of_headerCase hours, hstored]

theorem classifyFirst_rejects (ha : ¬ Accepted target n card header activation mark)
    (hc : ¬ Completed n stored card header activation mark) :
    classifyFirst target n stored card header activation mark = .rejected := by
  unfold Accepted at ha
  unfold Completed at hc
  unfold classifyFirst
  cases mark with
  | some m => rfl
  | none =>
    by_cases hh : header = none
    · subst hh; simp_all
    · by_cases hours : headerCase header = some n
      · by_cases hact : activation = none <;> simp_all
      · simp [hh, hours]

theorem classifyReturn_resumes {next : Nat} (hm : mark = none) (hact : activation = none)
    (h : header = none ∨ headerCase header = some n) :
    classifyReturn n next header activation mark = .resume (if header = none then 0 else next) := by
  subst hm hact
  rcases h with rfl | hours
  · simp [classifyReturn]
  · simp [classifyReturn, hours, header_of_headerCase hours]

theorem classifyReturn_completes {next : Nat} (hm : mark = none) (hact : activation ≠ none) (hours : headerCase header = some n) :
    classifyReturn n next header activation mark = .completed := by
  subst hm
  simp [classifyReturn, hours, header_of_headerCase hours, hact]

theorem classifyReturn_rejects {next : Nat}
    (h : mark ≠ none ∨ (header ≠ none ∧ headerCase header ≠ some n) ∨ (header = none ∧ activation ≠ none)) :
    classifyReturn n next header activation mark = .rejected := by
  rcases h with hm | ⟨hh, hours⟩ | ⟨rfl, hact⟩
  · obtain ⟨m, rfl⟩ := Option.ne_none_iff_exists'.mp hm; rfl
  · simp [classifyReturn, hh, hours]
  · simp [classifyReturn, hact, headerCase]

end

/-! ### The check of an ISSUE job (R145, R146, R152) -/

section
variable {s : State} {p : Port} {r : PortRec} {j : Job} {target : Family} {card : Card} {content : Option Segment}

/-- A job that has read one segment more of the card it checks (R145). -/
def hasRead (content : Option Segment) (j : Job) : Job := { j with reads := j.reads ++ [content], retries := 0 }

theorem checkIssueRead_header (hj : r.job = some j) (h : j.reads = []) :
    checkIssueRead p target j card content (s.setPort p r) =
      sendRead p (activationSegment card.family) (s.setPort p (withJob (hasRead content j) r)) := by
  simp only [checkIssueRead, modJob_setPort, hj, Option.map_some, h]
  simp only [withJob, hasRead, h]

theorem checkIssueRead_activation {header : Option Segment} (hj : r.job = some j) (h : j.reads = [header]) :
    checkIssueRead p target j card content (s.setPort p r) =
      sendRead p markSegment (s.setPort p (withJob (hasRead content j) r)) := by
  simp only [checkIssueRead, modJob_setPort, hj, Option.map_some, h]
  simp only [withJob, hasRead, h]

section
variable {header activation : Option Segment} {c : Case} (hj : r.job = some j) (h : j.reads = [header, activation])
include hj h

theorem checkIssueRead_first (hc : s.findCase j.caseNo = some c) (hm : j.mode = .first) :
    checkIssueRead p target j card content (s.setPort p r) =
      takeCheckResult p target card j.caseNo
        (classifyFirst target j.caseNo (c.issue.map fun f => f.serial) card header activation content)
        (s.setPort p (withJob (hasRead content j) r)) := by
  have hserial : storedSerial (s.setPort p (withJob (hasRead content j) r)) j.caseNo = c.issue.map fun f => f.serial := by
    rw [storedSerial, findCase_of_cases (setPort_cases s p _), hc]; rfl
  rw [← hserial]
  simp only [checkIssueRead, modJob_setPort, hj, Option.map_some, h, hm]
  simp only [withJob, hasRead, h, hm]

theorem checkIssueRead_return (hm : j.mode = .afterTear) :
    checkIssueRead p target j card content (s.setPort p r) =
      takeCheckResult p target card j.caseNo (classifyReturn j.caseNo j.nextSegment header activation content)
        (s.setPort p (withJob (hasRead content j) r)) := by
  simp only [checkIssueRead, modJob_setPort, hj, Option.map_some, h, hm]
  simp only [withJob, hasRead, h, hm]

end

theorem enterWrite_setPort (hj : r.job = some j) (next : Nat) :
    enterWrite p next (s.setPort p r) =
      requestGrant (.port p)
        (s.setPort p (withJob { j with phase := .write, nextSegment := next, grantCount := 0, retries := 0 } r)) := by
  rw [enterWrite, modJob_setPort, hj]; rfl

theorem takeCheckResult_completed (n : Nat) (k : Job) :
    takeCheckResult p target card n .completed (s.setPort p (withJob k r)) =
      endJob p .issuedUnverified (s.setPort p (withJob { k with target := some card.serial } r)) :=
  congrArg (endJob p .issuedUnverified) (modJob_setPort s p (withJob k r) fun j => { j with target := some card.serial })

theorem takeCheckResult_resumes (n next : Nat) (k : Job) :
    takeCheckResult p target card n (.resume next) (s.setPort p (withJob k r)) =
      requestGrant (.port p)
        (s.setPort p (withJob { k with phase := .write, nextSegment := next, grantCount := 0, retries := 0 } r)) :=
  enterWrite_setPort (r := withJob k r) rfl next

/-- The state with another record for one case. -/
def withRecord (n : Nat) (d : Case) (s : State) : State := { s with cases := s.cases.map fun c => if c.number = n then d else c }

/-- The card check stores the figures of the service day and asks to write (R146). -/
theorem cardCheck_asks {c : Case} (hj : r.job = some j) (hc : s.findCase j.caseNo = some c)
    (honce : ∀ d ∈ s.cases, d.number = c.number → d = c) :
    let fig := issueFigures target card.serial s.clock.announcedDay c
    let first : Job := { j with
      target := some card.serial, phase := .write, nextSegment := 0, grantCount := 0, retries := 0 }
    AsksForGrant p first (writeOf card.serial first fig)
      (withRecord c.number { c with issue := some fig } (s.setPort p (withJob first r)))
      (cardCheck p target card j.caseNo (s.setPort p r)) := by
  intro fig first
  have hn := findCase_number hc
  have hcases : s.cases.map (fun d => if d.number = j.caseNo then
      { d with issue := some (issueFigures target card.serial s.clock.announcedDay d) } else d) =
      s.cases.map fun d => if d.number = c.number then { c with issue := some fig } else d := by
    refine List.map_congr_left fun d hd => ?_
    rw [← hn]
    by_cases h : d.number = c.number
    · rw [if_pos h, if_pos h, honce d hd h]
    · rw [if_neg h, if_neg h]
  have hcheck : cardCheck p target card j.caseNo (s.setPort p r) =
      requestGrant (.port p) (withRecord c.number { c with issue := some fig } (s.setPort p (withJob first r))) := by
    unfold cardCheck withRecord
    dsimp only
    rw [modJob_setPort, hj]
    rw [setPort_cases, ← hcases]
    exact enterWrite_setPort (s := s.modCase j.caseNo fun d =>
      { d with issue := some (issueFigures target card.serial s.clock.announcedDay d) })
      (r := withJob { j with target := some card.serial } r) rfl 0
  have hfind : (withRecord c.number { c with issue := some fig } (s.setPort p (withJob first r))).findCase j.caseNo =
      some { c with issue := some fig } := by
    have h := findCase_replaced (k := { c with issue := some fig }) hc hn
    rw [← hn] at h ⊢
    exact h
  rw [hcheck]
  exact requestGrant_writes (congrArg (fun r => r.job) (setPort_port_same s p _)) Phase.noConfusion hfind rfl

end

/-! ### The read-back of a segment (R148, R149) -/

section
variable {s : State} {p : Port} {r : PortRec} {j : Job} (hj : r.job = some j) (failed : Command) (again : State → State)
include hj

theorem failCommand_of_pending (ha : j.abortPending = true) :
    failCommand p failed again (s.setPort p r) = endJob p .aborted (s.setPort p r) := by
  unfold failCommand
  rw [setPort_port_same, hj]
  exact if_pos ha

theorem failCommand_repeats (ha : j.abortPending = false) (hr : r.retryLimit = 0 ∨ j.retries < r.retryLimit) :
    failCommand p failed again (s.setPort p r) =
      again (s.setPort p (withJob { j with retries := min 15 (j.retries + 1) } r)) := by
  have hmay : mayRetry r.retryLimit j = true := decide_eq_true hr
  unfold failCommand
  rw [setPort_port_same, hj]
  dsimp only
  rw [if_neg (ne_true_of_eq_false ha), if_pos hmay, modJob_setPort, hj]
  rfl

theorem failCommand_spent (ha : j.abortPending = false) (hl : 0 < r.retryLimit) (hr : r.retryLimit ≤ j.retries) :
    failCommand p failed again (s.setPort p r) = endJob p (spentOutcome failed) (s.setPort p r) := by
  have hmay : mayRetry r.retryLimit j ≠ true := by
    intro h
    have := of_decide_eq_true h
    omega
  unfold failCommand
  rw [setPort_port_same, hj]
  dsimp only
  rw [if_neg (ne_true_of_eq_false ha), if_neg hmay]

end

section
variable {s : State} {p : Port} {r : PortRec} {j : Job} {target : Family} {seg : Nat} {content : Option Segment} {c : Case}
  {fig : IssueFigures} (hc : s.findCase j.caseNo = some c) (hfig : c.issue = some fig)
include hc hfig

/-- A segment read back as it was written is confirmed (R148). -/
theorem verifyRead_confirms (hj : r.job = some j) (h : content = issueContent j.caseNo fig seg) :
    verifyRead p target seg j content (s.setPort p r) = afterConfirm p target seg (s.setPort p (withJob (confirmedJob j) r)) := by
  unfold verifyRead
  dsimp only
  rw [findCase_of_cases (setPort_cases s p r), hc]
  simp only [Option.bind_some, hfig, Option.map_some]
  rw [if_pos (congrArg some h.symm), confirmSegment_setPort hj]

/-- A mismatch is a failure, after which the segment is written again (R149). -/
theorem verifyRead_fails (h : content ≠ issueContent j.caseNo fig seg) :
    verifyRead p target seg j content (s.setPort p r) = failCommand p (.read seg) (sendWrite p) (s.setPort p r) := by
  unfold verifyRead
  dsimp only
  rw [findCase_of_cases (setPort_cases s p r), hc]
  simp only [Option.bind_some, hfig, Option.map_some]
  rw [if_neg fun he => h (Option.some.inj he).symm]

end

/-! ### The check and the reads of a RECOVER job (R153, R154) -/

theorem recoverAccepts_iff (c : Case) (content : Option Segment) :
    recoverAccepts c content = true ↔
      ∃ issueDay caseNo, content = some (.header c.snapshot.cardNo c.snapshot.family issueDay caseNo) := by
  constructor
  · intro h
    unfold recoverAccepts at h
    split at h
    · next cardNo fam issueDay caseNo =>
      obtain ⟨rfl, rfl⟩ := of_decide_eq_true h
      exact ⟨issueDay, caseNo, rfl⟩
    · cases h
  · rintro ⟨issueDay, caseNo, rfl⟩
    exact decide_eq_true ⟨rfl, rfl⟩

section
variable {s : State} {p : Port} {r : PortRec} {j : Job} {card : Card} {content : Option Segment} {c : Case}

theorem checkRecoverRead_accepts (hj : r.job = some j) (hc : s.findCase j.caseNo = some c) (h : recoverAccepts c content = true) :
    checkRecoverRead p j card content (s.setPort p r) =
      sendRead p 1 (s.setPort p (withJob { j with
        phase := .read, target := if j.mode = .first then some card.serial else j.target, contents := none, retries := 0 } r)) := by
  unfold checkRecoverRead
  rw [findCase_of_cases (setPort_cases s p r), hc]
  dsimp only
  rw [if_pos h, modJob_setPort, hj]
  rfl

theorem checkRecoverRead_rejects (hc : s.findCase j.caseNo = some c) (h : recoverAccepts c content ≠ true) :
    checkRecoverRead p j card content (s.setPort p r) = endJob p .cardRejected (s.setPort p r) := by
  unfold checkRecoverRead
  rw [findCase_of_cases (setPort_cases s p r), hc]
  exact if_neg h

/-- A RECOVER job that has kept one segment more (R154). -/
def keptJob (contents : ReadContents) (j : Job) : Job := { j with contents := some contents, retries := 0 }

/-- The contents that a job holds after a segment was read (R154). -/
def contentsAfter (s : State) (j : Job) (card : Card) (seg : Nat) (content : Option Segment) : ReadContents :=
  keepRead content seg (purseSegment card.family) (emptyPurse j.caseNo card s.clock.second) (j.contents.getD ⟨[], none, none⟩)

theorem recoverRead_eq (hj : r.job = some j) (seg : Nat) :
    recoverRead p seg card content (s.setPort p r) =
      let t := s.setPort p (withJob (keptJob (contentsAfter s j card seg content) j) r)
      if seg = markSegment then
        match content with
        | some _ => endJob p .recovered t
        | none => requestGrant (.port p) (t.modJob p fun j => { j with phase := .mark })
      else if seg = purseSegment card.family then sendRead p markSegment t
      else sendRead p (seg + 1) t := by
  unfold recoverRead
  dsimp only
  rw [modJob_setPort, hj]
  cases content <;> rfl

theorem purseSegment_lt (fam : Family) : purseSegment fam < markSegment := by
  cases fam <;> decide

/-- The next segment is read (R154). -/
theorem recoverRead_goes_on {kept : ReadContents} {seg : Nat} (hj : r.job = some j) (hseg : seg ≤ purseSegment card.family)
    (hk : contentsAfter s j card seg content = kept) :
    recoverRead p seg card content (s.setPort p r) =
      sendRead p (if seg = purseSegment card.family then markSegment else seg + 1) (s.setPort p (withJob (keptJob kept j) r)) := by
  have hmark : seg ≠ markSegment := Nat.ne_of_lt (Nat.lt_of_le_of_lt hseg (purseSegment_lt _))
  rw [recoverRead_eq hj, hk]
  dsimp only
  rw [if_neg hmark]
  split <;> rfl

theorem recoverRead_marked {n : Nat} {kept : ReadContents} (hj : r.job = some j)
    (hk : contentsAfter s j card markSegment (some (.blockMark n)) = kept) :
    recoverRead p markSegment card (some (.blockMark n)) (s.setPort p r) =
      endJob p .recovered (s.setPort p (withJob (keptJob kept j) r)) := by
  rw [recoverRead_eq hj, hk]; rfl

theorem recoverRead_unmarked {kept : ReadContents} (hj : r.job = some j)
    (hk : contentsAfter s j card markSegment none = kept) :
    recoverRead p markSegment card none (s.setPort p r) =
      requestGrant (.port p) (s.setPort p (withJob { keptJob kept j with phase := .mark } r)) := by
  rw [recoverRead_eq hj, hk]
  exact congrArg (requestGrant (.port p)) (modJob_setPort s p (withJob (keptJob kept j) r) fun j => { j with phase := .mark })

end

/-- What an empty purse segment stands for is within the segment's ranges (log entry 26). -/
theorem emptyPurse_bounds (n : Nat) (card : Card) (second : Option Nat) :
    -5000 ≤ (emptyPurse n card second).1 ∧ (emptyPurse n card second).1 ≤ purseMax card.family ∧
      (emptyPurse n card second).2 < 16777216 := by
  refine ⟨Int.le_max_left _ _, ?_, Nat.mod_lt _ (by omega)⟩
  have h : (-5000 : Int) ≤ purseMax card.family := by omega
  exact Int.max_le.mpr ⟨h, Int.min_le_left _ _⟩

/-! ### The ends of a job, by its record -/

section
variable {s : State} {p : Port} {r : PortRec} {c : Case} (k : Job) (o : JobOutcome) (hc : s.findCase k.caseNo = some c)
include hc

theorem job_fails (hi : issueSucceeded o = false) (hr : recoverySucceeded o = false) (hd : NothingDue c s) :
    ∃ t, (Host.Outcome.next (stampFloor s (endJob p o (s.setPort p (withJob k r)))) : Host.Outcome State Fault Refusal) = .next t ∧
      JobFails p o k c (s.setPort p (withJob k r)) t :=
  ⟨_, rfl, endJob_fails_at o rfl hc hi hr hd⟩

theorem job_issues {target : Family} {fig : IssueFigures} (hk : k.kind = .issue target) (hi : issueSucceeded o = true)
    (hfig : c.issue = some fig)
    (hmay : (c.state = .watch ∨ (c.state = .settled ∧ c.newCard = none)) ∧ NothingDue c s ∧
      ∀ d ∈ s.cases, d.number = c.number → d = c) :
    ∃ t, (Host.Outcome.next (stampFloor s (endJob p o (s.setPort p (withJob k r)))) : Host.Outcome State Fault Refusal) = .next t ∧
      JobIssues p o target k c fig (s.setPort p (withJob k r)) t :=
  ⟨_, rfl, endJob_issues_at o rfl hc hk hi hfig hmay.1 hmay.2.1 hmay.2.2⟩

end

theorem hasRead_of {j : Job} {header activation : Option Segment} (content : Option Segment) (h : j.reads = [header, activation]) :
    hasRead content j = { j with reads := [header, activation, content], retries := 0 } := by
  rw [hasRead, h]; rfl

/-- Settles O43: a DATA by the job's kind and phase. -/
theorem dataDrivesTheCheck : Obligations.DataDrivesTheCheck := by
  intro s p j card seg sent timeout content c hserv hj hcard ho hok hc
  dsimp only
  have hfreed : (freed 0 (s.port p)).job = some j := hj
  have hread : exec (.data p content) s = .next (stampFloor s (takeRead p seg content (s.setPort p (freed 0 (s.port p))))) := by
    rw [exec_data hserv, takeData_of_ok ho rfl hcard hok]
  have hself := withJob_self hfreed
  have hinside' (h : seg = purseSegment card.family) : seg ≠ markSegment := Nat.ne_of_lt (h ▸ purseSegment_lt _)
  have hinside (h : seg < purseSegment card.family) : seg ≠ markSegment := Nat.ne_of_lt (Nat.lt_trans h (purseSegment_lt _))
  rw [hread]
  refine ⟨fun target hk hp => ⟨fun h0 => ?header, fun header h1 => ?activation, fun header activation h2 =>
      ⟨fun hm => ⟨fun hacc honce => ?accepted, fun fig hcomp hfig hmay => ?completed, fun hna hnc hd => ?rejected⟩,
        fun hm => ⟨fun fig hm0 hact hh hfig => ?resumed, fun fig hm0 hact hours ht hfig hmay => ?returned,
          fun h hd => ?refused⟩⟩⟩,
    fun target fig hk hp hseg hm hfig => ⟨fun hmatch => ⟨fun ha hd => ?aborted, fun ha he hmay => ?issued,
        fun ha hne => ?confirmed⟩, fun hdiff => ⟨fun ha hd => ?abortedAt, fun ha hr => ?again, fun ha hl hr hd => ?spent⟩⟩,
    fun hk hp => ⟨fun hacc => ?recoverable, fun hna hd => ?stranger⟩,
    fun hk hp => ⟨fun h1 hlt => ⟨fun q hq => ?product, fun hq => ?noProduct⟩,
      fun hpurse => ⟨fun b n hq => ?purse, fun hq => ?noPurse⟩, fun hmark => ⟨fun n hq hst => ?marked, fun hq => ?unmarked⟩⟩⟩
  case header =>
    rw [takeRead_in_check_of_issue _ _ hfreed hcard hk hp, checkIssueRead_header hfreed h0, sendRead_setPort, stampFloor_setPort,
      hasRead, h0]
    rfl
  case activation =>
    rw [takeRead_in_check_of_issue _ _ hfreed hcard hk hp, checkIssueRead_activation hfreed h1, sendRead_setPort,
      stampFloor_setPort, hasRead, h1]
    rfl
  case accepted =>
    rw [takeRead_in_check_of_issue _ _ hfreed hcard hk hp, checkIssueRead_first hfreed h2 hc hm, classifyFirst_accepts hacc,
      hasRead_of content h2]
    exact ⟨_, cardCheck_asks (r := withJob { j with reads := [header, activation, content], retries := 0 } (freed 0 (s.port p)))
      rfl hc honce, rfl⟩
  case completed =>
    rw [takeRead_in_check_of_issue _ _ hfreed hcard hk hp, checkIssueRead_first hfreed h2 hc hm, classifyFirst_completes hcomp,
      hasRead_of content h2]
    rw [takeCheckResult_completed]
    exact job_issues
      { j with reads := [header, activation, content], retries := 0, target := some card.serial } .issuedUnverified hc hk rfl hfig hmay
  case rejected =>
    rw [takeRead_in_check_of_issue _ _ hfreed hcard hk hp, checkIssueRead_first hfreed h2 hc hm, classifyFirst_rejects hna hnc,
      hasRead_of content h2]
    exact job_fails { j with reads := [header, activation, content], retries := 0 } .cardRejected hc rfl rfl hd
  case resumed =>
    rw [takeRead_in_check_of_issue _ _ hfreed hcard hk hp, checkIssueRead_return hfreed h2 hm, classifyReturn_resumes hm0 hact hh,
      hasRead_of content h2]
    rw [takeCheckResult_resumes]
    have hasks := requestGrant_writes (p := p)
      (k := { j with
        reads := [header, activation, content], retries := 0, phase := .write, grantCount := 0
        nextSegment := if header = none then 0 else j.nextSegment })
      (congrArg (fun r => r.job) (setPort_port_same s p (withJob _ (freed 0 (s.port p))))) Phase.noConfusion
      (by rw [findCase_of_cases (setPort_cases s p _)]; exact hc) hfig
    exact ⟨_, hasks, next_of_cases (requestGrant_cases _ _) rfl⟩
  case returned =>
    rw [takeRead_in_check_of_issue _ _ hfreed hcard hk hp, checkIssueRead_return hfreed h2 hm, classifyReturn_completes hm0 hact hours,
      hasRead_of content h2]
    rw [takeCheckResult_completed, ← ht]
    exact job_issues { j with reads := [header, activation, content], retries := 0 } .issuedUnverified hc hk rfl hfig hmay
  case refused =>
    rw [takeRead_in_check_of_issue _ _ hfreed hcard hk hp, checkIssueRead_return hfreed h2 hm, classifyReturn_rejects h,
      hasRead_of content h2]
    exact job_fails { j with reads := [header, activation, content], retries := 0 } .cardRejected hc rfl rfl hd
  case aborted =>
    rw [takeRead_in_verify _ _ hfreed hcard hk hp, verifyRead_confirms hc hfig hfreed hmatch,
      afterConfirm_of_pending (j := confirmedJob j) rfl _ _ ha, ← hseg]
    exact job_fails (confirmedJob j) .aborted hc rfl rfl hd
  case issued =>
    rw [takeRead_in_verify _ _ hfreed hcard hk hp, verifyRead_confirms hc hfig hfreed hmatch]
    have hact := afterConfirm_of_activation (s := s) (p := p) (r := withJob (confirmedJob j) (freed 0 (s.port p)))
      (j := confirmedJob j) rfl ha target
    rw [← he] at hact
    rw [hact, ← hseg]
    exact job_issues (confirmedJob j) .issued hc hk rfl hfig hmay
  case confirmed =>
    rw [takeRead_in_verify _ _ hfreed hcard hk hp, verifyRead_confirms hc hfig hfreed hmatch,
      afterConfirm_releases (r := withJob (confirmedJob j) (freed 0 (s.port p))) (j := confirmedJob j) rfl ha hne (.inl hm),
      withJob_withJob, ← hseg]
    exact ⟨_, next_of_cases (releaseGrant_cases _) rfl, releaseGrant_released _⟩
  case abortedAt =>
    rw [takeRead_in_verify _ _ hfreed hcard hk hp, verifyRead_fails hc hfig hdiff, failCommand_of_pending hfreed _ _ ha, ← hself]
    exact job_fails j .aborted hc rfl rfl hd
  case again =>
    rw [takeRead_in_verify _ _ hfreed hcard hk hp, verifyRead_fails hc hfig hdiff, failCommand_repeats hfreed _ _ ha hr]
    rw [sendWrite_setPort (j := { j with retries := min 15 (j.retries + 1) }) rfl hc hfig, stampFloor_setPort]
    rfl
  case spent =>
    rw [takeRead_in_verify _ _ hfreed hcard hk hp, verifyRead_fails hc hfig hdiff, failCommand_spent hfreed _ _ ha hl hr, ← hself]
    exact job_fails j .writeFailed hc rfl rfl hd
  case recoverable =>
    rw [takeRead_in_check_of_recover _ _ hfreed hcard hk hp, checkRecoverRead_accepts hfreed hc ((recoverAccepts_iff c content).mpr hacc),
      sendRead_setPort, stampFloor_setPort]
    rfl
  case stranger =>
    rw [takeRead_in_check_of_recover _ _ hfreed hcard hk hp,
      checkRecoverRead_rejects hc fun h => hna ((recoverAccepts_iff c content).mp h), ← hself]
    exact job_fails j .cardRejected hc rfl rfl hd
  case product =>
    have hkeep : contentsAfter s j card seg content =
        { j.contents.getD ⟨[], none, none⟩ with products := (j.contents.getD ⟨[], none, none⟩).products ++ [q] } := by
      rw [hq]; exact if_neg (hinside hlt)
    rw [takeRead_in_read _ _ hfreed hcard hk hp, recoverRead_goes_on hfreed (Nat.le_of_lt hlt) hkeep, if_neg (Nat.ne_of_lt hlt),
      sendRead_setPort, stampFloor_setPort]
    rfl
  case noProduct =>
    have hkeep : contentsAfter s j card seg content = j.contents.getD ⟨[], none, none⟩ := by
      rw [hq]; exact (if_neg (hinside hlt)).trans (if_neg (Nat.ne_of_lt hlt))
    rw [takeRead_in_read _ _ hfreed hcard hk hp, recoverRead_goes_on hfreed (Nat.le_of_lt hlt) hkeep, if_neg (Nat.ne_of_lt hlt),
      sendRead_setPort, stampFloor_setPort]
    rfl
  case purse =>
    have hkeep : contentsAfter s j card seg content = { j.contents.getD ⟨[], none, none⟩ with purse := some (b, n) } := by
      rw [hq]; exact if_neg (hinside' hpurse)
    rw [takeRead_in_read _ _ hfreed hcard hk hp, recoverRead_goes_on hfreed (Nat.le_of_eq hpurse) hkeep, if_pos hpurse,
      sendRead_setPort, stampFloor_setPort]
    rfl
  case noPurse =>
    obtain ⟨hlow, hhigh, hcount⟩ := emptyPurse_bounds j.caseNo card s.clock.second
    have hkeep : contentsAfter s j card seg content =
        { j.contents.getD ⟨[], none, none⟩ with purse := some (emptyPurse j.caseNo card s.clock.second) } := by
      rw [hq]; exact (if_neg (hinside' hpurse)).trans (if_pos hpurse)
    refine ⟨_, _, hlow, hhigh, hcount, ?_⟩
    rw [takeRead_in_read _ _ hfreed hcard hk hp, recoverRead_goes_on hfreed (Nat.le_of_eq hpurse) hkeep, if_pos hpurse,
      sendRead_setPort, stampFloor_setPort]
    rfl
  case marked =>
    have hkeep : contentsAfter s j card seg content = { j.contents.getD ⟨[], none, none⟩ with mark := some (some n) } := by
      rw [hq]; exact if_pos hmark
    rw [hmark, hq] at hkeep ⊢
    rw [takeRead_in_read _ _ hfreed hcard hk hp, show (15 : Nat) = markSegment from rfl, recoverRead_marked hfreed hkeep]
    exact ⟨_, rfl, endJob_recovers_at (j := keptJob _ j) .recovered rfl hc hk rfl rfl hst⟩
  case unmarked =>
    have hkeep : contentsAfter s j card seg content = { j.contents.getD ⟨[], none, none⟩ with mark := some none } := by
      rw [hq]; exact if_pos hmark
    rw [hmark, hq] at hkeep ⊢
    rw [takeRead_in_read _ _ hfreed hcard hk hp, show (15 : Nat) = markSegment from rfl, recoverRead_unmarked hfreed hkeep]
    have hasks := requestGrant_marks (p := p)
      (k := { j with contents := some { j.contents.getD ⟨[], none, none⟩ with mark := some none }, retries := 0, phase := .mark })
      (congrArg (fun r => r.job) (setPort_port_same s p (withJob _ (freed 0 (s.port p))))) rfl rfl
    exact ⟨_, hasks, next_of_cases (requestGrant_cases _ _) rfl⟩

end Sys2Proof.Machine
end

section
/-! PROOF. CASE SETTLE (R27, R22, R171) and CASE CANCEL (R36, R104). -/

namespace Sys2Proof.Machine

theorem stamped_of_set {c : Clock} {now : Nat} (h : c.second = some now) : stamped c = { c with floor := now, floorAge := 0 } := by
  simp only [stamped, h]

/-! ### The signing unit when a number joins the statement queue (R171) -/

section
variable {u : Signing} (n : Nat) (x : Option Computation)

theorem statementsQueued_queue : (statementsQueued [n] x u).queue = u.queue ++ [n] := by
  unfold statementsQueued
  dsimp only
  split
  · rfl
  · unfold asked; split <;> rfl

theorem statementsQueued_of_free (hg : u.grantee = none) (hw : u.waiting = {}) :
    statementsQueued [n] x u = { takeGrant .statement u with queue := u.queue ++ [n], computation := x } := by
  unfold statementsQueued asked
  dsimp only
  rw [if_neg (by rw [hg, hw]; simp), if_pos hg]
  rfl

/-- The member that already waits, or asks another's grantee, waits. -/
theorem statementsQueued_of_taken (hg : u.grantee ≠ none) (hs : u.grantee ≠ some .statement) :
    statementsQueued [n] x u = { u with queue := u.queue ++ [n], waiting := setWaiting .statement true u.waiting } := by
  unfold statementsQueued asked
  dsimp only
  by_cases hw : u.waiting.statement = true
  · rw [if_pos (.inr (.inl hw))]
    have : setWaiting .statement true u.waiting = u.waiting := by rw [setWaiting, ← hw]
    rw [this]
  · rw [if_neg (by simp [hw, hs]), if_neg hg]

theorem statementsQueued_of_holding (hs : u.grantee = some .statement) :
    statementsQueued [n] x u = { u with queue := u.queue ++ [n] } := if_pos (.inr (.inr hs))

end

/-! ### CASE SETTLE (R27) -/

theorem handleCaseSettle_of_case {l : LinkId} {b : List Byte} {s : State} {c : Case} (hc : s.findCase (fieldAt 0 4 b) = some c)
    (hclock : s.clock.second ≠ none) (hst : c.state ≠ .settled) (hconf : c.conflicts = []) :
    handleCaseSettle l b s = answer .none (forceSettle c s) := by
  rw [handleCaseSettle, withCase_of_some _ hc]
  simp only [if_neg hclock, if_neg hst, hconf]
  simp

/-- A settlement as an event's whole effect: the floor is stamped (R22, R191). -/
theorem stampFloor_settle {s : State} {n : Nat} {c : Case} (kind : SettlementKind) (hc : s.findCase n = some c)
    (hst : c.state ≠ .settled) : stampFloor s (settle kind n s) = { settle kind n s with clock := stamped s.clock } :=
  stampFloor_of_changed (stored_ne_of_state hc (findCase_settle hc) hst) (by rw [settle, settleWith_eq])

/-- The statement of the case that settles alone is the first (R171). -/
theorem headStatement_settled {s : State} {n : Nat} {c : Case} (kind : SettlementKind) (hc : s.findCase n = some c)
    (hq : s.signing.queue = []) :
    headStatement (queuedAfter (settle kind n s).cases n s) =
      some (.statement (statementInputs (settledCase (chainSettlement kind s.clock.announcedDay c) c)
        (chainSettlement kind s.clock.announcedDay c))) := by
  have hqueue : (queuedAfter (settle kind n s).cases n s).signing.queue = [n] := by
    show s.signing.queue ++ [n] = [n]; rw [hq]; rfl
  have hfind : (queuedAfter (settle kind n s).cases n s).findCase n = _ :=
    (findCase_of_cases (s := queuedAfter (settle kind n s).cases n s) (t := settle kind n s) rfl n).trans (findCase_settle hc)
  rw [headStatement, hqueue]
  dsimp only
  rw [hfind]
  rfl

/-- Settles O25: an accepted CASE SETTLE marks a case with a job, and settles one without. -/
theorem caseSettleForcesTheSettlement : Obligations.CaseSettleForcesTheSettlement := by
  intro r l rest s c now hr hc hclock hst hconf
  have hset : s.clock.second ≠ none := by rw [hclock]; exact Option.some_ne_none _
  have hn := findCase_number hc
  have hdone := handleCaseSettle_of_case (l := l) hc hset hst hconf
  refine ⟨fun hj => ?marked, fun hj => ?settles⟩
  case marked =>
    rw [forceSettle, if_pos (Option.isSome_iff_ne_none.mpr hj)] at hdone
    exact completes_of rfl hr hdone rfl
  case settles =>
    rw [forceSettle, if_neg (by rw [hj]; exact Bool.false_ne_true), hn] at hdone
    have hcompletes := completes_of rfl hr hdone (terminal_of_base (settleWith_base s _ _))
    rw [stampFloor_settle _ hc hst, ← hn] at hcompletes
    have hsigning : (settle .forced c.number s).signing =
        statementsQueued [c.number] (headStatement (queuedAfter (settle .forced c.number s).cases c.number s)) s.signing := by
      rw [settle, settleWith_cases, settleWith_queued]
    rw [← hn] at hc
    refine ⟨_, hcompletes, settleWith_cases _ _ s, ?_, fun hg hw hq => ?_, fun hg hs => ?_, fun hs => ?_, ?_⟩
    · exact hsigning ▸ statementsQueued_queue _ _
    · show (settle .forced c.number s).signing = _
      rw [hsigning, statementsQueued_of_free _ _ hg hw, headStatement_settled _ hc hq, hq]
      rfl
    · exact hsigning.trans (statementsQueued_of_taken _ _ hg hs)
    · exact hsigning.trans (statementsQueued_of_holding _ _ hs)
    · rw [stamped_of_set hclock, settle, settleWith_eq]

/-! ### CASE CANCEL (R36) -/

theorem cancelStatus_of_cancellable {c : Case} (hj : c.job = none)
    (h : (c.state = .watch ∧ c.blockedSeen = false) ∨
      (c.state = .settled ∧ c.newCard = none ∧ statementPending c = false)) : cancelStatus c = none := by
  unfold cancelStatus
  rw [hj]
  rcases h with ⟨hst, hb⟩ | ⟨hst, hcard, hpend⟩
  · simp [hst, hb]
  · simp [hst, hcard, hpend]

theorem any_untakenAdd_iff (l : List Change) (n : Nat) :
    l.any (untakenAdd n) = true ↔ ∃ x ∈ l, x.kind = .add ∧ x.caseNo = n ∧ x.taken = false := by
  simp only [List.any_eq_true, untakenAdd, decide_eq_true_eq]

/-- A case that ends is a change of the stored cases (R191). -/
theorem stored_ne_of_ended {s t : State} {c : Case} (hc : c ∈ s.cases) (ht : t.cases = s.cases.filter fun d => d.number ≠ c.number) :
    s.cases.map storedCase ≠ t.cases.map storedCase := by
  intro h
  have hlen := congrArg List.length h
  rw [List.length_map, List.length_map, ht] at hlen
  have hlt : (s.cases.filter fun d => d.number ≠ c.number).length < s.cases.length :=
    List.length_filter_lt_length_iff_exists.mpr ⟨c, hc, by simp⟩
  omega

section
variable {s : State} {n : Nat} {c : Case} (cancelled : Bool) (hc : s.findCase n = some c)
include hc

/-- A case that ends in one event with the untaken ADD of its card (R36, R104). -/
theorem endCase_unpublished (h : s.hotlist.pending.any (untakenAdd c.number) = true) :
    endCase cancelled n s = endedState cancelled c s := by
  rw [endCase_of_find cancelled hc, ← findCase_number hc, if_pos h]

/-- A case that ends and leaves a REMOVE (R36, R104, R107). -/
theorem endCase_removed (h : s.hotlist.pending.any (untakenAdd c.number) ≠ true) :
    endCase cancelled n s = autoCut (endedState cancelled c s) := by
  rw [endCase_of_find cancelled hc, ← findCase_number hc, if_neg h]

theorem endCase_cases_of_find : (endCase cancelled n s).cases = s.cases.filter fun d => d.number ≠ c.number := by
  rw [endCase_of_find cancelled hc]
  split
  · rfl
  · rw [autoCut_eq]; rfl

theorem endCase_channels_of_find :
    (endCase cancelled n s).channels = withReport s.links[c.owner].channel
      ⟨some c.owner, s.links[c.owner].station, closedReport c cancelled (dayOf s)⟩ s.channels := by
  have h := caseReport_withReport s c.owner (closedReport c cancelled (dayOf s))
  rw [endCase_of_find cancelled hc]
  split
  · exact h
  · rw [autoCut_eq]; exact h

/-- The end of a case changes the cases, the channels, the hotlist and the signing unit alone. -/
theorem endCase_frame : endCase cancelled n s = { s with
    cases := (endCase cancelled n s).cases, channels := (endCase cancelled n s).channels
    hotlist := (endCase cancelled n s).hotlist, signing := (endCase cancelled n s).signing } := by
  rw [endCase_of_find cancelled hc]
  split
  · rfl
  · rw [autoCut_eq]; rfl

end

/-- Settles O24: the end of the case, and what the hotlist and the signing unit make of it. -/
theorem caseCancelEndsTheCase : Obligations.CaseCancelEndsTheCase := by
  intro r l rest s c hr hc hown hj hcan
  dsimp only
  have hn := findCase_number hc
  have hdone : handleCaseCancel l r.body s = answer .none (endCase true c.number s) := by
    rw [handleCaseCancel, withOwnCase_of_some _ hc hown]
    simp only [cancelStatus_of_cancellable hj hcan]
  rw [← hn] at hc
  have hframe := endCase_frame true hc
  have hcases := endCase_cases_of_find true hc
  have hcompletes := completes_of rfl hr hdone (by rw [hframe])
  rw [stampFloor_of_changed (stored_ne_of_ended (findCase_mem hc) hcases) (by rw [hframe])] at hcompletes
  refine ⟨_, hcompletes, hcases, endCase_channels_of_find true hc, fun h => ?unpublished, fun h => ?removed, ?frame⟩
  case unpublished =>
    have hany := (any_untakenAdd_iff _ _).mpr h
    rw [endCase_unpublished true hc hany]
    exact ⟨by simp only [endedState, withdrawn, hany, if_true], rfl⟩
  case removed =>
    have hany : s.hotlist.pending.any (untakenAdd c.number) ≠ true := by
      rw [Ne, any_untakenAdd_iff]
      rintro ⟨x, hx, hadd⟩
      exact h x hx hadd
    rw [endCase_removed true hc hany, autoCut_eq]
    simp only [endedState, withdrawn, if_neg hany]
    exact ⟨rfl, rfl⟩
  case frame => rw [hframe]

end Sys2Proof.Machine
end

section
/-! PROOF. CASE RESOLVE: the ruling on a conflict, the lapse of CONFLICT, and the test that follows (R57 to R59, R28, R26). -/

namespace Sys2Proof.Machine

/-! ### One record of the case table replaced -/

section
variable {s : State} {n : Nat} {c : Case}

/-- A change of the one case that bears a number is another record for it. -/
theorem modCase_eq_withRecord {f : Case → Case} (hc : s.findCase n = some c) (honce : ∀ d ∈ s.cases, d.number = c.number → d = c) :
    s.modCase n f = withRecord n (f c) s := by
  have hcases : (s.cases.map fun d => if d.number = n then f d else d) = s.cases.map fun d => if d.number = n then f c else d := by
    refine List.map_congr_left fun d hd => ?_
    by_cases h : d.number = n
    · rw [if_pos h, if_pos h, honce d hd (h.trans (findCase_number hc).symm)]
    · rw [if_neg h, if_neg h]
  show { s with cases := _ } = { s with cases := _ }
  rw [hcases]

theorem findCase_withRecord {k : Case} (hc : s.findCase n = some c) (hk : k.number = n) :
    (withRecord n k s).findCase n = some k := findCase_replaced hc hk

/-- A change of the record that replaced another. -/
theorem modCase_withRecord {k : Case} (f : Case → Case) (hk : k.number = n) :
    (withRecord n k s).modCase n f = withRecord n (f k) s := by
  unfold withRecord State.modCase
  simp only [List.map_map]
  congr 1
  refine List.map_congr_left fun d _ => ?_
  simp only [Function.comp]
  by_cases h : d.number = n
  · rw [if_pos h, if_pos hk, if_pos h]
  · rw [if_neg h, if_neg h, if_neg h]

end

/-- A report of a case goes into its owner's channel (R182). -/
theorem caseReport_eq (s : State) (l : LinkId) (b : ReportBody) :
    s.caseReport l b = { s with channels := withReport s.links[l].channel ⟨some l, s.links[l].station, b⟩ s.channels } := by
  rw [← caseReport_withReport]; rfl

/-! ### The automatic trigger's other outcomes (R26) -/

section
variable {s : State} {n : Nat} {c : Case} (hc : s.findCase n = some c)
include hc

theorem automaticTrigger_of_unset (h : s.clock.second = none) : automaticTrigger n s = s := by
  simp only [automaticTrigger, hc, if_pos h, ite_self]

/-- A case with a job takes the AUTOMATIC mark, but keeps a FORCED one (R26 step 2). -/
theorem automaticTrigger_marks (hst : c.state ≠ .settled) (hclock : s.clock.second ≠ none) (hj : c.job ≠ none) :
    automaticTrigger n s =
      s.modCase n fun c => { c with settleDue := some (if c.settleDue = some .forced then .forced else .automatic) } := by
  simp only [automaticTrigger, hc, if_neg hst, if_neg hclock, if_pos (Option.isSome_iff_ne_none.mpr hj)]

/-- More than 64 gaps keep a case from settling, with a report (R26 step 4, R39). -/
theorem automaticTrigger_holds (hst : c.state ≠ .settled) (hclock : s.clock.second ≠ none) (hj : c.job = none)
    (hr : c.review = ⟨false, false, false⟩) (hg : 64 < gapCount c) :
    automaticTrigger n s = raiseReview .gapImplausible n s := by
  have he : reviewEmpty c.review = true := (reviewEmpty_iff _).mpr hr
  simp only [automaticTrigger, hc, if_neg hst, if_neg hclock, hj, he, if_pos hg]
  rfl

/-- A reason that newly joins the review is reported on the owner's channel (R39). -/
theorem raiseReview_joins {reason : Reason} (h : inReview c.review reason = false) :
    raiseReview reason n s =
      (s.modCase n fun c => { c with review := addReason c.review reason }).caseReport c.owner
        (reasonAdded reason { c with review := addReason c.review reason }) := by
  have hfind : (s.modCase n fun c => { c with review := addReason c.review reason }).findCase n =
      some { c with review := addReason c.review reason } := by
    rw [findCase_modCase (by intro _; rfl), hc]; rfl
  unfold raiseReview
  rw [hc]
  dsimp only
  rw [if_neg (ne_true_of_eq_false h), reportOn_of_find _ hfind]
  rfl

end

/-- The same for a record that replaced another. -/
theorem raiseReview_withRecord {s : State} {k : Case} {reason : Reason}
    (hc : (withRecord k.number k s).findCase k.number = some k) (h : inReview k.review reason = false) :
    let d := { k with review := addReason k.review reason }
    raiseReview reason k.number (withRecord k.number k s) =
      { withRecord k.number d s with
        channels := withReport s.links[k.owner].channel ⟨some k.owner, s.links[k.owner].station, reasonAdded reason d⟩
          s.channels } := by
  have hmod := modCase_withRecord (s := s) (n := k.number) (k := k)
    (fun c => { c with review := addReason c.review reason }) rfl
  dsimp only
  rw [raiseReview_joins hc h, hmod, caseReport_eq]
  rfl

/-! ### The ruling (R58, R59) -/

/-- CONFLICT leaves the review of a case with a ruling (R59). -/
def Lapses (c : Case) : Prop := c.state ≠ .settled ∧ c.review.conflict = true ∧ c.conflicts = [] ∧ c.conflictOverflow = 0

section
variable {s : State} {n : Nat} {c : Case} (hc : s.findCase n = some c)
include hc

theorem afterRuling_of_kept (h : ¬ Lapses c) : afterRuling n s = s := by
  unfold afterRuling
  rw [hc]
  exact if_neg h

/-- A case whose review becomes empty by a ruling is tested at once (R59, R28). -/
theorem afterRuling_of_lapse (h : Lapses c) :
    afterRuling n s =
      if reviewEmpty (clearConflict c).review = true then testCase n (s.modCase n clearConflict)
      else s.modCase n clearConflict := by
  unfold afterRuling
  rw [hc]
  exact if_pos h

end

theorem handleCaseResolve_of_entry {l : LinkId} {b : List Byte} {s t : State} {c d : Case} {e : CardEvent} {replace : Bool}
    (hc : s.findCase (fieldAt 0 4 b) = some c) (hchoice : choiceOf (fieldAt 7 1 b) = some replace)
    (he : oldestConflict c (fieldAt 4 3 b) = some e) (hst : replace = true → c.state ≠ .settled)
    (ht : rule replace e c.number s = t) (hd : t.findCase c.number = some d) :
    handleCaseResolve l b s = answer (resolvedFields (fieldAt 4 3 b) d) t := by
  have hmay : ¬ (replace = true ∧ c.state = .settled) := fun h => hst h.1 h.2
  rw [handleCaseResolve, withCase_of_some _ hc]
  simp only [hchoice, he, if_neg hmay, ht, hd, Option.getD_some]

theorem stampFloor_of_unset {s t : State} (h : t.clock.second = none) : stampFloor s t = t := by
  unfold stampFloor; rw [h]

theorem chain_length_ruled (replace : Bool) (e : CardEvent) (c : Case) :
    (ruleConflict replace e c).chain.length = c.chain.length := by
  cases replace with
  | true => exact List.length_map _
  | false => rfl

theorem gapCount_ruled (replace : Bool) (e : CardEvent) (c : Case) : gapCount (ruleConflict replace e c) = gapCount c := by
  unfold gapCount
  rw [chain_length_ruled]
  rfl

/-- Settles O27: the ruling, and after a lapse each outcome of the test. -/
theorem caseResolveRulesAConflict : Obligations.CaseResolveRulesAConflict := by
  intro r l rest s c e replace hr hc hchoice he hreplace
  dsimp only
  have hn := findCase_number hc
  rw [← hn] at hc
  have hruled : (s.modCase c.number (ruleConflict replace e)).findCase c.number = some (ruleConflict replace e c) := by
    rw [findCase_modCase (by intro _; rfl), hc]; rfl
  have completes {t : State} {d : Case} (ht : afterRuling c.number (s.modCase c.number (ruleConflict replace e)) = t)
      (hd : t.findCase c.number = some d) (hterm : t.terminal = s.terminal) :
      Completes .caseResolve r rest s (stampFloor s t) ⟨.done, resolvedFields (fieldAt 4 3 r.body) d⟩ :=
    completes_of rfl hr (handleCaseResolve_of_entry (hn ▸ hc) hchoice he hreplace ht hd) hterm
  refine ⟨fun hkept => ?kept, fun hlapses honce => ?lapsed⟩
  case kept => exact completes (afterRuling_of_kept hruled hkept) hruled rfl
  case lapsed =>
    let cleared : Case := { ruleConflict replace e c with review := { c.review with conflict := false } }
    let u : State := withRecord c.number cleared s
    have hclear : clearConflict (ruleConflict replace e c) = cleared := if_pos ⟨hlapses.1, hlapses.2.2.1, hlapses.2.2.2⟩
    have hu : (s.modCase c.number (ruleConflict replace e)).modCase c.number clearConflict = u := by
      rw [modCase_eq_withRecord hc honce, modCase_withRecord (n := c.number) (k := ruleConflict replace e c) clearConflict rfl, hclear]
    have hafter := afterRuling_of_lapse hruled hlapses
    rw [hu, hclear] at hafter
    have hfind : u.findCase c.number = some cleared := findCase_withRecord hc rfl
    have hgaps : gapCount cleared = gapCount c := gapCount_ruled replace e c
    refine ⟨fun h => ?untested, fun hempty hdue => ?tested⟩
    case untested =>
      refine completes (t := u) ?_ hfind rfl
      rw [hafter]
      split
      · next hempty =>
        have hnot := h.resolve_left (not_not_intro ((reviewEmpty_iff _).mp hempty))
        refine testCase_of_not_due hfind ?_
        rintro (hday | hclosed)
        · exact absurd hday (Nat.not_le.mpr hnot.1)
        · rw [show closedAll s.zones c.zonesClosed = true from hclosed] at hnot; cases hnot.2
      · rfl
    case tested =>
      rw [if_pos ((reviewEmpty_iff cleared.review).mpr hempty), testCase_of_due hfind hdue] at hafter
      refine ⟨fun hclock => ?unset, fun hclock hj => ?marked, fun hclock hj hg => ?held, fun hclock hj hg => ?settled⟩
      case unset =>
        rw [automaticTrigger_of_unset hfind hclock] at hafter
        have h := completes hafter hfind rfl
        rwa [stampFloor_of_unset (show u.clock.second = none from hclock)] at h
      case marked =>
        rw [automaticTrigger_marks hfind hlapses.1 hclock hj] at hafter
        exact completes (hafter.trans (modCase_withRecord (n := c.number) (k := cleared) _ rfl)) (findCase_withRecord hc rfl) rfl
      case held =>
        let held : Case := { cleared with review := ⟨false, false, true⟩ }
        have hreview : cleared.review = ⟨false, false, false⟩ := hempty
        have hjoined : addReason cleared.review .gapImplausible = ⟨false, false, true⟩ := by rw [hreview]; rfl
        have hreport : reasonAdded .gapImplausible held = .caseReview c.number (some .gapImplausible) ⟨false, false, true⟩
            (gapCount c) c.cmax c.chain.length 0 0 c.overflows c.duplicates := by
          show ReportBody.caseReview _ _ _ (gapCount cleared) _ (ruleConflict replace e c).chain.length
            (c.conflicts.erase e).length c.conflictOverflow _ _ = _
          rw [hgaps, hlapses.2.2.1, hlapses.2.2.2, chain_length_ruled]
          rfl
        rw [automaticTrigger_holds hfind hlapses.1 hclock hj hempty (by rw [hgaps]; exact hg)] at hafter
        have hraised := raiseReview_withRecord (s := s) (reason := .gapImplausible) hfind (by rw [hreview]; rfl)
        rw [hjoined] at hraised
        rw [← hreport]
        exact completes (hafter.trans hraised)
          ((findCase_of_cases (t := withRecord c.number held s) rfl _).trans (findCase_withRecord hc rfl)) rfl
      case settled =>
        have hkind : automaticKind u cleared =
            if closedAll s.zones c.zonesClosed = true ∧ gapCount c = 0 then .exact else .presumed := by
          rw [← hgaps]; rfl
        rw [automaticTrigger_settles hfind hlapses.1 hclock hj hempty (by rw [hgaps]; exact hg), hkind] at hafter
        exact completes hafter (findCase_settle hfind) (terminal_of_base (settleWith_base u _ _))

end Sys2Proof.Machine
end

section
/-! PROOF. The completions of the signing unit: what a release at the end of an event leaves, the package (R111, R112, R170) and the
statement (R23, R171). -/

namespace Sys2Proof.Machine

/-! ### A release at the end of an event (R167) -/

/-- A grant leaves the statement queue. -/
theorem grant_queue (m : Member) (s : State) : (grant m s).signing.queue = s.signing.queue := by
  cases m with
  | port p =>
    simp only [grant, beginGrant]
    split
    · split
      · rw [sendMark_signing]; rfl
      · rw [sendWrite_signing]; rfl
    · rfl
  | hotlist => rfl
  | statement => rfl

theorem releaseGrant_queue (s : State) : (releaseGrant s).signing.queue = s.signing.queue := by
  rcases releaseGrant_spec s with ⟨_, e⟩ | ⟨m, _, e⟩
  · rw [e]
  · rw [e, grant_queue]

section
variable {s b : State} (hb : b = { s with hotlist := b.hotlist, cases := b.cases, channels := b.channels, signing := b.signing })
include hb

/-- The end of such an event, its clock stamped or not. -/
theorem stampFloor_releaseGrant_clock :
    (stampFloor s (releaseGrant b)).clock = s.clock ∨ (stampFloor s (releaseGrant b)).clock = stamped s.clock :=
  stampFloor_clock (by rw [releaseGrant_clock, hb])

theorem stampFloor_releaseGrant_frame :
    stampFloor s (releaseGrant b) = { s with
      hotlist := b.hotlist, cases := b.cases, channels := b.channels, ports := (stampFloor s (releaseGrant b)).ports
      signing := (stampFloor s (releaseGrant b)).signing, clock := (stampFloor s (releaseGrant b)).clock } := by
  have h := stampFloor_frame (s := s) (u := releaseGrant b) (by rw [releaseGrant_base, hb]; rfl) (by rw [releaseGrant_zones, hb])
  simpa only [stampFloor_cases_eq, stampFloor_channels, stampFloor_hotlist, releaseGrant_cases, releaseGrant_channels,
    releaseGrant_hotlist] using h

end

/-! ### The package (R111, R112) -/

/-- A cut that starts while somebody holds the unit lets the hotlist member wait (R106). -/
theorem cutAsked_of_held (h t : Hotlist) {u : Signing} (hg : u.grantee ≠ none) :
    cutAsked h t u = { u with
      waiting :=
        if h.packaging = .idle ∧ t.packaging = .packaging then setWaiting .hotlist true u.waiting else u.waiting } := by
  unfold cutAsked asked
  rw [if_neg hg]
  by_cases hcut : h.packaging = .idle ∧ t.packaging = .packaging
  · rw [if_pos hcut, if_pos hcut]
  · rw [if_neg hcut, if_neg hcut]

/-- The state at the release that a package's completion ends with. -/
def packageTaken (code : Code) (s : State) : State :=
  autoCut ((completeCut s).systemReport (packageReport code s (completeCut s)))

theorem packageTaken_eq (code : Code) (s : State) :
    packageTaken code s = { s with
      hotlist := (packageTaken code s).hotlist, cases := (packageTaken code s).cases
      channels := (packageTaken code s).channels, signing := (packageTaken code s).signing } := by
  rw [packageTaken, autoCut_eq]; rfl

theorem packageTaken_hotlist (code : Code) (s : State) :
    (packageTaken code s).hotlist = cutIfDue s.settings.autoCut (completeCut s).hotlist := by
  rw [packageTaken, autoCut_eq]; rfl

theorem packageTaken_channels (code : Code) (s : State) :
    (packageTaken code s).channels = withReport 0 ⟨none, 0, packageReport code s (completeCut s)⟩ s.channels := by
  rw [packageTaken, autoCut_eq]
  exact systemReport_withReport (completeCut s) _

/-- The cut that may start asks again before the release (R107, R167). -/
theorem packageTaken_signing (code : Code) {s : State} (hg : s.signing.grantee = some .hotlist) :
    (packageTaken code s).signing = { s.signing with
      waiting :=
        if (packageTaken code s).hotlist.packaging = .packaging then setWaiting .hotlist true s.signing.waiting
        else s.signing.waiting } := by
  have hne : s.signing.grantee ≠ none := by rw [hg]; exact Option.some_ne_none _
  have hsigning : (packageTaken code s).signing = cutAsked (completeCut s).hotlist (packageTaken code s).hotlist s.signing := by
    rw [packageTaken_hotlist, packageTaken, autoCut_eq]; rfl
  rw [hsigning, cutAsked_of_held _ _ hne]
  by_cases h : (packageTaken code s).hotlist.packaging = .packaging
  · rw [if_pos ⟨rfl, h⟩, if_pos h]
  · rw [if_neg fun hx => h hx.2, if_neg h]

/-- The ADDs of a package whose case was no longer live. -/
theorem endedAdds_eq (pkg : List Change) (master : List MasterEntry) :
    endedAdds pkg master = (pkg.filter fun c => c.kind = .add ∧ ¬ ∃ e ∈ master, e.cardNo = c.cardNo ∧ e.caseNo = c.caseNo).length := by
  unfold endedAdds
  congr 1
  refine List.filter_congr fun c _ => ?_
  simp

/-- The cases that a package publishes. -/
theorem completeCut_cases_any (s : State) :
    (completeCut s).cases = s.cases.map fun c =>
      if s.hotlist.master.any (fun e => entryPublished (packageChanges s.hotlist) e && decide (e.caseNo = c.number)) then
        { c with generation := some (s.hotlist.generation + 1) }
      else c := by
  refine List.map_congr_left fun c _ => ?_
  refine if_congr ?_ rfl rfl
  simp only [List.mem_map, List.mem_filter, List.any_eq_true, Bool.and_eq_true, decide_eq_true_eq, and_assoc]

/-- Settles O57: the package, and the release that follows it. -/
theorem packageCompletes : Obligations.PackageCompletes := by
  intro s inputs hg hcomp
  dsimp only
  let code := Config.packageCode inputs
  have hexec : exec .hotlistGrantCompletion s = .next (stampFloor s (releaseGrant (packageTaken code s))) := by
    have hwork : packageCompletion s = releaseGrant (packageTaken code s) := by
      simp only [packageCompletion, hg, hcomp]; rfl
    rw [← hwork]; rfl
  have hb := packageTaken_eq code s
  have hhot : (stampFloor s (releaseGrant (packageTaken code s))).hotlist = (packageTaken code s).hotlist := by
    rw [stampFloor_hotlist, releaseGrant_hotlist]
  have hcases : (stampFloor s (releaseGrant (packageTaken code s))).cases = (packageTaken code s).cases := by
    rw [stampFloor_cases_eq, releaseGrant_cases]
  have hchan : (stampFloor s (releaseGrant (packageTaken code s))).channels = (packageTaken code s).channels := by
    rw [stampFloor_channels, releaseGrant_channels]
  refine ⟨_, hexec, ?hotlist, ?cases, ?channels, ?queue, stampFloor_releaseGrant_clock hb, ⟨releaseGrant (packageTaken code s), ?_, ?_⟩, ?frame⟩
  case hotlist => rw [hhot, packageTaken_hotlist]; rfl
  case cases => 
    rw [hcases, packageTaken, autoCut_cases]
    exact completeCut_cases_any s
  case channels =>
    rw [hchan, packageTaken_channels, packageReport, endedAdds_eq]
    rfl
  case queue =>
    rw [stampFloor_signing, releaseGrant_queue, packageTaken_signing code hg]
  case frame => rw [hhot, hcases, hchan]; exact stampFloor_releaseGrant_frame hb
  · rw [hhot, hcases, hchan, ← packageTaken_signing code hg, ← hb]
    exact releaseGrant_released _
  · exact ⟨stampFloor_signing _ _, stampFloor_ports _ _⟩

/-! ### The statement (R23, R171) -/

/-- A case with the code of its statement stored, and the statement no longer pending (R23). -/
def codeStored (code : Code) (c : Case) : Case :=
  { c with settlement := c.settlement.map fun f => { f with code := some code, statementPending := false } }

/-- The state in which the head of the statement queue has its code and its report, before its retention is tested (R23). -/
def statementReported (code : Code) (n : Nat) (tail : List Nat) (c : Case) (g : Settlement) (s : State) : State :=
  { s with
    cases := s.cases.map fun d => if d.number = n then codeStored code d else d
    channels := withReport s.links[c.owner].channel
      ⟨some c.owner, s.links[c.owner].station, settlementReport (codeStored code c) g⟩ s.channels
    signing := { s.signing with queue := tail } }

section
variable {s : State} {n : Nat} {tail : List Nat} {c : Case} {f : Settlement} (code : Code) (hc : s.findCase n = some c)
  (hf : c.settlement = some f)
include hc

theorem findCase_statementReported (g : Settlement) :
    (statementReported code n tail c g s).findCase n = some (codeStored code c) := by
  have h := findCase_modCase (s := s) (n := n) (f := codeStored code) fun _ => rfl
  rw [hc] at h
  exact (findCase_of_cases rfl n).trans h

include hf

theorem completeStatement_eq (hq : s.signing.queue = n :: tail) :
    completeStatement code s =
      retentionTest n (statementReported code n tail c { f with code := some code, statementPending := false } s) := by
  let g : Settlement := { f with code := some code, statementPending := false }
  have hg : (codeStored code c).settlement = some g := by rw [codeStored, hf]; rfl
  let stored : State := (s.modSigning fun u => { u with queue := tail }).modCase n (codeStored code)
  have hfind : stored.findCase n = some (codeStored code c) :=
    (findCase_of_cases (s := stored) (t := statementReported code n tail c g s) rfl n).trans (findCase_statementReported code hc g)
  have hreport : reportOn n (fun c => settlementReport c g) stored = statementReported code n tail c g s := by
    rw [reportOn_of_find _ hfind, caseReport_eq]; rfl
  unfold completeStatement
  rw [hq]
  dsimp only
  have hstored : ((s.modSigning fun u => { u with queue := tail }).modCase n fun c =>
      { c with settlement := c.settlement.map fun f => { f with code := some code, statementPending := false } }) = stored := rfl
  rw [hstored, hfind]
  dsimp only
  rw [hg]
  exact congrArg (retentionTest n) hreport

end

/-- What the end of a case asks of a signing unit that somebody holds (R104, R107). -/
theorem endCase_signing {s : State} {n : Nat} {c : Case} (cancelled : Bool) (hc : s.findCase n = some c)
    (hg : s.signing.grantee ≠ none) :
    (endCase cancelled n s).signing = { s.signing with
      waiting :=
        if s.hotlist.packaging = .idle ∧ (endCase cancelled n s).hotlist.packaging = .packaging then
          setWaiting .hotlist true s.signing.waiting
        else s.signing.waiting } := by
  rw [endCase_of_find cancelled hc]
  split
  · have hpack : (endedState cancelled c s).hotlist.packaging = s.hotlist.packaging := rfl
    rw [if_neg (by rw [hpack]; rintro ⟨h1, h2⟩; rw [h1] at h2; cases h2)]
    rfl
  · rw [autoCut_eq]
    exact cutAsked_of_held _ _ hg

section
variable {s : State} {n : Nat} {c : Case} (hc : s.findCase n = some c)

theorem retentionTest_or (n : Nat) (s : State) : retentionTest n s = s ∨ retentionTest n s = endCase false n s := by
  unfold retentionTest
  split
  · exact .inl rfl
  · split
    · exact .inr rfl
    · exact .inl rfl

include hc

theorem retentionTest_frame : retentionTest n s = { s with
    cases := (retentionTest n s).cases, channels := (retentionTest n s).channels
    hotlist := (retentionTest n s).hotlist, signing := (retentionTest n s).signing } := by
  rcases retentionTest_or n s with h | h <;> rw [h]
  exact endCase_frame false hc

theorem retentionTest_signing (hg : s.signing.grantee ≠ none) :
    (retentionTest n s).signing = { s.signing with
      waiting :=
        if s.hotlist.packaging = .idle ∧ (retentionTest n s).hotlist.packaging = .packaging then
          setWaiting .hotlist true s.signing.waiting
        else s.signing.waiting } := by
  rcases retentionTest_or n s with h | h <;> rw [h]
  · rw [if_neg (by rintro ⟨h1, h2⟩; rw [h1] at h2; cases h2)]
  · exact endCase_signing false hc hg

end

/-- The statement member asks again at its release while its queue is not empty (R171). -/
def askedAgain (s : State) : State :=
  { s with signing := { s.signing with
    waiting := if s.signing.queue = [] then s.signing.waiting else setWaiting .statement true s.signing.waiting } }

theorem releaseStatement_eq (s : State) : releaseStatement s = releaseGrant (askedAgain s) := by
  unfold releaseStatement askedAgain
  split <;> rfl

/-- The waiting set at the release that a statement's completion ends with (R171, R104). -/
def statementWaiting (tail : List Nat) (before after : Hotlist) (w : Waiting) : Waiting :=
  let w := if tail = [] then w else setWaiting .statement true w
  if before.packaging = .idle ∧ after.packaging = .packaging then setWaiting .hotlist true w else w

/-- What a statement's completion leaves before the release (R23, R171). -/
theorem askedAgain_retained {s x : State} {n : Nat} {tail : List Nat} {c : Case} {code : Code} {g : Settlement}
    (hc : s.findCase n = some c) (hg : s.signing.grantee ≠ none) (hx : x = retentionTest n (statementReported code n tail c g s)) :
    askedAgain x = { s with
      hotlist := x.hotlist, cases := x.cases, channels := x.channels
      signing := { s.signing with
        queue := tail, waiting := statementWaiting tail s.hotlist x.hotlist s.signing.waiting } } := by
  have hfind := findCase_statementReported (tail := tail) code hc g
  have hframe := retentionTest_frame hfind
  have hsigning : x.signing = { s.signing with
      queue := tail
      waiting :=
        if s.hotlist.packaging = .idle ∧ x.hotlist.packaging = .packaging then setWaiting .hotlist true s.signing.waiting
        else s.signing.waiting } := hx ▸ retentionTest_signing hfind hg
  rw [← hx] at hframe
  have hwaiting : (askedAgain x).signing = { s.signing with
      queue := tail, waiting := statementWaiting tail s.hotlist x.hotlist s.signing.waiting } := by
    unfold askedAgain statementWaiting
    rw [hsigning]
    dsimp only
    by_cases ht : tail = []
    · rw [if_pos ht, if_pos ht]
    · rw [if_neg ht, if_neg ht]
      split <;> rfl
  calc askedAgain x = { x with signing := (askedAgain x).signing } := rfl
    _ = _ := by rw [hwaiting]; rw [hframe]; rfl

theorem unclaimedValue_codeStored (code : Code) (c : Case) : unclaimedValue (codeStored code c) = unclaimedValue c := by
  unfold unclaimedValue codeStored
  cases c.settlement <;> rfl

theorem codeStored_settlement (code : Code) {c : Case} {f : Settlement} (hf : c.settlement = some f) :
    (codeStored code c).settlement = some { f with code := some code, statementPending := false } := by
  rw [codeStored, hf]; rfl

theorem closedReport_codeStored (code : Code) {c : Case} {f : Settlement} (hf : c.settlement = some f) (day : Option Nat) :
    closedReport (codeStored code c) false day = .caseClosed c.number false c.snapshot.cardNo c.state day
      (c.newCard.map fun k => k.serial) (some f.kind) c.adjustment (unclaimedValue c) := by
  rw [closedReport, unclaimedValue_codeStored, codeStored_settlement code hf]; rfl

theorem dayOf_of_set {s : State} (h : s.clock.second ≠ none) : dayOf s = some s.clock.announcedDay := by
  obtain ⟨t, ht⟩ := Option.ne_none_iff_exists'.mp h
  rw [dayOf_eq, ht]; rfl

/-- The hotlist unit after a case was withdrawn, by the ADD of its card (R104). -/
theorem withdrawn_of_untaken (cardNo : Nat) {n : Nat} {h : Hotlist} (hany : h.pending.any (untakenAdd n) = true) :
    withdrawn cardNo n h =
      { h with master := h.master.filter fun e => e.caseNo ≠ n, pending := h.pending.eraseP (untakenAdd n) } := by
  rw [withdrawn, if_pos hany]

theorem withdrawn_of_taken (cardNo : Nat) {n : Nat} {h : Hotlist} (hany : h.pending.any (untakenAdd n) ≠ true) :
    withdrawn cardNo n h =
      { h with
        master := h.master.filter fun e => e.caseNo ≠ n, pending := h.pending ++ [⟨.remove, cardNo, n, false⟩] } := by
  rw [withdrawn, if_neg hany]

/-- A case that took a code has the number it had. -/
theorem filter_codeStored (code : Code) (n : Nat) (l : List Case) :
    (l.map fun d => if d.number = n then codeStored code d else d).filter (fun d => d.number ≠ n) =
      l.filter fun d => d.number ≠ n := by
  induction l with
  | nil => rfl
  | cons d l ih =>
    rw [List.map_cons, List.filter_cons, List.filter_cons, ih]
    by_cases h : d.number = n
    · rw [if_pos h]
      have hn : (codeStored code d).number = n := h
      simp [h, hn]
    · rw [if_neg h]

/-- Settles O58: the statement, the retention it may have waited for, and the release that follows. -/
theorem statementCompletes : Obligations.StatementCompletes := by
  intro s inputs n tail c f hg hcomp hq hc hf
  dsimp only
  have hn := findCase_number hc
  have hne : s.signing.grantee ≠ none := by rw [hg]; exact Option.some_ne_none _
  have hdone : codeStored (Config.statementCode inputs) c =
      { c with settlement := some { f with code := some (Config.statementCode inputs), statementPending := false } } := by
    rw [codeStored, hf]; rfl
  have hwork : statementCompletion s = releaseStatement (completeStatement (Config.statementCode inputs) s) := by
    simp only [statementCompletion, hg, hcomp]
  rw [completeStatement_eq _ hc hf hq, releaseStatement_eq] at hwork
  have hexec : exec .statementGrantCompletion s = .next (stampFloor s (statementCompletion s)) := rfl
  have hfind := findCase_statementReported (tail := tail) (Config.statementCode inputs) hc
    { f with code := some (Config.statementCode inputs), statementPending := false }
  obtain ⟨x, hx⟩ : ∃ x, x = retentionTest n (statementReported (Config.statementCode inputs) n tail c
    { f with code := some (Config.statementCode inputs), statementPending := false } s) := ⟨_, rfl⟩
  have hb := askedAgain_retained hc hne hx
  rw [hwork, ← hx, hb] at hexec
  refine ⟨_, hexec, ?queue, ?kept, ?reached, stampFloor_releaseGrant_clock rfl,
    ⟨releaseGrant _, ?released, stampFloor_signing _ _, stampFloor_ports _ _⟩, ?frame⟩
  case queue => rw [stampFloor_signing, releaseGrant_queue]
  case frame =>
    have hframe := stampFloor_releaseGrant_frame (s := s) (b := _) (Eq.refl { s with
      hotlist := x.hotlist, cases := x.cases, channels := x.channels
      signing := { s.signing with
        queue := tail, waiting := statementWaiting tail s.hotlist x.hotlist s.signing.waiting } })
    rw [stampFloor_hotlist, stampFloor_cases_eq, stampFloor_channels, releaseGrant_hotlist, releaseGrant_cases, releaseGrant_channels]
    exact hframe
  case released =>
    rw [stampFloor_hotlist, stampFloor_cases_eq, stampFloor_channels, releaseGrant_hotlist, releaseGrant_cases, releaseGrant_channels]
    exact releaseGrant_released _
  case kept =>
    intro hkept honce
    rw [stampFloor_hotlist, stampFloor_cases_eq, stampFloor_channels, releaseGrant_hotlist, releaseGrant_cases, releaseGrant_channels]
    have hxt := hx.trans (retentionTest_of_kept hfind fun f' hst hf' hclock hday hj => by
      rw [hdone] at hf'
      cases hf'
      exact absurd ⟨hclock, hst, hday, hj⟩ hkept)
    rw [hxt, ← hdone]
    refine ⟨?_, rfl, rfl⟩
    have hmod := modCase_eq_withRecord (f := codeStored (Config.statementCode inputs)) hc fun d hd h => honce d hd (h.trans hn)
    exact congrArg (fun t : State => t.cases) hmod
  case reached =>
    rintro ⟨hclock, hst, hday, hj⟩
    rw [stampFloor_hotlist, stampFloor_cases_eq, stampFloor_channels, releaseGrant_hotlist, releaseGrant_cases, releaseGrant_channels]
    have hxe := hx.trans (retentionTest_of_reached hfind hclock hst (codeStored_settlement _ hf) hday hj rfl)
    have hnumber : (codeStored (Config.statementCode inputs) c).number = n := hn
    refine ⟨?_, ?_, fun hadd => ?_, fun hnone => ?_⟩
    · rw [hxe, endCase_cases_of_find false hfind, hnumber]
      exact filter_codeStored _ n s.cases
    · have hday : dayOf (statementReported (Config.statementCode inputs) n tail c
          { f with code := some (Config.statementCode inputs), statementPending := false } s) = some s.clock.announcedDay :=
        dayOf_of_set hclock
      rw [← hdone, hxe, endCase_channels_of_find false hfind, hday, closedReport_codeStored _ hf, hn]
      rfl
    · have hany := (any_untakenAdd_iff _ _).mpr hadd
      rw [hxe, endCase_unpublished false hfind (by rw [hnumber]; exact hany)]
      show withdrawn _ _ s.hotlist = _
      rw [hnumber, withdrawn_of_untaken _ hany]
    · have hany : s.hotlist.pending.any (untakenAdd n) ≠ true := by
        rw [Ne, any_untakenAdd_iff]
        rintro ⟨y, hy, hadd⟩
        exact hnone y hy hadd
      rw [hxe, endCase_removed false hfind (by rw [hnumber]; exact hany), autoCut_eq]
      show cutIfDue s.settings.autoCut (withdrawn _ _ s.hotlist) = _
      rw [hnumber, withdrawn_of_taken _ hany]
      rfl

end Sys2Proof.Machine
end

section
/-! PROOF. The bytes of a frame are received as that frame (R186, R187), and SETTINGS SET (R193). -/

namespace Sys2Proof.Machine

/-! ### A number in bytes (section 11.1) -/

theorem putNat_length (n v : Nat) : (putNat n v).length = n := by
  induction n with
  | zero => rfl
  | succ n ih => rw [putNat, List.length_cons, ih]

/-- A field of two bytes gives back the number it was made of. -/
theorem beNat_putNat_two {v : Nat} (h : v < 65536) : beNat (putNat 2 v) = v := by
  simp only [putNat, beNat, List.foldl_cons, List.foldl_nil, BitVec.toNat_ofNat]
  omega

theorem fieldAt_of_split {a b c l : List Byte} {off n : Nat} (hl : l = a ++ b ++ c) (ha : a.length = off) (hb : b.length = n) :
    fieldAt off n l = beNat b := by
  rw [fieldAt, hl, List.append_assoc, List.drop_left' ha, List.take_left' hb]

theorem byte_of_fieldAt {a c l : List Byte} {b : Byte} {off : Nat} (hl : l = a ++ [b] ++ c) (ha : a.length = off) :
    BitVec.ofNat 8 (fieldAt off 1 l) = b := by
  rw [fieldAt_of_split (n := 1) hl ha rfl]
  simp [beNat]

/-! ### A frame on the line (R186) -/

theorem frameCore_length (f : Frame) : (frameCore f).length = f.body.length + 6 := by
  simp only [frameCore, List.length_append, putNat_length, List.length_cons, List.length_nil]
  omega

/-- The receiver takes the frame that its bytes were made of. -/
theorem receive_frameBytes (f : Frame) (h : f.body.length ≤ 508) : receive (frameBytes f) = .frame f := by
  let head := putNat 2 (f.body.length + 4)
  let crc := putNat 2 (crc16 (frameCore f)).toNat
  have hsplit : frameCore f ++ crc = head ++ ([f.link, f.kind, f.tag, f.flags] ++ f.body ++ crc) := by
    simp only [frameCore, List.append_assoc, head]
  have hhead : head.length = 2 := putNat_length _ _
  have hcore : (frameCore f).length = f.body.length + 4 + 2 := frameCore_length f
  have hlength : fieldAt 0 2 (frameCore f ++ crc) = f.body.length + 4 := by
    rw [fieldAt_of_split (a := []) (off := 0) hsplit rfl hhead]
    exact beNat_putNat_two (by omega)
  have hcrc : fieldAt (f.body.length + 4 + 2) 2 (frameCore f ++ crc) = (crc16 (frameCore f)).toNat := by
    rw [fieldAt_of_split (a := frameCore f) (b := crc) (c := []) (by simp) hcore (putNat_length _ _)]
    exact beNat_putNat_two (crc16 (frameCore f)).isLt
  have hlink : BitVec.ofNat 8 (fieldAt 2 1 (frameCore f ++ crc)) = f.link :=
    byte_of_fieldAt (a := head) (c := [f.kind, f.tag, f.flags] ++ f.body ++ crc) (by rw [hsplit]; simp) hhead
  have hkind : BitVec.ofNat 8 (fieldAt 3 1 (frameCore f ++ crc)) = f.kind :=
    byte_of_fieldAt (a := head ++ [f.link]) (c := [f.tag, f.flags] ++ f.body ++ crc) (by rw [hsplit]; simp) (by simp [hhead])
  have htag : BitVec.ofNat 8 (fieldAt 4 1 (frameCore f ++ crc)) = f.tag :=
    byte_of_fieldAt (a := head ++ [f.link, f.kind]) (c := [f.flags] ++ f.body ++ crc) (by rw [hsplit]; simp) (by simp [hhead])
  have hflags : BitVec.ofNat 8 (fieldAt 5 1 (frameCore f ++ crc)) = f.flags :=
    byte_of_fieldAt (a := head ++ [f.link, f.kind, f.tag]) (c := f.body ++ crc) (by rw [hsplit]; simp) (by simp [hhead])
  have hbody : ((frameCore f ++ crc).drop 6).take (f.body.length + 4 - 4) = f.body := by
    have h6 : frameCore f ++ crc = (head ++ [f.link, f.kind, f.tag, f.flags]) ++ (f.body ++ crc) := by rw [hsplit]; simp
    rw [h6, List.drop_left' (by simp [hhead]), Nat.add_sub_cancel, List.take_left' rfl]
  have htake : (frameCore f ++ crc).take (f.body.length + 4 + 2) = frameCore f := List.take_left' hcore
  have hlen : (frameCore f ++ crc).length = f.body.length + 8 := by
    rw [List.length_append, frameCore_length, putNat_length]
  show (if (0xA5#8 : Byte) = 0xA5#8 then receiveBody (frameCore f ++ crc) else receive _) = _
  rw [if_pos rfl, receiveBody, if_neg (by omega), hlength]
  dsimp only
  rw [if_neg (by omega), if_neg (by omega), htake, hcrc, if_pos rfl, hlink, hkind, htag, hflags, hbody]

/-- Settles O55: the reception of a frame's bytes, and the error counts. -/
theorem framesReachTheBuffer : Obligations.FramesReachTheBuffer := by
  intro s
  refine ⟨fun f h => ?_, fun _ => rfl, rfl⟩
  have hexec : exec (.frameReceived (frameBytes f)) s = .next (s.modTerminal (takeReception (receive (frameBytes f)))) := rfl
  rw [hexec, receive_frameBytes f h]
  rfl

/-! ### SETTINGS SET (R193) -/

theorem computedDay_eq (t m : Nat) : computedDay t m = (t - 60 * m) / 86400 := by
  unfold computedDay
  split
  · next h => rw [Nat.sub_eq_zero_of_le (Nat.le_of_lt h)]
  · rfl

theorem rolloverDue_iff (s : State) :
    rolloverDue s = true ↔
      ∃ now, s.clock.second = some now ∧ s.clock.announcedDay < (now - 60 * s.settings.rolloverMinute) / 86400 := by
  unfold rolloverDue
  cases s.clock.second with
  | none => simp
  | some t => simp [computedDay_eq]

/-- The announced day never falls, and rises to the computed day (R191). -/
theorem dayAfter_announcedDay {c : Clock} {now m : Nat} (h : c.second = some now) :
    (dayAfter c m).announcedDay = max c.announcedDay ((now - 60 * m) / 86400) := by
  simp only [dayAfter, h, computedDay_eq]

theorem clampSettings_eq (b : List Byte) (mode : ArbMode) :
    clampSettings b mode = ⟨min 1439 (fieldAt 0 2 b), max 1 (min 64 (fieldAt 2 1 b)), max 30 (min 400 (fieldAt 3 2 b)), mode⟩ := by
  rw [clampSettings, clampTo_zero]
  rfl

/-- Where no rollover is due, new settings let the automatic cut be tested alone (R193, R107). -/
theorem storeSettings_of_not_due {v : Settings} {s : State} (h : rolloverDue { s with settings := v } = false) :
    storeSettings v s = autoCut { s with settings := v } := by
  rw [storeSettings, rolloverTest_of_not_due h]

/-- Settles O53: the settings, the rollover test and the automatic cut. -/
theorem settingsSetStoresAndTests : Obligations.SettingsSetStoresAndTests := by
  intro r l rest s mode hr hmode
  dsimp only
  rw [← clampSettings_eq]
  have hdone : handleSettingsSet l r.body s =
      answer (.settings (clampSettings r.body mode) (settingMarks r.body (clampSettings r.body mode)))
        (storeSettings (clampSettings r.body mode) s) := by
    unfold handleSettingsSet
    rw [show arbModeOf (bodyByte 5 r.body) = some mode from hmode]
  have hcompletes := completes_of rfl hr hdone (storeSettings_terminal ..)
  have hmarks : settingMarks r.body (clampSettings r.body mode) =
      [decide (fieldAt 0 2 r.body ≠ min 1439 (fieldAt 0 2 r.body)),
        decide (fieldAt 2 1 r.body ≠ max 1 (min 64 (fieldAt 2 1 r.body))),
        decide (fieldAt 3 2 r.body ≠ max 30 (min 400 (fieldAt 3 2 r.body)))] := by
    rw [clampSettings_eq]; rfl
  rw [hmarks] at hcompletes
  refine ⟨_, hcompletes, ?settings, fun now hnow => ?day, fun hdue => ?notDue, ?frame⟩
  case settings => rw [stampFloor_settings, storeSettings_settings]
  case day =>
    rw [stampFloor_announcedDay, storeSettings_clock, dayAfter_announcedDay hnow, clampSettings_eq]
  case notDue =>
    have hnot : rolloverDue { s with settings := clampSettings r.body mode } = false := by
      rw [← Bool.not_eq_true, rolloverDue_iff, clampSettings_eq]
      exact hdue
    have hcases : (autoCut { s with settings := clampSettings r.body mode }).cases = s.cases := autoCut_cases _
    rw [storeSettings_of_not_due hnot, stampFloor_of_cases _ _ hcases, autoCut_eq, clampSettings_eq]
    exact ⟨rfl, rfl⟩
  case frame =>
    refine state_eq ?_ rfl rfl rfl rfl ?_ rfl
    · simp only [State.base, stampFloor_terminal, stampFloor_links, stampFloor_nextCase, stampFloor_concession,
        stampFloor_settings, stampFloor_pending, storeSettings_terminal, storeSettings_links, storeSettings_nextCase,
        storeSettings_concession, storeSettings_settings, storeSettings_pending]
    · rw [stampFloor_ports, storeSettings_ports]

end Sys2Proof.Machine
end

section
/-! PROOF. BATCH RECORDS: one record taken at a zone with an open batch, some records in order, and what ends the batch (R129,
R130). -/

namespace Sys2Proof.Machine

/-! ### Counts that only rise (R129, R135) -/

theorem getCount_raiseCount (c d : ErrorCount) (n : ErrorCounts) :
    getCount c (raiseCount d n) = if c = d then min 255 (getCount c n + 1) else getCount c n := by
  cases c <;> cases d <;> rfl

/-- The counts after one record more. -/
def countRecord (n : ErrorCounts) (x : List Byte) : ErrorCounts :=
  match (recordMark x).2 with
  | none => n
  | some c => raiseCount c n

theorem countsAfter_eq_foldl (records : List (List Byte)) (n : ErrorCounts) : countsAfter records n = records.foldl countRecord n := by
  unfold countsAfter
  induction records generalizing n with
  | nil => rfl
  | cons x l ih =>
    rw [List.foldl_cons, ← ih, countRecord]
    cases h : (recordMark x).2 <;> simp [h]

theorem countsAfter_cons (x : List Byte) (l : List (List Byte)) (n : ErrorCounts) :
    countsAfter (x :: l) n = countsAfter l (countRecord n x) := by
  rw [countsAfter_eq_foldl, countsAfter_eq_foldl, List.foldl_cons]

/-- A count within its range does not fall. -/
theorem getCount_le_countsAfter (c : ErrorCount) (records : List (List Byte)) {n : ErrorCounts} (h : getCount c n ≤ 255) :
    getCount c n ≤ getCount c (countsAfter records n) := by
  induction records generalizing n with
  | nil => exact Nat.le_refl _
  | cons x l ih =>
    have hstep : getCount c n ≤ getCount c (countRecord n x) ∧ getCount c (countRecord n x) ≤ 255 := by
      unfold countRecord
      split
      · exact ⟨Nat.le_refl _, h⟩
      · rw [getCount_raiseCount]; split <;> omega
    rw [countsAfter_cons]
    exact Nat.le_trans hstep.1 (ih hstep.2)

/-- Below the threshold at the end, a void record was below it when it was taken. -/
theorem raised_lt_of_below {c : ErrorCount} {x : List Byte} {l : List (List Byte)} {n : ErrorCounts} {threshold : Nat}
    (hx : (recordMark x).2 = some c) (h : getCount c (countsAfter (x :: l) n) < threshold) :
    getCount c (raiseCount c n) < threshold := by
  have hle : getCount c (raiseCount c n) ≤ 255 := by rw [getCount_raiseCount, if_pos rfl]; omega
  have hmono := getCount_le_countsAfter c l hle
  rw [countsAfter_cons, countRecord, hx] at h
  exact Nat.lt_of_le_of_lt hmono h

/-! ### One record (R129, R130) -/

/-- A zone's record after one record joined its open batch. -/
def joinRecord (r : Zone) (x : List Byte) : Zone :=
  { storeInZone x (recordMark x).1 r with counts := countRecord r.counts x }

theorem faultCounted_setZone (c : ErrorCount) (z : ZoneId) (r q : Zone) (s : State) :
    faultCounted c z r (s.setZone z q) = faultCounted c z r s := by
  simp only [faultCounted, State.setZone, zones_set_set]

/-- A count at the threshold sends the zone to HUNT without its batch (R135). -/
theorem faultCounted_of_reached {c : ErrorCount} {z : ZoneId} {r : Zone} {s : State}
    (h : r.threshold ≤ getCount c (raiseCount c r.counts)) :
    faultCounted c z r s = { s with
      zones := s.zones.set z { r with counts := raiseCount c r.counts, state := .hunt, batch := none }
      channels := withReport 0
        ⟨none, 0, .zoneEvent z (some c) .hunt (raiseCount c r.counts) r.threshold r.expected r.reached r.lastCommit r.dormant
          (s.clock.second.map fun _ => s.clock.announcedDay)⟩ s.channels } := if_pos h

/-- It does not matter then which batch was open. -/
theorem faultCounted_of_batch (c : ErrorCount) (z : ZoneId) {r : Zone} (s : State)
    (h : r.threshold ≤ getCount c (raiseCount c r.counts)) (state : ZoneState) (batch : Option OpenBatch) :
    faultCounted c z { r with state := state, batch := batch } s = faultCounted c z r s := by
  have h' : ({ r with state := state, batch := batch } : Zone).threshold ≤ getCount c (raiseCount c r.counts) := h
  rw [faultCounted_of_reached h, faultCounted_of_reached h']

section
variable {s : State} {z : ZoneId} {r : Zone} {o : OpenBatch} {x : List Byte}

/-- The record that would be the buffer's 257th (R130). -/
theorem takeRecord_overflows (hb : r.batch = some o) (hfull : 256 ≤ o.buffer.length) :
    takeRecord z x (s.setZone z r) = (faultCounted .malformed z (discardToHunt r) s, false) := by
  unfold takeRecord
  rw [setZone_zones, zones_set_get, hb]
  dsimp only
  rw [if_pos (show bufferMax ≤ _ from hfull), overflowBatch, raiseError_modZone, setZone_zones, zones_set_get, faultCounted_setZone]

theorem modZone_setZone (f : Zone → Zone) : (s.setZone z r).modZone z f = s.setZone z (f r) := by
  simp only [State.modZone, State.setZone, zones_set_get, zones_set_set]

variable (hb : r.batch = some o) (hroom : o.buffer.length < 256)
include hb hroom

theorem takeRecord_stores :
    takeRecord z x (s.setZone z r) =
      match (recordMark x).2 with
      | none => (s.setZone z (storeInZone x (recordMark x).1 r), true)
      | some c =>
        (faultCounted c z (storeInZone x (recordMark x).1 r) s,
          (faultCounted c z (storeInZone x (recordMark x).1 r) s).zones[z].batch.isSome) := by
  unfold takeRecord
  rw [setZone_zones, zones_set_get, hb]
  dsimp only
  rw [if_neg (show ¬ bufferMax ≤ _ from Nat.not_le.mpr hroom), modZone_setZone]
  cases (recordMark x).2 with
  | none => rfl
  | some c =>
    dsimp only
    rw [raiseError_eq, setZone_zones, zones_set_get, faultCounted_setZone]

/-- A record that keeps its zone below the threshold (R129). -/
theorem takeRecord_joins (h : ∀ c, (recordMark x).2 = some c → getCount c (raiseCount c r.counts) < r.threshold) :
    takeRecord z x (s.setZone z r) = (s.setZone z (joinRecord r x), true) := by
  rw [takeRecord_stores hb hroom]
  unfold joinRecord countRecord
  cases hx : (recordMark x).2 with
  | none => rfl
  | some c =>
    have hkept : faultCounted c z (storeInZone x (recordMark x).1 r) s =
        s.setZone z { storeInZone x (recordMark x).1 r with counts := raiseCount c r.counts } :=
      if_neg (Nat.not_le.mpr (h c hx))
    dsimp only
    rw [hkept, setZone_zones, zones_set_get]
    simp only [storeInZone, hb, Option.map_some, Option.isSome_some]

/-- A void record that brings its count to the threshold (R129, R135). -/
theorem takeRecord_faults {c : ErrorCount} (hx : (recordMark x).2 = some c)
    (h : r.threshold ≤ getCount c (raiseCount c r.counts)) :
    takeRecord z x (s.setZone z r) = (faultCounted c z r s, false) := by
  have hfault : faultCounted c z (storeInZone x (recordMark x).1 r) s = faultCounted c z r s :=
    faultCounted_of_batch c z s h _ _
  have hgone : (faultCounted c z r s).zones[z].batch = none := by
    rw [faultCounted_of_reached h, zones_set_get]
  rw [takeRecord_stores hb hroom, hx]
  dsimp only
  rw [hfault, hgone]
  rfl

end

/-! ### The records of a request (R129) -/

/-- What `joinRecord` makes of an open batch. -/
theorem joinRecord_batch {r : Zone} {o : OpenBatch} (x : List Byte) (hb : r.batch = some o) :
    (joinRecord r x).batch = some (storeRecord x (recordMark x).1 o) := by
  simp only [joinRecord, storeInZone, hb, Option.map_some]

theorem storeRecord_length (x : List Byte) (rec : BatchRecord) (o : OpenBatch) :
    (storeRecord x rec o).buffer.length = o.buffer.length + 1 := by
  simp [storeRecord]

/-- Records that fit and stay below the threshold join the buffer one after another. -/
theorem takeRecords_append {s : State} {z : ZoneId} (before rest : List (List Byte)) {r : Zone} {o : OpenBatch}
    (hb : r.batch = some o) (hfit : o.buffer.length + before.length ≤ 256)
    (hbelow : ∀ c, some c ∈ (before.map recordMark).map (fun m => m.2) → getCount c (countsAfter before r.counts) < r.threshold) :
    takeRecords z (before ++ rest) (s.setZone z r) = takeRecords z rest (s.setZone z (before.foldl joinRecord r)) := by
  induction before generalizing r o with
  | nil => rfl
  | cons x l ih =>
    rw [List.length_cons] at hfit
    have hjoins : takeRecord z x (s.setZone z r) = (s.setZone z (joinRecord r x), true) :=
      takeRecord_joins hb (by omega) fun c hx => raised_lt_of_below hx (hbelow c (by simp [← hx]))
    have hnext := ih (joinRecord_batch x hb) (by rw [storeRecord_length]; omega) fun c hc => by
      have h := hbelow c (List.mem_cons_of_mem _ hc)
      rwa [countsAfter_cons] at h
    rw [List.cons_append, takeRecords, hjoins]
    exact hnext

/-- Records that joined change the counts and the batch alone. -/
theorem foldl_joinRecord_eq (records : List (List Byte)) (r : Zone) :
    records.foldl joinRecord r =
      { r with counts := countsAfter records r.counts, batch := (records.foldl joinRecord r).batch } := by
  induction records generalizing r with
  | nil => rfl
  | cons x l ih =>
    rw [List.foldl_cons, countsAfter_cons]
    exact ih (joinRecord r x)

theorem byteSum_eq (l : List Byte) : byteSum l = (l.map fun b => b.toNat).sum % 65536 := by
  have h (a : Nat) : l.foldl (fun a b => a + b.toNat) a = a + (l.map fun b => b.toNat).sum := by
    induction l generalizing a with
    | nil => rfl
    | cons b l ih => rw [List.foldl_cons, ih, List.map_cons, List.sum_cons, Nat.add_assoc]
  rw [byteSum, h, Nat.zero_add]

/-- An open batch after some records, the first of which brings the body sum into its range. -/
theorem foldl_joinRecord_batch {records : List (List Byte)} {r : Zone} {o : OpenBatch} (hb : r.batch = some o)
    (hne : records ≠ []) :
    (records.foldl joinRecord r).batch = some { o with
      buffer := o.buffer ++ (records.map recordMark).map fun m => m.1
      bodySum := (o.bodySum + (records.flatten.map fun b => b.toNat).sum) % 65536 } := by
  induction records generalizing r o with
  | nil => exact absurd rfl hne
  | cons x l ih =>
    have hx := joinRecord_batch x hb
    have hsum : (storeRecord x (recordMark x).1 o).bodySum = (o.bodySum + (x.map fun b => b.toNat).sum) % 65536 := by
      simp only [storeRecord, byteSum_eq, Nat.add_mod_mod]
    rw [List.foldl_cons]
    by_cases hl : l = []
    · subst hl
      rw [List.foldl_nil, hx]
      simp only [storeRecord, byteSum_eq, Nat.add_mod_mod, List.map_cons, List.map_nil, List.flatten_cons, List.flatten_nil,
        List.append_nil]
    · rw [ih hx hl, hsum]
      simp only [storeRecord, List.map_cons, List.flatten_cons, List.map_append, List.sum_append, List.append_assoc,
        List.singleton_append, Nat.mod_add_mod, Nat.add_assoc]

theorem foldl_joinRecord_joined {records : List (List Byte)} {r : Zone} {o : OpenBatch} (hb : r.batch = some o)
    (hne : records ≠ []) : records.foldl joinRecord r = recordsJoined records o r := by
  rw [foldl_joinRecord_eq, foldl_joinRecord_batch hb hne]
  rfl

/-- The batch's length counts its records. -/
theorem foldl_joinRecord_length (records : List (List Byte)) {r : Zone} {o : OpenBatch} (hb : r.batch = some o) :
    ∃ b, (records.foldl joinRecord r).batch = some b ∧ b.buffer.length = o.buffer.length + records.length := by
  induction records generalizing r o with
  | nil => exact ⟨o, hb, rfl⟩
  | cons x l ih =>
    obtain ⟨b, hbatch, hlen⟩ := ih (joinRecord_batch x hb)
    refine ⟨b, hbatch, ?_⟩
    rw [hlen, storeRecord_length, List.length_cons]
    omega

theorem eventRecords_length (n : Nat) (l : List Byte) : (eventRecords n l).length = n := by
  induction n generalizing l with
  | zero => rfl
  | succ n ih => rw [eventRecords, List.length_cons, ih]

/-- A BATCH RECORDS with its batch open and its count in range. -/
theorem handleBatchRecords_of_open {l : LinkId} {b : List Byte} {s : State} {z : ZoneId} (hz : zoneOf (fieldAt 0 1 b) = some z)
    (hl : s.links[l].zone = some z) (hstate : s.zones[z].state = .openBatch) (h1 : 1 ≤ fieldAt 1 1 b) (h16 : fieldAt 1 1 b ≤ 16) :
    handleBatchRecords l b s =
      recordsReply z (eventRecords (fieldAt 1 1 b) (b.drop 2)) (takeRecords z (eventRecords (fieldAt 1 1 b) (b.drop 2)) s) := by
  have hfed : isFed s.zones[z].state = true := (isFed_iff _).mpr (by tauto)
  have hcount : ¬ (bodyByte 1 b < 1 ∨ 16 < bodyByte 1 b) := by
    rintro (h | h)
    · exact Nat.not_le.mpr h h1
    · exact Nat.not_le.mpr h h16
  rw [handleBatchRecords, withFeed_of_fed _ hz hl hfed, if_neg (not_not_intro hstate), if_neg hcount]

theorem setZone_self (s : State) (z : ZoneId) : s.setZone z s.zones[z] = s := by
  simp [State.setZone]

theorem recordsReply_of_ended (z : ZoneId) (records : List (List Byte)) (s : State) :
    recordsReply z records (s, false) = refuse .badField s := by
  unfold recordsReply
  dsimp only
  cases s.zones[z].batch <;> rfl

/-- Settles O37: the records join up to the first that ends the batch. -/
theorem batchRecordsJoinTheBuffer : Obligations.BatchRecordsJoinTheBuffer := by
  intro r l rest s z o hr hz hl hstate hb
  dsimp only
  refine ⟨fun hcount => ?badField, fun h1 h16 => ?counted⟩
  case badField =>
    have hfed : isFed s.zones[z].state = true := (isFed_iff _).mpr (by tauto)
    exact completes_of_cases rfl hr
      (by rw [handleBatchRecords, withFeed_of_fed _ hz hl hfed, if_neg (not_not_intro hstate), if_pos hcount, refuse]) rfl rfl
  case counted =>
    have hwork := handleBatchRecords_of_open hz hl hstate h1 h16
    have hlen := eventRecords_length (fieldAt 1 1 r.body) (r.body.drop 2)
    generalize hrec : eventRecords (fieldAt 1 1 r.body) (r.body.drop 2) = records at *
    have hself : takeRecords z records s = takeRecords z records (s.setZone z s.zones[z]) := by rw [setZone_self]
    rw [hself] at hwork
    refine ⟨fun hfit hbelow => ?joined, fun before x after hsplit hbelow => ?split⟩
    case joined =>
      have hne : records ≠ [] := by rintro rfl; rw [List.length_nil] at hlen; omega
      have htaken : takeRecords z records (s.setZone z s.zones[z]) = (s.setZone z (recordsJoined records o s.zones[z]), true) := by
        have h := takeRecords_append (s := s) (z := z) records [] hb (by omega) hbelow
        rwa [List.append_nil, foldl_joinRecord_joined hb hne] at h
      rw [htaken, recordsReply] at hwork
      have hvoids : voidRecords records = ((records.map recordMark).filter fun m => m.2.isSome).length := by
        rw [List.filter_map, List.length_map]; rfl
      rw [← hvoids]
      simp only [setZone_zones, zones_set_get, recordsJoined, List.length_append, List.length_map] at hwork
      exact completes_of_cases rfl hr hwork rfl rfl
    case split =>
      have hfits : o.buffer.length + before.length ≤ 256 → takeRecords z records (s.setZone z s.zones[z]) =
          takeRecords z (x :: after) (s.setZone z (before.foldl joinRecord s.zones[z])) := fun h => by
        rw [hsplit]; exact takeRecords_append before (x :: after) hb h hbelow
      obtain ⟨b, hbatch, hblen⟩ := foldl_joinRecord_length before hb
      have hjoined := foldl_joinRecord_eq before s.zones[z]
      refine ⟨fun c hx hroom hreach => ?void, fun hfull => ?overflow⟩
      case void =>
        have hr' : (before.foldl joinRecord s.zones[z]).threshold ≤
            getCount c (raiseCount c (before.foldl joinRecord s.zones[z]).counts) := by rw [hjoined]; exact hreach
        rw [hfits (Nat.le_of_lt hroom), takeRecords, takeRecord_faults hbatch (by omega) hx hr', hjoined,
          faultCounted_of_batch c z (r := { s.zones[z] with counts := countsAfter before s.zones[z].counts }) s hreach,
          recordsReply_of_ended] at hwork
        have h := completes_of_cases rfl hr hwork (faultCounted_terminal ..) (faultCounted_cases ..)
        rw [← faultCounted_of_batch c z s hreach s.zones[z].state (recordsJoined before o s.zones[z]).batch] at h
        exact h
      case overflow =>
        rw [hfits (Nat.le_of_eq hfull), takeRecords, takeRecord_overflows hbatch (by omega), hjoined,
          recordsReply_of_ended] at hwork
        exact completes_of_cases rfl hr hwork (faultCounted_terminal ..) (faultCounted_cases ..)

end Sys2Proof.Machine
end

section
/-! PROOF. The whole effect of an arrival (R46 to R52, R56), and CASE OPEN (R19, R20). -/

namespace Sys2Proof.Machine

/-! ### One arrival (R46) -/

/-- The record of a case after the arrival itself, before the review or the adjustment. -/
def chained (e : CardEvent) (c : Case) : Case := seeBlocked (classify c e) e (takeArrival (classify c e) e c)

theorem chained_keeps (e : CardEvent) (c : Case) :
    (chained e c).number = c.number ∧ (chained e c).owner = c.owner ∧ (chained e c).review = c.review ∧
      (chained e c).settlement = c.settlement := by
  unfold chained
  rw [takeArrival_rest]
  exact ⟨rfl, rfl, rfl, rfl⟩

theorem adjustmentDelta_chained (f : Settlement) (e : CardEvent) (c : Case) :
    adjustmentDelta (chained e c) f e = adjustmentDelta c f e := by
  unfold chained
  rw [takeArrival_rest]
  rfl

theorem eventTaken_owner (e : CardEvent) (c : Case) : (eventTaken e c).owner = c.owner := by
  have h : (chained e c).owner = c.owner := (chained_keeps e c).2.1
  unfold chained at h
  unfold eventTaken
  dsimp only
  split
  · split
    · exact h
    · exact h
  · split
    · exact h
    · exact h
    · exact h

/-- A report to the owner is a matter of the owner and the links. -/
theorem toOwner_congr {s t : State} {c d : Case} (hlinks : t.links = s.links) (h : d.owner = c.owner) :
    toOwner t d = toOwner s c := by
  funext b
  simp only [toOwner, hlinks, h]

section
variable {s : State} {n : Nat}

theorem addReason_of_inReview {r : Review} {reason : Reason} (h : inReview r reason = true) : addReason r reason = r := by
  obtain ⟨a, b, d⟩ := r
  cases reason with
  | conflict => simp only [inReview] at h; subst h; rfl
  | chainFull => simp only [inReview] at h; subst h; rfl
  | gapImplausible => simp only [inReview] at h; subst h; rfl

/-- A reason joins the review of a record that replaced another, with its report when it newly joins (R39). -/
theorem raiseReview_record {k : Case} (reason : Reason) (hk : k.number = n) (hc : (withRecord n k s).findCase n = some k) :
    raiseReview reason n (withRecord n k s) =
      { withRecord n { k with review := addReason k.review reason } s with
        channels := withReports
          (if inReview k.review reason = false then
            [toOwner s k (reasonAdded reason { k with review := addReason k.review reason })] else []) s.channels } := by
  subst hk
  cases h : inReview k.review reason with
  | false => exact raiseReview_withRecord hc h
  | true =>
    rw [addReason_of_inReview h, raiseReview, hc]
    exact if_pos h

/-- An event inserted into a SETTLED case adjusts it, with its report (R56, R83, R84). -/
theorem adjust_record {k d : Case} {f : Settlement} (e : CardEvent) (hk : k.number = n) (hf : k.settlement = some f)
    (hc : (withRecord n k s).findCase n = some k) (hd : d = { k with adjustment := k.adjustment + adjustmentDelta k f e }) :
    adjust n e (withRecord n k s) =
      { withRecord n d s with
        channels := withReports
          [toOwner s k (.adjustment n e (placeOf f e) (adjustmentDelta k f e) d.adjustment f.cmax)] s.channels } := by
  subst hk hd
  have hmod := modCase_withRecord (s := s) (n := k.number) (k := k)
    (fun c => { c with adjustment := c.adjustment + adjustmentDelta k f e }) rfl
  have hfind : ((withRecord k.number k s).modCase k.number fun c =>
      { c with adjustment := c.adjustment + adjustmentDelta k f e }).findCase k.number =
      some { k with adjustment := k.adjustment + adjustmentDelta k f e } := by
    rw [findCase_modCase (by intro _; rfl), hc]
    rfl
  have hadjust : adjust k.number e (withRecord k.number k s) =
      reportOn k.number (fun c => .adjustment k.number e (placeOf f e) (adjustmentDelta k f e) c.adjustment f.cmax)
        ((withRecord k.number k s).modCase k.number fun c =>
          { c with adjustment := c.adjustment + adjustmentDelta k f e }) := by
    simp only [adjust, hc, hf]
  rw [hadjust, reportOn_of_find _ hfind, hmod, caseReport_eq]
  rfl

/-- An arrival changes the record of its case and queues what the case reports of it (R46, R39, R84). -/
theorem arrival_eq {c : Case} (e : CardEvent) (hs : NumbersRise s) (hc : s.findCase n = some c) :
    arrival n e s =
      { withRecord n (eventTaken e c) s with
        channels := withReports ((arrivalReport e c).map (toOwner s c)).toList s.channels } := by
  have hn := findCase_number hc
  obtain ⟨hnum, howner, hreview, hset⟩ := chained_keeps e c
  have hfind : (withRecord n (chained e c) s).findCase n = some (chained e c) := findCase_withRecord hc (hnum.trans hn)
  have hto : toOwner s (chained e c) = toOwner s c := toOwner_congr rfl howner
  have harrival : arrival n e s =
      afterArrival (classify c e) (decide (c.state = .settled)) n e (withRecord n (chained e c) s) := by
    have hmod := modCase_eq_withRecord (f := fun d => seeBlocked (classify c e) e (takeArrival (classify c e) e d)) hc
      fun d hd h => eq_of_number hs hd (findCase_mem hc) h
    rw [arrival, hc]
    dsimp only
    rw [hmod]
    rfl
  have joins (reason : Reason) (d : Case) (hd : { chained e c with review := addReason (chained e c).review reason } = d) :
      raiseReview reason n (withRecord n (chained e c) s) =
        { withRecord n d s with
          channels := withReports
            (((if inReview c.review reason = false then some (reasonAdded reason d) else none).map (toOwner s c)).toList)
            s.channels } := by
    rw [raiseReview_record reason (hnum.trans hn) hfind, hd, hto, hreview]
    cases inReview c.review reason <;> rfl
  rw [harrival]
  by_cases hst : c.state = .settled
  · rw [decide_eq_true hst]
    cases hk : classify c e with
    | inserted =>
      cases hf : c.settlement with
      | none =>
        have htaken : eventTaken e c = chained e c := by simp only [eventTaken, chained, hk, hst, hf, if_true]
        have hreport : arrivalReport e c = none := by simp only [arrivalReport, hk, hst, hf, if_true, Option.map_none]
        rw [htaken, hreport, afterArrival, adjust, hfind]
        dsimp only
        rw [hset, hf]
        rfl
      | some f =>
        have htaken : eventTaken e c =
            { chained e c with adjustment := (chained e c).adjustment + adjustmentDelta (chained e c) f e } := by
          simp only [eventTaken, chained, hk, hst, hf, if_true]
        have hreport : arrivalReport e c = some (.adjustment c.number e (placeOf f e) (adjustmentDelta c f e)
            (eventTaken e c).adjustment f.cmax) := by
          simp only [arrivalReport, hk, hst, hf, if_true, Option.map_some]
        rw [afterArrival, adjust_record e (hnum.trans hn) (hset.trans hf) hfind htaken, hreport, hto, hn,
          adjustmentDelta_chained]
        rfl
    | stale | duplicate | conflict | overflow =>
      have htaken : eventTaken e c = chained e c := by
        simp only [eventTaken, chained, hk, hst, if_true]
        cases c.settlement <;> rfl
      have hreport : arrivalReport e c = none := by simp [arrivalReport, hk, hst]
      rw [htaken, hreport]
      rfl
  · rw [decide_eq_false hst]
    cases hk : classify c e with
    | conflict =>
      have htaken : eventTaken e c = { chained e c with review := addReason (chained e c).review .conflict } := by
        simp only [eventTaken, chained, hk, if_neg hst]; rfl
      have hreport : arrivalReport e c =
          if inReview c.review .conflict = false then some (reasonAdded .conflict (eventTaken e c)) else none := by
        simp only [arrivalReport, hk, ne_eq, hst, not_false_iff, true_and]; rfl
      rw [hreport]
      exact joins .conflict _ htaken.symm
    | overflow =>
      have htaken : eventTaken e c = { chained e c with review := addReason (chained e c).review .chainFull } := by
        simp only [eventTaken, chained, hk, if_neg hst]; rfl
      have hreport : arrivalReport e c =
          if inReview c.review .chainFull = false then some (reasonAdded .chainFull (eventTaken e c)) else none := by
        simp only [arrivalReport, hk, ne_eq, hst, not_false_iff, true_and]; rfl
      rw [hreport]
      exact joins .chainFull _ htaken.symm
    | stale | duplicate | inserted =>
      have htaken : eventTaken e c = chained e c := by simp only [eventTaken, chained, hk, if_neg hst]
      have hreport : arrivalReport e c = none := by simp [arrivalReport, hk, hst]
      rw [htaken, hreport]
      rfl

end

/-! ### Some events that one case takes (R20, R46) -/

theorem arrivalReports_congr {s t : State} (h : t.links = s.links) (events : List CardEvent) (c : Case) :
    arrivalReports t events c = arrivalReports s events c := by
  induction events generalizing c with
  | nil => rfl
  | cons e rest ih => rw [arrivalReports, arrivalReports, ih, toOwner_congr h rfl]

theorem withReports_append (l m : List (Fin 4 × Report)) (v : Vector Channel 4) :
    withReports (l ++ m) v = withReports m (withReports l v) := List.foldl_append

theorem withRecord_withRecord {s : State} {n : Nat} {d k : Case} (hd : d.number = n) :
    withRecord n k (withRecord n d s) = withRecord n k s := by
  unfold withRecord
  simp only [List.map_map]
  congr 1
  refine List.map_congr_left fun x _ => ?_
  simp only [Function.comp]
  by_cases h : x.number = n
  · simp only [if_pos h, if_pos hd]
  · simp only [if_neg h]

theorem withRecord_self {s : State} {n : Nat} {c : Case} (hs : NumbersRise s) (hc : s.findCase n = some c) :
    withRecord n c s = s := by
  have hcases : (s.cases.map fun d => if d.number = n then c else d) = s.cases :=
    (List.map_congr_left fun d hd => by
      split
      · next h => exact (eq_of_number hs hd (findCase_mem hc) (h.trans (findCase_number hc).symm)).symm
      · rfl).trans (List.map_id' _)
  unfold withRecord
  rw [hcases]

/-- Some events in order, each against the case as the ones before left it. -/
theorem arrivals_eq {s : State} {n : Nat} {c : Case} (events : List CardEvent) (hs : NumbersRise s) (hc : s.findCase n = some c) :
    events.foldl (fun u e => arrival n e u) s =
      { withRecord n (events.foldl (fun d e => eventTaken e d) c) s with
        channels := withReports (arrivalReports s events c) s.channels } := by
  induction events generalizing s c with
  | nil =>
    show s = { withRecord n c s with channels := s.channels }
    rw [withRecord_self hs hc]
  | cons e rest ih =>
    have hn : (eventTaken e c).number = n := (eventTaken_keeps e c).1.trans (findCase_number hc)
    have hcases := arrival_cases hs n e
    have hrise : NumbersRise (arrival n e s) := numbersRise_map hs (fun d => by
      split
      · exact (eventTaken_keeps e d).1
      · rfl) hcases
    have heq := arrival_eq e hs hc
    have hfind : (arrival n e s).findCase n = some (eventTaken e c) := by
      rw [heq]
      exact findCase_withRecord hc hn
    have hlinks : (arrival n e s).links = s.links := by rw [heq]; rfl
    rw [List.foldl_cons, ih hrise hfind, arrivalReports_congr hlinks, arrivalReports, withReports_append, heq]
    exact congrArg (fun u : State => { u with
      channels := withReports (arrivalReports s rest (eventTaken e c))
        (withReports ((arrivalReport e c).map (toOwner s c)).toList s.channels) }) (withRecord_withRecord (s := s) hn)

/-! ### CASE OPEN (R19, R20) -/

theorem handleCaseOpen_of_accepted {l : LinkId} {b : List Byte} {s : State} {n : Nat} {o : OpenBody}
    (hclock : s.clock.second ≠ none) (hread : readOpen s.clock.announcedDay b = some o) (hfits : snapshotFits o.snapshot = true)
    (hsum : o.snapshot.check = o.sum) (hnew : ∀ c ∈ s.cases, c.snapshot.cardNo ≠ o.snapshot.cardNo) (hroom : s.cases.length < 256)
    (hnext : s.nextCase = some n) (hlist : s.hotlist.pending.length + s.hotlist.master.length ≤ 510) :
    let cls := concessionClass s.clock.announcedDay o.snapshot.products
    let c := newCase n l s.clock.announcedDay cls (termsOf cls s) o.snapshot
    handleCaseOpen l b s = answer (.caseOpened n cls c.quietEnd) (openCase n c o.events s) := by
  have hcard : ¬ (s.cases.any fun c => c.snapshot.cardNo = o.snapshot.cardNo) = true := by simpa using hnew
  simp only [handleCaseOpen, dayOf_of_set hclock, hread, if_pos hfits, openChecked, if_neg (not_not_intro hsum), if_neg hcard,
    if_neg (Nat.not_le.mpr hroom), hnext, if_neg (Nat.not_lt.mpr hlist)]

/-- The record of the new case alone changes in the table it joined. -/
theorem openedState_withRecord {s : State} {n : Nat} {c d : Case} (hn : c.number = n) (hnew : ∀ x ∈ s.cases, x.number ≠ n) :
    (withRecord n d (openedState n c s)).cases = s.cases ++ [d] := by
  show ((s.cases ++ [c]).map fun x => if x.number = n then d else x) = s.cases ++ [d]
  rw [List.map_append, List.map_cons, List.map_nil, if_pos hn]
  congr 1
  exact (List.map_congr_left fun x hx => if_neg (hnew x hx)).trans (List.map_id' _)

/-- The case stands at the end of the table with its opening events taken, and the automatic cut was tested before them (R20). -/
theorem openCase_eq {s : State} {n : Nat} {c : Case} (events : List CardEvent) (hn : c.number = n)
    (hnew : ∀ x ∈ s.cases, x.number ≠ n) (hs : NumbersRise (openedState n c s)) :
    openCase n c events s =
      { autoCut (openedState n c s) with
        cases := s.cases ++ [events.foldl (fun d e => eventTaken e d) c]
        channels := withReports (arrivalReports s events c) s.channels } := by
  have hcut := autoCut_eq (openedState n c s)
  have hcases : (autoCut (openedState n c s)).cases = (openedState n c s).cases := by rw [hcut]
  have hfind : (autoCut (openedState n c s)).findCase n = some c := by
    rw [findCase_of_cases hcases, ← hn]
    exact findCase_of_mem (hn ▸ hs) (List.mem_append_right _ List.mem_cons_self)
  have hrise : NumbersRise (autoCut (openedState n c s)) := by unfold NumbersRise; rw [hcases]; exact hs
  have hopen : openCase n c events s = events.foldl (fun u e => arrival n e u) (autoCut (openedState n c s)) := rfl
  have hlinks : (autoCut (openedState n c s)).links = s.links := by rw [hcut]; rfl
  have hrecord := openedState_withRecord (d := events.foldl (fun d e => eventTaken e d) c) hn hnew
  rw [hopen, arrivals_eq events hrise hfind, arrivalReports_congr hlinks, ← hrecord]
  unfold withRecord
  rw [hcases]
  rw [hcut]
  rfl

/-- Settles O22: the case, the hotlist's change with the test of the cut, and the opening events. -/
theorem caseOpenBuildsTheCase : Obligations.CaseOpenBuildsTheCase := by
  intro r l rest s now n o hr htable hclock hread hfits hsum hnew hroom hnext hlist
  dsimp only
  have hset : s.clock.second ≠ none := by rw [hclock]; exact Option.some_ne_none _
  let cls := concessionClass s.clock.announcedDay o.snapshot.products
  let c := newCase n l s.clock.announcedDay cls (termsOf cls s) o.snapshot
  have hfresh : ∀ x ∈ s.cases, x.number ≠ n := fun x hx => Nat.ne_of_lt ((htable.2.2.1 x hx).2.2 n hnext)
  have hrise : NumbersRise (openedState n c s) :=
    (caseTableOk_opened (c := c) rfl rfl hnew hroom hnext hlist htable).rise
  have hdone := handleCaseOpen_of_accepted (l := l) hset hread hfits hsum hnew hroom hnext hlist
  have heq := openCase_eq (n := n) (c := c) o.events rfl hfresh hrise
  rw [autoCut_eq] at heq
  have hcompletes := completes_of (t := openCase n c o.events s) rfl hr hdone (by rw [heq]; rfl)
  have hstored : s.cases.map storedCase ≠ (openCase n c o.events s).cases.map storedCase := by
    intro h
    have hlen := congrArg List.length h
    rw [heq, List.length_map, List.length_map, List.length_append] at hlen
    exact Nat.succ_ne_self _ hlen.symm
  rw [stampFloor_of_changed hstored (by rw [heq]; rfl), stamped_of_set hclock] at hcompletes
  rw [heq] at hcompletes
  exact ⟨_, hcompletes, rfl, rfl, rfl, rfl, rfl, rfl⟩

end Sys2Proof.Machine
end

section
/-! PROOF. The whole effect of trigger (a) on some cases, in case order (R24, R26, R62), and ZONE REMOVE (R122, R63). -/

namespace Sys2Proof.Machine

/-! ### Numbers that join the statement queue one after another (R22, R171) -/

theorem statementsQueued_nil (x : Option Computation) (u : Signing) : statementsQueued [] x u = u := by
  unfold statementsQueued
  rw [if_pos (.inl rfl), List.append_nil]

theorem statementsQueued_of_asked (l : List Nat) (x : Option Computation) {u : Signing}
    (h : u.waiting.statement = true ∨ u.grantee = some .statement) :
    statementsQueued l x u = { u with queue := u.queue ++ l } := if_pos (.inr h)

theorem statementsQueued_asks {l : List Nat} (x : Option Computation) {u : Signing} (hl : l ≠ [])
    (h : ¬ (u.waiting.statement = true ∨ u.grantee = some .statement)) :
    statementsQueued l x u = asked .statement x { u with queue := u.queue ++ l } := if_neg fun h' => h'.elim hl h

/-- After the first of them the statement member waits or holds the grant. -/
theorem statementsQueued_append (l m : List Nat) (x y : Option Computation) (u : Signing) :
    statementsQueued m y (statementsQueued l x u) = statementsQueued (l ++ m) (if l = [] then y else x) u := by
  by_cases hl : l = []
  · rw [hl, statementsQueued_nil, if_pos rfl]
    rfl
  rw [if_neg hl]
  by_cases h : u.waiting.statement = true ∨ u.grantee = some .statement
  · rw [statementsQueued_of_asked l x h, statementsQueued_of_asked (l ++ m) x h, ← List.append_assoc]
    exact statementsQueued_of_asked m y h
  · rw [statementsQueued_asks x hl h, statementsQueued_asks x (fun h' => hl (List.append_eq_nil_iff.mp h').1) h, ← List.append_assoc]
    unfold asked
    by_cases hfree : u.grantee = none
    · rw [if_pos hfree, if_pos hfree]
      exact statementsQueued_of_asked m y (.inr rfl)
    · rw [if_neg hfree, if_neg hfree]
      exact statementsQueued_of_asked m y (.inl rfl)

/-! ### One trigger (R26) -/

/-- The statement that a free signing unit computes when a case settles and nothing stood in the queue (R171). -/
def statementOf (d : Case) : Option Computation := d.settlement.map fun f => .statement (statementInputs d f)

section
variable {s : State} {n : Nat} {c : Case} (hc : s.findCase n = some c) (hst : c.state ≠ .settled)
include hc hst

/-- What the trigger queues: the report of more than 64 gaps, and the number of a case that settles. -/
theorem automaticTrigger_queues :
    let d := autoTriggered (closedAll s.zones c.zonesClosed) s c
    (automaticTrigger n s).channels = withReports (triggerReport s c).toList s.channels ∧
      ∃ x, (s.signing.queue = [] → d.state = .settled → x = statementOf d) ∧
        (automaticTrigger n s).signing = statementsQueued (if d.state = .settled then [n] else []) x s.signing := by
  dsimp only
  have still {t : State} (ht : automaticTrigger n s = t) (hchannels : t.channels = s.channels) (hsigning : t.signing = s.signing)
      (hreport : triggerReport s c = none) (hstate : (autoTriggered (closedAll s.zones c.zonesClosed) s c).state ≠ .settled) :
      (automaticTrigger n s).channels = withReports (triggerReport s c).toList s.channels ∧
        ∃ x, (s.signing.queue = [] → (autoTriggered (closedAll s.zones c.zonesClosed) s c).state = .settled →
            x = statementOf (autoTriggered (closedAll s.zones c.zonesClosed) s c)) ∧
          (automaticTrigger n s).signing = statementsQueued
            (if (autoTriggered (closedAll s.zones c.zonesClosed) s c).state = .settled then [n] else []) x s.signing := by
    refine ⟨by rw [ht, hreport]; exact hchannels, none, fun _ h => absurd h hstate, ?_⟩
    rw [ht, if_neg hstate, statementsQueued_nil]
    exact hsigning
  by_cases hclock : s.clock.second = none
  · exact still (automaticTrigger_of_unset hc hclock) rfl rfl (by simp [triggerReport, hclock]) (by simp [autoTriggered, hclock, hst])
  by_cases hj : c.job = none
  case neg =>
    exact still (automaticTrigger_marks hc hst hclock hj) rfl rfl (by simp [triggerReport, hj]) (by simp [autoTriggered, hclock, hj, hst])
  by_cases hr : c.review = ⟨false, false, false⟩
  case neg =>
    exact still (automaticTrigger_of_review hc hj hr) rfl rfl (by simp [triggerReport, hr])
      (by simp [autoTriggered, hclock, hj, hr, hst])
  by_cases hg : 64 < gapCount c
  · have hnot : inReview c.review .gapImplausible = false := by rw [hr]; rfl
    have hstate : (autoTriggered (closedAll s.zones c.zonesClosed) s c).state ≠ .settled := by
      simp [autoTriggered, hclock, hj, hr, hg, hst]
    have hreport : triggerReport s c =
        some (toOwner s c (reasonAdded .gapImplausible { c with review := addReason c.review .gapImplausible })) :=
      if_pos ⟨hclock, hj, hr, hg⟩
    have heq := automaticTrigger_holds hc hst hclock hj hr hg
    rw [raiseReview_joins hc hnot, caseReport_eq] at heq
    refine ⟨by rw [heq, hreport]; rfl, none, fun _ h => absurd h hstate, ?_⟩
    rw [heq, if_neg hstate, statementsQueued_nil]
    rfl
  · have hd : autoTriggered (closedAll s.zones c.zonesClosed) s c =
        settledCase (chainSettlement (automaticKind s c) s.clock.announcedDay c) c := by
      simp [autoTriggered, hclock, hj, hr, hg, automaticKind]
    have heq := automaticTrigger_settles hc hst hclock hj hr (Nat.not_lt.mp hg)
    have hqueued : (settle (automaticKind s c) n s).signing = statementsQueued [n]
        (headStatement (queuedAfter (settle (automaticKind s c) n s).cases n s)) s.signing := by
      rw [settle, settleWith_cases, settleWith_queued]
    have hstate : (autoTriggered (closedAll s.zones c.zonesClosed) s c).state = .settled := by rw [hd]; rfl
    refine ⟨?_, _, fun hq _ => ?_, by rw [heq, if_pos hstate]; exact hqueued⟩
    · rw [heq, show triggerReport s c = none by simp [triggerReport, hg]]
      exact settleWith_channels s _ n
    · rw [headStatement_settled _ hc hq, hd]
      rfl

end

/-! ### Trigger (a) on some cases (R24, R62, R63) -/

/-- The report of trigger (a) on a case: none when a configured zone is open for it. -/
def reportA (s : State) (c : Case) : Option (Fin 4 × Report) :=
  if closedAll s.zones c.zonesClosed = true ∧ c.state ≠ .settled then triggerReport s c else none

/-- The case settles by trigger (a). -/
def settlesA (s : State) (c : Case) : Bool := decide (c.state ≠ .settled ∧ (testedA s c).state = .settled)

theorem reportA_congr {s t : State} (hz : t.zones = s.zones) (hclock : t.clock = s.clock) (hl : t.links = s.links) (c : Case) :
    reportA t c = reportA s c := by
  simp only [reportA, triggerReport, hz, hclock, toOwner_congr (s := s) (t := t) (c := c) hl rfl]

/-- Trigger (a) on one case. -/
theorem triggerA_queues {s : State} {c : Case} (hs : NumbersRise s) (hc : c ∈ s.cases) :
    (triggerA c.number s).channels = withReports (reportA s c).toList s.channels ∧
      ∃ x, (s.signing.queue = [] → settlesA s c = true → x = statementOf (testedA s c)) ∧
        (triggerA c.number s).signing = statementsQueued (if settlesA s c = true then [c.number] else []) x s.signing := by
  have hfind := findCase_of_mem hs hc
  by_cases h : closedAll s.zones c.zonesClosed = true ∧ c.state ≠ .settled
  · obtain ⟨hchannels, x, hx, hsigning⟩ := automaticTrigger_queues hfind h.2
    have htrigger : triggerA c.number s = automaticTrigger c.number s := by simp only [triggerA, hfind, if_pos h.1]
    have htested : testedA s c = autoTriggered (closedAll s.zones c.zonesClosed) s c := by rw [testedA, if_pos h, h.1]
    have hsettles : settlesA s c = decide ((testedA s c).state = .settled) := by simp [settlesA, h.2]
    rw [← htested] at hx hsigning
    refine ⟨by rw [htrigger, hchannels, reportA, if_pos h], x, fun hq hd => hx hq (of_decide_eq_true (hsettles ▸ hd)), ?_⟩
    rw [htrigger, hsigning, hsettles]
    simp only [decide_eq_true_eq]
  · have htrigger : triggerA c.number s = s := by
      simp only [triggerA, hfind]
      split
      · next hall =>
        have hst : c.state = .settled := by
          by_contra hst
          exact h ⟨hall, hst⟩
        simp only [automaticTrigger, hfind, if_pos hst]
      · rfl
    have hsettles : settlesA s c = false := by
      rw [settlesA, testedA, if_neg h]
      exact decide_eq_false fun hd => hd.1 hd.2
    refine ⟨by rw [htrigger, reportA, if_neg h]; rfl, none, ⟨fun _ hd => (Bool.false_ne_true (hsettles ▸ hd)).elim, ?_⟩⟩
    rw [htrigger, hsettles, if_neg Bool.false_ne_true, statementsQueued_nil]

/-- A case that trigger (a) does not reach stands as it stood. -/
theorem mem_triggerA {s : State} {c d : Case} (hs : NumbersRise s) (hd : d ∈ s.cases) (hne : d.number ≠ c.number) :
    d ∈ (triggerA c.number s).cases := by
  rw [(triggerA_eq hs c.number).1]
  exact List.mem_map.mpr ⟨d, hd, if_neg hne⟩

/-- Trigger (a) goes through some cases of the table: the reports in their order, and the numbers of those that settle. -/
theorem triggerA_foldl_queues {s : State} (hs : NumbersRise s) (l : List Case) (hl : (l.map fun c => c.number).Nodup)
    (hmem : ∀ c ∈ l, c ∈ s.cases) :
    let t := (l.map fun c => c.number).foldl (fun u n => triggerA n u) s
    t.channels = withReports (l.filterMap (reportA s)) s.channels ∧
      ∃ x, (∀ c rest, s.signing.queue = [] → l.filter (settlesA s) = c :: rest → x = statementOf (testedA s c)) ∧
        t.signing = statementsQueued ((l.filter (settlesA s)).map fun c => c.number) x s.signing := by
  induction l generalizing s with
  | nil => exact ⟨rfl, none, ⟨fun _ _ _ h => (List.cons_ne_nil _ _ h.symm).elim, (statementsQueued_nil _ _).symm⟩⟩
  | cons c rest ih =>
    rw [List.map_cons, List.nodup_cons] at hl
    obtain ⟨hchannels, x, hx, hsigning⟩ := triggerA_queues hs (hmem c List.mem_cons_self)
    have hrise : NumbersRise (triggerA c.number s) := numbersRise_map hs (fun d => by
      split
      · exact testedA_number s d
      · rfl) (triggerA_eq hs c.number).1
    obtain ⟨ihchannels, y, hy, ihsigning⟩ := ih hrise hl.2 fun d hd =>
      mem_triggerA hs (hmem d (List.mem_cons_of_mem _ hd)) fun h => hl.1 (h ▸ List.mem_map.mpr ⟨d, hd, rfl⟩)
    have htested (d : Case) : testedA (triggerA c.number s) d = testedA s d :=
      testedA_congr (triggerA_zones s _) (triggerA_clock s _) d
    have hreport : reportA (triggerA c.number s) = reportA s :=
      funext (reportA_congr (triggerA_zones s _) (triggerA_clock s _) (triggerA_links s _))
    have hsettles : settlesA (triggerA c.number s) = settlesA s := by
      funext d
      simp only [settlesA, htested]
    rw [hreport, hchannels] at ihchannels
    rw [hsettles, hsigning, statementsQueued_append] at ihsigning
    rw [hsettles] at hy
    refine ⟨?_, ?_⟩
    · rw [List.map_cons, List.foldl_cons, ihchannels, ← withReports_append]
      congr 1
      rw [List.filterMap_cons]
      cases reportA s c <;> rfl
    · rw [List.filter_cons]
      by_cases h : settlesA s c = true
      · rw [if_pos h, if_neg (List.cons_ne_nil _ _)] at ihsigning
        rw [if_pos h]
        exact ⟨x, fun d others hq hfirst => (List.cons.inj hfirst).1 ▸ hx hq h, ihsigning⟩
      · rw [if_neg h, if_pos rfl] at ihsigning
        rw [if_neg h]
        refine ⟨y, fun d others hq hfirst => ?_, ihsigning⟩
        rw [hy d others (by rw [hsigning, if_neg h, statementsQueued_nil, hq]) hfirst, htested]

theorem triggerA_foldl_frame (l : List Nat) (s : State) :
    l.foldl (fun u n => triggerA n u) s = { s with
      cases := (l.foldl (fun u n => triggerA n u) s).cases, channels := (l.foldl (fun u n => triggerA n u) s).channels
      signing := (l.foldl (fun u n => triggerA n u) s).signing } := by
  have keeps {α : Type} (field : State → α) (h : ∀ n u, field (triggerA n u) = field u) :
      field (l.foldl (fun u n => triggerA n u) s) = field s := by
    induction l generalizing s with
    | nil => rfl
    | cons n rest ih => exact (ih _).trans (h n s)
  exact state_eq (keeps State.base fun n u => triggerA_base u n) rfl rfl (keeps State.hotlist fun n u => triggerA_hotlist u n)
    (keeps State.zones fun n u => triggerA_zones u n) (keeps State.ports fun n u => triggerA_ports u n) rfl

/-- Trigger (a) reaches the picked cases in WATCH or HOLDING of a table, of a command that the state `s` was taken in. -/
theorem triggerReaches_foldl {s u : State} {picked : Case → Bool} (hu : NumbersRise u) (hclock : u.clock = s.clock)
    (hlinks : u.links = s.links) (hsigning : u.signing = s.signing) (hpicked : ∀ c ∈ u.cases, picked c = true → c.state ≠ .settled) :
    TriggerReaches (fun c => picked c && closedAll u.zones c.zonesClosed) s u
      (((u.cases.filter picked).map fun c => c.number).foldl (fun v n => triggerA n v) u) := by
  have hsub : ∀ c ∈ u.cases.filter picked, c ∈ u.cases := fun c hc => List.mem_of_mem_filter hc
  have hnodup : ((u.cases.filter picked).map fun c => c.number).Nodup :=
    List.Pairwise.map _ (fun a b (h : a.number < b.number) => Nat.ne_of_lt h) (hu.filter _)
  obtain ⟨hchannels, x, hx, hqueued⟩ := triggerA_foldl_queues hu _ hnodup hsub
  have hcases := (triggerA_foldl hu _ hnodup).1
  have hauto (c : Case) : autoTriggered true u c = autoTriggered true s c := by unfold autoTriggered; rw [hclock]
  have hreport (c : Case) : triggerReport u c = triggerReport s c := by
    simp only [triggerReport, hclock, toOwner_congr (s := s) (t := u) (c := c) hlinks rfl]
  have htested : ∀ c ∈ u.cases, picked c = true → testedA u c =
      if closedAll u.zones c.zonesClosed = true then autoTriggered true s c else c := by
    intro c hc hp
    simp only [testedA, hpicked c hc hp, ne_eq, not_false_iff, and_true, hauto]
  have hsettling : (u.cases.filter picked).filter (settlesA u) =
      u.cases.filter fun c => (picked c && closedAll u.zones c.zonesClosed) && decide ((autoTriggered true s c).state = .settled) := by
    rw [List.filter_filter]
    refine List.filter_congr fun c hc => ?_
    cases hp : picked c with
    | false => simp
    | true =>
      rw [settlesA, htested c hc hp]
      cases closedAll u.zones c.zonesClosed with
      | true => simp [hpicked c hc hp]
      | false => simp
  refine ⟨x, fun c rest hq hfirst => ?_, ?_⟩
  · rw [hx c rest (hsigning ▸ hq) (hsettling.trans hfirst)]
    have hmem : c ∈ u.cases.filter fun c =>
        (picked c && closedAll u.zones c.zonesClosed) && decide ((autoTriggered true s c).state = .settled) := by
      rw [hfirst]; exact List.mem_cons_self
    obtain ⟨hc, hp⟩ := List.mem_filter.mp hmem
    simp only [Bool.and_eq_true] at hp
    rw [htested c hc hp.1.1, if_pos hp.1.2]
    rfl
  · rw [triggerA_foldl_frame, hchannels, hqueued, hcases, hsettling, hsigning]
    congr 1
    · rw [List.filterMap_filter, List.filterMap_filter]
      congr 1
      refine List.filterMap_congr fun c hc => ?_
      cases hp : picked c with
      | false => rfl
      | true =>
        cases hall : closedAll u.zones c.zonesClosed with
        | false => simp [reportA, hall]
        | true => simp [reportA, hall, hpicked c hc hp, hreport]
    · refine List.map_congr_left fun c hc => ?_
      cases hp : picked c with
      | false =>
        have hnot : c.number ∉ (u.cases.filter picked).map fun c => c.number := by
          intro h
          obtain ⟨d, hd, he⟩ := List.mem_map.mp h
          rw [eq_of_number hu (hsub d hd) hc he] at hd
          exact Bool.false_ne_true (hp.symm.trans (List.mem_filter.mp hd).2)
        rw [if_neg hnot]
        simp only [hp, Bool.false_and, Bool.false_eq_true, if_false]
      | true =>
        rw [if_pos (List.mem_map.mpr ⟨c, List.mem_filter.mpr ⟨hc, hp⟩, rfl⟩), htested c hc hp]
        simp only [hp, Bool.true_and]

/-! ### ZONE REMOVE (R122, R63) -/

/-- Settles O34: the cases that lacked the zone are tested in case order. -/
theorem zoneRemoveTestsTheCasesThatLackedIt : Obligations.ZoneRemoveTestsTheCasesThatLackedIt := by
  intro r l rest s z hr htable hz hheld
  dsimp only
  let u : State := { s with zones := s.zones.set z { s.zones[z] with state := .unused } }
  have hdone : handleZoneRemove l r.body s = answer .none (testLacking z u) := by
    rw [handleZoneRemove, withZone_of_some _ hz, if_pos hheld]
    rfl
  refine ⟨_, triggerReaches_foldl (s := s) (u := u) (picked := fun c => decide (c.state ≠ .settled ∧ c.zonesClosed.getLsbD z.val = false))
    htable.rise rfl rfl rfl fun c _ h => (of_decide_eq_true h).1, ?_⟩
  exact completes_of rfl hr hdone (testLacking_terminal u z)

end Sys2Proof.Machine
end

section
/-! PROOF. BATCH END: the records reach their cases, the zone's record moves on, and its closures are tested (R131 to R133, R61, R62). -/

namespace Sys2Proof.Machine

/-! ### The records of a commit (R132) -/

/-- In a table of ascending numbers at most one case bears a number. -/
theorem filterMap_number {α : Type} {l : List Case} (hl : l.Pairwise fun a b => a.number < b.number) (n : Nat) (f : Case → Option α) :
    (l.filterMap fun c => if some n = some c.number then f c else none) =
      ((l.find? fun c => c.number = n).bind f).toList := by
  induction l with
  | nil => rfl
  | cons c rest ih =>
    obtain ⟨hc, hrest⟩ := List.pairwise_cons.mp hl
    rw [List.filterMap_cons, List.find?_cons]
    by_cases h : c.number = n
    · have hnone : (rest.filterMap fun d => if some n = some d.number then f d else none) = [] := by
        rw [List.filterMap_eq_nil_iff]
        intro d hd
        rw [if_neg fun he => ?_]
        have := hc d hd
        have := Option.some.inj he
        omega
      rw [if_pos (by rw [h]), decide_eq_true h, hnone]
      dsimp only [Option.bind_some]
      cases f c <;> rfl
    · rw [if_neg fun he => h (Option.some.inj he).symm, decide_eq_false h]
      exact ih hrest

/-- The reports of one depot record (R132, R39, R84). -/
def recordReports (s : State) (e : CardEvent) : List (Fin 4 × Report) :=
  s.cases.filterMap fun c => if masterCase e.cardNo s.hotlist = some c.number then (arrivalReport e c).map (toOwner s c) else none

/-- One record of a commit changes the cases and queues the reports of the case that takes it. -/
theorem commitRecord_state {s : State} (hs : NumbersRise s) (e : CardEvent) (n : CommitCount) :
    (commitRecord e (s, n)).1 =
      { s with cases := s.cases.map (handedTo s.hotlist e), channels := withReports (recordReports s e) s.channels } := by
  have hcases := (commitRecord_eq hs e n).1
  have still (hsame : (commitRecord e (s, n)).1 = s) (hreports : recordReports s e = []) :
      (commitRecord e (s, n)).1 =
        { s with cases := s.cases.map (handedTo s.hotlist e), channels := withReports (recordReports s e) s.channels } := by
    rw [← hcases, hreports, hsame]
    rfl
  cases hm : masterCase e.cardNo s.hotlist with
  | none =>
    refine still (by simp only [commitRecord, hm]) (List.filterMap_eq_nil_iff.mpr fun c _ => ?_)
    rw [hm]
    exact if_neg fun h => Option.some_ne_none _ h.symm
  | some m =>
    have harrival : (commitRecord e (s, n)).1 = arrival m e s := by simp only [commitRecord, hm]
    have hreports : recordReports s e = ((s.findCase m).bind fun c => (arrivalReport e c).map (toOwner s c)).toList := by
      unfold recordReports
      rw [hm]
      exact filterMap_number hs m _
    cases hc : s.findCase m with
    | none =>
      refine still (harrival.trans ?_) (by rw [hreports, hc]; rfl)
      simp only [arrival, hc]
    | some c =>
      have heq := arrival_eq e hs hc
      rw [harrival] at hcases ⊢
      rw [← hcases, hreports, hc]
      conv_rhs => rw [heq]
      rw [heq]
      rfl

theorem feedReports_congr {s t : State} (hh : t.hotlist = s.hotlist) (hl : t.links = s.links) (events : List CardEvent)
    (cases : List Case) : feedReports t events cases = feedReports s events cases := by
  induction events generalizing cases with
  | nil => rfl
  | cons e rest ih =>
    simp only [feedReports, ih, hh, fun c => toOwner_congr (s := s) (t := t) (c := c) hl rfl]

/-- The good records reach their cases in buffer order, with their reports (R132). -/
theorem commitRecords_state {s : State} (hs : NumbersRise s) (events : List CardEvent) :
    (commitRecords events s).1 =
      { s with
        cases := s.cases.map fun c => events.foldl (fun d e => handedTo s.hotlist e d) c
        channels := withReports (feedReports s events s.cases) s.channels } := by
  have main (n : CommitCount) : (events.foldl (fun acc e => commitRecord e acc) (s, n)).1 =
      { s with
        cases := s.cases.map fun c => events.foldl (fun d e => handedTo s.hotlist e d) c
        channels := withReports (feedReports s events s.cases) s.channels } := by
    induction events generalizing s n with
    | nil =>
      show s = { s with cases := s.cases.map fun c => c, channels := s.channels }
      rw [List.map_id']
    | cons e rest ih =>
      have hstate := commitRecord_state hs e n
      have hrise : NumbersRise (commitRecord e (s, n)).1 := numbersRise_map hs (fun c => (handedTo_keeps s.hotlist e c).1) (by rw [hstate])
      rw [List.foldl_cons, ← Prod.mk.eta (p := commitRecord e (s, n)), ih hrise,
        feedReports_congr (s := s) (by rw [hstate]) (by rw [hstate]), hstate]
      simp only [List.map_map, ← withReports_append]
      rfl
  exact main _

/-! ### What a commit counts and which cases it closes (R132, R133, R61) -/

theorem goodEvents_length_add (l : List BatchRecord) : (goodEvents l).length + voidCount l = l.length := by
  induction l with
  | nil => rfl
  | cons x rest ih =>
    cases x with
    | void bytes =>
      have hg : goodEvents (.void bytes :: rest) = goodEvents rest := rfl
      have hv : voidCount (.void bytes :: rest) = voidCount rest + 1 := rfl
      rw [hg, hv, List.length_cons, ← ih, Nat.add_assoc]
    | good e =>
      have hg : goodEvents (.good e :: rest) = e :: goodEvents rest := rfl
      have hv : voidCount (.good e :: rest) = voidCount rest := rfl
      rw [hg, hv, List.length_cons, List.length_cons, ← ih, Nat.add_right_comm]

/-- The zone's reached generation after a commit (R133 item 3). -/
def reachedAfter (o : OpenBatch) (r : Zone) : Nat :=
  if o.buffer.length - (goodEvents o.buffer).length = 0 then max r.reached o.generation else r.reached

theorem commitZone_reached (o : OpenBatch) (n : CommitCount) (day : Option Nat) (r : Zone) :
    (commitZone o n day r).reached = reachedAfter o r := by
  have h := goodEvents_length_add o.buffer
  have hvoid : voidCount o.buffer = o.buffer.length - (goodEvents o.buffer).length := by omega
  simp only [commitZone, reachedAfter, hvoid]

/-- The zone newly closes for a case at a commit (R61). -/
def newlyClosed (z : ZoneId) (o : OpenBatch) (s : State) (c : Case) : Bool :=
  decide (c.state ≠ .settled ∧ c.zonesClosed.getLsbD z.val = false) &&
    (((goodEvents o.buffer).any fun e =>
        decide (e.kind = .blocked ∧ masterCase e.cardNo s.hotlist = some c.number ∧ classify c e ≠ .stale)) ||
      match c.generation with
      | some g => decide (s.zones[z].reached < reachedAfter o s.zones[z] ∧ g ≤ reachedAfter o s.zones[z])
      | none => false)

/-- What a commit makes of a case before trigger (a): its records, and the zone closed (R132, R61). -/
def commitHanded (z : ZoneId) (o : OpenBatch) (s : State) (c : Case) : Case :=
  let d := (goodEvents o.buffer).foldl (fun d e => handedTo s.hotlist e d) c
  if newlyClosed z o s c = true then { d with zonesClosed := c.zonesClosed ||| BitVec.twoPow 12 z.val } else d

theorem commitHanded_number (z : ZoneId) (o : OpenBatch) (s : State) (c : Case) : (commitHanded z o s c).number = c.number := by
  have h := (handedTo_foldl_keeps s.hotlist (goodEvents o.buffer) c).1
  unfold commitHanded
  dsimp only
  split
  · exact h
  · exact h

theorem commitHanded_state (z : ZoneId) (o : OpenBatch) (s : State) (c : Case) : (commitHanded z o s c).state = c.state := by
  have h := (handedTo_foldl_keeps s.hotlist (goodEvents o.buffer) c).2.1
  unfold commitHanded
  dsimp only
  split
  · exact h
  · exact h

/-- The test of the closures, made of the case with its records taken, is that of the case before. -/
theorem closesNow_taken {s : State} (hs : NumbersRise s) (z : ZoneId) (o : OpenBatch) {c : Case} (hc : c ∈ s.cases) :
    closesNow z (commitRecords (goodEvents o.buffer) s).2.blocked (riseOf s.zones[z].reached (reachedAfter o s.zones[z]))
        ((goodEvents o.buffer).foldl (fun d e => handedTo s.hotlist e d) c) = newlyClosed z o s c := by
  obtain ⟨hnum, hstate, hgen, hzones⟩ := handedTo_foldl_keeps s.hotlist (goodEvents o.buffer) c
  have hblocked := (commitRecords_eq hs (goodEvents o.buffer)).2.2.2 c hc
  unfold closesNow newlyClosed
  rw [hnum, hstate, hgen, hzones]
  by_cases hst : c.state = .settled
  · simp [hst]
  have hany : decide (c.number ∈ (commitRecords (goodEvents o.buffer) s).2.blocked) =
      (goodEvents o.buffer).any fun e =>
        decide (e.kind = .blocked ∧ masterCase e.cardNo s.hotlist = some c.number ∧ classify c e ≠ .stale) := by
    rw [Bool.eq_iff_iff, decide_eq_true_iff, hblocked, List.any_eq_true]
    simp only [decide_eq_true_eq, ne_eq, hst, not_false_iff, and_true]
  rw [hany]
  congr 1
  · simp [zoneIn, hst]
  · congr 1
    generalize reachedAfter o s.zones[z] = reached
    generalize s.zones[z].reached = before
    unfold riseOf
    by_cases h : before < reached
    · rw [if_pos h]
      cases c.generation with
      | none => rfl
      | some g => simp [h]
    · rw [if_neg h]
      cases c.generation with
      | none => rfl
      | some g => simp [h]

/-! ### The whole commit (R132, R133, R62) -/

/-- The zone's record after a commit (R132, R133). -/
def committedZone (o : OpenBatch) (s : State) (r : Zone) : Zone :=
  let matched := ((goodEvents o.buffer).filter fun e => (masterCase e.cardNo s.hotlist).isSome).length
  { r with
    state := .aligned, batch := none, expected := nextSequence o.sequence
    lastCommit := s.clock.second.map fun _ => s.clock.announcedDay
    dormant := false, reached := reachedAfter o r
    committed := (r.committed + (goodEvents o.buffer).length) % 4294967296
    matched := (r.matched + matched) % 4294967296
    unmatched := (r.unmatched + ((goodEvents o.buffer).length - matched)) % 4294967296 }

theorem closeBatch_commitZone {s : State} (hs : NumbersRise s) (o : OpenBatch) (r : Zone) :
    closeBatch (commitZone o (commitRecords (goodEvents o.buffer) s).2 (dayOf s) r) = committedZone o s r := by
  obtain ⟨-, hmatched, hunmatched, -⟩ := commitRecords_eq hs (goodEvents o.buffer)
  unfold closeBatch committedZone
  dsimp only
  rw [← commitZone_reached o (commitRecords (goodEvents o.buffer) s).2 (dayOf s) r, ← dayOf_eq, ← hunmatched, ← hmatched]
  rfl

/-- The cases that newly hold the zone, as their numbers pick them. -/
def newlyPicked (z : ZoneId) (o : OpenBatch) (s : State) (d : Case) : Bool :=
  s.cases.any fun c => newlyClosed z o s c && decide (c.number = d.number)

theorem newlyPicked_handed {s : State} (hs : NumbersRise s) (z : ZoneId) (o : OpenBatch) {c : Case} (hc : c ∈ s.cases) :
    newlyPicked z o s (commitHanded z o s c) = newlyClosed z o s c := by
  rw [Bool.eq_iff_iff, newlyPicked, List.any_eq_true]
  simp only [commitHanded_number, Bool.and_eq_true, decide_eq_true_eq]
  constructor
  · rintro ⟨d, hd, hnewly, hn⟩
    rwa [eq_of_number hs hd hc hn] at hnewly
  · exact fun h => ⟨c, hc, h, rfl⟩

/-- The closures of a commit before trigger (a) tests them (R61). -/
def commitClosed (z : ZoneId) (o : OpenBatch) (s : State) : State :=
  { s with
    cases := s.cases.map (commitHanded z o s)
    channels := withReports (feedReports s (goodEvents o.buffer) s.cases) s.channels
    zones := s.zones.set z (commitZone o (commitRecords (goodEvents o.buffer) s).2 (dayOf s) s.zones[z]) }

/-- A commit: its records and closures, trigger (a) for the cases that newly hold the zone, and the zone's record (R132, R133). -/
theorem commitBatch_eq {s : State} (hs : NumbersRise s) (z : ZoneId) (o : OpenBatch) :
    commitBatch z o s =
      (((((commitClosed z o s).cases.filter (newlyPicked z o s)).map fun c => c.number).foldl (fun u n => triggerA n u)
          (commitClosed z o s)).modZone z closeBatch,
        .batchCommitted o.sequence (goodEvents o.buffer).length (commitRecords (goodEvents o.buffer) s).2.matched
          (commitRecords (goodEvents o.buffer) s).2.unmatched (voidCount o.buffer) (reachedAfter o s.zones[z])
          (nextSequence o.sequence) (s.cases.filter (newlyClosed z o s)).length) := by
  let n := (commitRecords (goodEvents o.buffer) s).2
  let taken (c : Case) : Case := (goodEvents o.buffer).foldl (fun d e => handedTo s.hotlist e d) c
  let v : State := { s with
    cases := s.cases.map taken, channels := withReports (feedReports s (goodEvents o.buffer) s.cases) s.channels }
  let u : State := { v with zones := s.zones.set z (commitZone o n (dayOf s) s.zones[z]) }
  let rise := riseOf s.zones[z].reached (reachedAfter o s.zones[z])
  have hnumber (c : Case) : (taken c).number = c.number := (handedTo_foldl_keeps s.hotlist (goodEvents o.buffer) c).1
  have hcloses : ∀ c ∈ s.cases, closesNow z n.blocked rise (taken c) = newlyClosed z o s c := fun c hc => closesNow_taken hs z o hc
  have hcommit : commitBatch z o s =
      ((applyClosures z n.blocked rise u).modZone z closeBatch,
        .batchCommitted o.sequence (goodEvents o.buffer).length n.matched n.unmatched (voidCount o.buffer)
          (reachedAfter o s.zones[z]) (nextSequence o.sequence) (closingCases z n.blocked rise u).length) := by
    have hpair : commitRecords (goodEvents o.buffer) s = (v, n) := Prod.ext (commitRecords_state hs _) rfl
    have hu : v.modZone z (commitZone o n (dayOf v)) = u := rfl
    have hreached : u.zones[z].reached = reachedAfter o s.zones[z] :=
      (congrArg Zone.reached (zones_set_get s.zones z _)).trans (commitZone_reached o n (dayOf s) s.zones[z])
    unfold commitBatch
    rw [hpair]
    dsimp only
    rw [hu, hreached]
  have hclosed : ({ u with cases := u.cases.map fun c => if closesNow z n.blocked rise c then closeZone z c else c } : State) =
      commitClosed z o s := by
    have hcases : ((s.cases.map taken).map fun c => if closesNow z n.blocked rise c then closeZone z c else c) =
        s.cases.map (commitHanded z o s) := by
      rw [List.map_map]
      refine List.map_congr_left fun c hc => ?_
      have hzones := (handedTo_foldl_keeps s.hotlist (goodEvents o.buffer) c).2.2.2
      simp only [Function.comp, hcloses c hc, commitHanded, closeZone, taken, hzones]
      rfl
    exact congrArg (fun l => { u with cases := l }) hcases
  have hclosing : closingCases z n.blocked rise u = (s.cases.filter (newlyClosed z o s)).map fun c => c.number := by
    have hfilter : s.cases.filter (closesNow z n.blocked rise ∘ taken) = s.cases.filter (newlyClosed z o s) :=
      List.filter_congr hcloses
    show ((s.cases.map taken).filter (closesNow z n.blocked rise)).map _ = _
    rw [List.filter_map, hfilter, List.map_map]
    exact List.map_congr_left fun c _ => hnumber c
  have hpicked : ((commitClosed z o s).cases.filter (newlyPicked z o s)).map (fun c => c.number) =
      (s.cases.filter (newlyClosed z o s)).map fun c => c.number := by
    have hfilter : s.cases.filter (newlyPicked z o s ∘ commitHanded z o s) = s.cases.filter (newlyClosed z o s) :=
      List.filter_congr fun c hc => newlyPicked_handed hs z o hc
    show ((s.cases.map (commitHanded z o s)).filter (newlyPicked z o s)).map _ = _
    rw [List.filter_map, hfilter, List.map_map]
    exact List.map_congr_left fun c _ => commitHanded_number z o s c
  have happly : applyClosures z n.blocked rise u =
      (closingCases z n.blocked rise u).foldl (fun w m => triggerA m w)
        { u with cases := u.cases.map fun c => if closesNow z n.blocked rise c then closeZone z c else c } := rfl
  rw [hcommit, happly, hclosed, hclosing, hpicked, List.length_map]

/-! ### BATCH END (R131) -/

theorem handleBatchEnd_of_agreeing {l : LinkId} {b : List Byte} {s : State} {z : ZoneId} {o : OpenBatch}
    (hz : zoneOf (fieldAt 0 1 b) = some z) (hl : s.links[l].zone = some z) (hstate : s.zones[z].state = .openBatch)
    (hbatch : s.zones[z].batch = some o) (hlen : fieldAt 1 2 b = o.buffer.length) (hsum : fieldAt 3 2 b = o.bodySum) :
    handleBatchEnd l b s = answer (commitBatch z o s).2 (commitBatch z o s).1 := by
  have hfed : isFed s.zones[z].state = true := by rw [hstate]; rfl
  have hend : endMatches b o = true := decide_eq_true ⟨hlen, hsum⟩
  rw [handleBatchEnd, withFeed_of_fed _ hz hl hfed, if_neg (not_not_intro hstate)]
  simp only [hbatch, if_pos hend]

/-- The trigger reads of the zones only which of them are UNUSED, so that another record of a zone in use stands beside it. -/
theorem triggerReaches_zones {tested : Case → Bool} {s u t : State} (v : Vector Zone 12) (h : TriggerReaches tested s u t) :
    TriggerReaches tested s { u with zones := v } { t with zones := v } := by
  obtain ⟨x, hx, rfl⟩ := h
  exact ⟨x, hx, rfl⟩

/-- The trigger leaves the zones. -/
theorem TriggerReaches.zones {tested : Case → Bool} {s u t : State} (h : TriggerReaches tested s u t) : t.zones = u.zones := by
  obtain ⟨x, _, rfl⟩ := h
  rfl

/-- Settles O38: the records, the closures with trigger (a), and the zone's record. -/
theorem batchEndCommits : Obligations.BatchEndCommits := by
  intro r l rest s z o hr htable hz hl hstate hbatch hlen hsum
  let u := commitClosed z o s
  let t := ((u.cases.filter (newlyPicked z o s)).map fun c => c.number).foldl (fun w n => triggerA n w) u
  have hrise : NumbersRise u := numbersRise_map htable.rise (commitHanded_number z o s) rfl
  obtain ⟨-, hmatched, hunmatched, -⟩ := commitRecords_eq htable.rise (goodEvents o.buffer)
  have hvoids : voidCount o.buffer = o.buffer.length - (goodEvents o.buffer).length := by
    have := goodEvents_length_add o.buffer
    omega
  have hreaches : TriggerReaches (fun d => newlyPicked z o s d && closedAll u.zones d.zonesClosed) s u t :=
    triggerReaches_foldl hrise rfl rfl rfl fun d hd hp => by
      obtain ⟨c, hc, rfl⟩ := List.mem_map.mp hd
      rw [newlyPicked_handed htable.rise z o hc, newlyClosed, Bool.and_eq_true] at hp
      rw [commitHanded_state]
      exact (of_decide_eq_true hp.1).1
  have hunused (c : ZoneSet) : closedAll u.zones c = closedAll s.zones c := by
    refine closedAll_congr (fun y => ?_) c
    have hget := setZone_get s z y (commitZone o (commitRecords (goodEvents o.buffer) s).2 (dayOf s) s.zones[z])
    rw [show u.zones[y] = _ from hget]
    split
    · next h => subst h; exact Iff.rfl
    · exact Iff.rfl
  have htested : (fun d : Case => newlyPicked z o s d && closedAll u.zones d.zonesClosed) =
      fun d => s.cases.any fun c => newlyClosed z o s c && decide (c.number = d.number) && closedAll s.zones d.zonesClosed := by
    funext d
    rw [hunused, newlyPicked]
    cases closedAll s.zones d.zonesClosed <;> simp
  have hclose : t.modZone z closeBatch = { t with zones := s.zones.set z (committedZone o s s.zones[z]) } := by
    have hzones : t.zones = u.zones := hreaches.zones
    have hget : u.zones[z] = commitZone o (commitRecords (goodEvents o.buffer) s).2 (dayOf s) s.zones[z] := zones_set_get ..
    have hset : u.zones.set z (closeBatch u.zones[z]) = s.zones.set z (committedZone o s s.zones[z]) := by
      rw [hget, closeBatch_commitZone htable.rise]
      exact zones_set_set ..
    show { t with zones := t.zones.set z (closeBatch t.zones[z]) } = _
    simp only [hzones, hset]
  have hdone := handleBatchEnd_of_agreeing hz hl hstate hbatch hlen hsum
  have hcompletes := completes_of rfl hr hdone (commitBatch_terminal s z o)
  rw [commitBatch_eq htable.rise, hmatched, hunmatched, hvoids] at hcompletes
  rw [htested] at hreaches
  have hfinal := triggerReaches_zones (s.zones.set z (committedZone o s s.zones[z])) hreaches
  rw [← hclose] at hfinal
  exact ⟨t.modZone z closeBatch, hfinal, hcompletes⟩

end Sys2Proof.Machine
end

section
/-! PROOF. TIME SET: the clock, the settlements of its day, and the tear windows it passes (R192, R152, R191). -/

namespace Sys2Proof.Machine

/-! ### What settles, settles on the day of the clock (R22) -/

/-- Between two states the clock stood, and each case has the settlement it had or one that bears the clock's day. -/
def SettlesToday (s t : State) : Prop :=
  t.clock = s.clock ∧ ∀ d ∈ t.cases, ∃ c ∈ s.cases, c.number = d.number ∧
    (d.settlement = c.settlement ∨ ∃ f, d.settlement = some f ∧ f.day = s.clock.announcedDay)

namespace SettlesToday
variable {s t u : State}

theorem of_cases (hclock : t.clock = s.clock) (hcases : t.cases = s.cases) : SettlesToday s t :=
  ⟨hclock, fun d hd => ⟨d, hcases ▸ hd, rfl, .inl rfl⟩⟩

theorem refl (s : State) : SettlesToday s s := of_cases rfl rfl

theorem trans (h : SettlesToday s t) (h' : SettlesToday t u) : SettlesToday s u := by
  refine ⟨h'.1.trans h.1, fun d hd => ?_⟩
  obtain ⟨c, hc, hn, hsettled⟩ := h'.2 d hd
  obtain ⟨b, hb, hm, hbefore⟩ := h.2 c hc
  refine ⟨b, hb, hm.trans hn, ?_⟩
  rcases hsettled with hsame | ⟨f, hf, hday⟩
  · rw [hsame]
    exact hbefore
  · exact .inr ⟨f, hf, by rw [hday, h.1]⟩

/-- A change of one case that leaves its number, and its settlement or one of the day. -/
theorem of_map {n : Nat} {f : Case → Case} (hclock : t.clock = s.clock)
    (hcases : t.cases = s.cases.map fun c => if c.number = n then f c else c) (hnumber : ∀ c, (f c).number = c.number)
    (hf : ∀ c, (f c).settlement = c.settlement ∨ ∃ g, (f c).settlement = some g ∧ g.day = s.clock.announcedDay) :
    SettlesToday s t := by
  refine ⟨hclock, fun d hd => ?_⟩
  rw [hcases] at hd
  obtain ⟨c, hc, rfl⟩ := List.mem_map.mp hd
  refine ⟨c, hc, ?_⟩
  split
  · exact ⟨(hnumber c).symm, hf c⟩
  · exact ⟨rfl, .inl rfl⟩

theorem of_filter {p : Case → Bool} (hclock : t.clock = s.clock) (hcases : t.cases = s.cases.filter p) : SettlesToday s t :=
  ⟨hclock, fun d hd => ⟨d, List.mem_of_mem_filter (hcases ▸ hd), rfl, .inl rfl⟩⟩

theorem foldl {α : Type} {f : State → α → State} (h : ∀ u a, SettlesToday u (f u a)) (l : List α) (s : State) :
    SettlesToday s (l.foldl f s) := by
  induction l generalizing s with
  | nil => exact refl s
  | cons a rest ih => exact (h s a).trans (ih _)

end SettlesToday

section
variable (s : State) (n : Nat)

theorem settlesToday_settle (kind : SettlementKind) : SettlesToday s (settle kind n s) :=
  .of_map (clock_of_base (settleWith_base s _ n)) (settleWith_cases _ n s) (by intro _; rfl) fun _ => .inr ⟨_, rfl, rfl⟩

theorem settlesToday_modCase {f : Case → Case} (hnumber : ∀ c, (f c).number = c.number) (hf : ∀ c, (f c).settlement = c.settlement) :
    SettlesToday s (s.modCase n f) := .of_map rfl rfl hnumber fun c => .inl (hf c)

theorem settlesToday_reportOn (body : Case → ReportBody) : SettlesToday s (reportOn n body s) :=
  .of_cases (reportOn_clock s n body) (reportOn_cases s n body)

theorem settlesToday_raiseReview (reason : Reason) : SettlesToday s (raiseReview reason n s) := by
  unfold raiseReview
  split
  · exact .refl s
  · split
    · exact .refl s
    · exact (settlesToday_modCase s n (by intro _; rfl) (by intro _; rfl)).trans (settlesToday_reportOn _ n _)

theorem settlesToday_automaticTrigger : SettlesToday s (automaticTrigger n s) := by
  unfold automaticTrigger
  split
  · exact .refl s
  · split
    · exact .refl s
    · split
      · exact .refl s
      · split
        · exact settlesToday_modCase s n (by intro _; rfl) (by intro _; rfl)
        · split
          · exact .refl s
          · split
            · exact settlesToday_raiseReview s n _
            · exact settlesToday_settle s n _

theorem settlesToday_testCase : SettlesToday s (testCase n s) := by
  unfold testCase
  split
  · exact .refl s
  · split
    · exact settlesToday_automaticTrigger s n
    · exact .refl s

theorem settlesToday_takeDue : SettlesToday s (takeDue n s) := by
  unfold takeDue
  split
  · exact .refl s
  · split
    · exact .refl s
    · split
      · exact .refl s
      · have hmark : SettlesToday s (s.modCase n fun c => { c with settleDue := none }) :=
          settlesToday_modCase s n (by intro _; rfl) (by intro _; rfl)
        dsimp only
        split
        · exact hmark
        · split
          · split
            · exact hmark.trans (settlesToday_settle _ n _)
            · exact hmark.trans (settlesToday_reportOn _ n _)
          · exact hmark.trans (settlesToday_testCase _ n)

theorem settlesToday_retentionTest : SettlesToday s (retentionTest n s) := by
  unfold retentionTest
  cases hc : s.findCase n with
  | none => exact .refl s
  | some c =>
    dsimp only
    split
    · exact .of_filter (endCase_clock s false n) (endCase_cases_of_find false hc)
    · exact .refl s

theorem settlesToday_rolloverCase : SettlesToday s (rolloverCase n s) := by
  unfold rolloverCase
  split
  · exact .refl s
  · split
    · exact settlesToday_retentionTest s n
    · split
      · exact settlesToday_takeDue s n
      · exact settlesToday_testCase s n

theorem settlesToday_deliverRollover (b : RolloverBlock) : SettlesToday s (deliverRollover b s) := by
  cases b with
  | cases => exact .foldl (fun u n => settlesToday_rolloverCase u n) _ s
  | hotlist => exact .of_cases (rolloverCut_clock s) (rolloverCut_cases s)
  | zones => exact .of_cases (rolloverZones_clock s _) (rolloverZones_cases s _)

/-- A tear window that ends fails its job, and its case takes what waited (R152, R33). -/
theorem settlesToday_expireWindow (p : Port) : SettlesToday s (expireWindow p s) := by
  unfold expireWindow
  split
  · cases hj : (s.port p).job with
    | none => rw [endJob_of_no_job _ hj]; exact .refl s
    | some j =>
      rw [endJob_of_job _ hj]
      have hfreed : SettlesToday s (freeJob p j.caseNo (reportOn j.caseNo (jobReport p .tornTimeout j) (giveUpSigning p s))) :=
        (SettlesToday.of_cases (giveUpSigning_clock s p) (giveUpSigning_cases s p)).trans
          ((settlesToday_reportOn _ _ _).trans (settlesToday_modCase (State.modPort p _ _) _ (by intro _; rfl) (by intro _; rfl)))
      refine hfreed.trans ?_
      unfold outcomeTaken
      split
      · exact (settlesToday_takeDue _ _).trans (settlesToday_retentionTest _ _)
      · exact settlesToday_takeDue _ _
  · exact .refl s

theorem settlesToday_runTimeTask (t : TimeTask) : SettlesToday s (runTimeTask t s) := by
  cases t with
  | rollover b => exact settlesToday_deliverRollover s b
  | window p => exact settlesToday_expireWindow s p

end

/-- What a moved clock settles bears its day. -/
theorem settlesToday_moveClock (second : Nat) (s : State) :
    SettlesToday (moveDay (takeSecond second s)) (moveClock second s) := by
  unfold moveClock
  dsimp only
  exact runFree_keeps (SettlesToday _) _ _ _ (.of_cases rfl rfl) fun t _ u hu => hu.trans (settlesToday_runTimeTask u t)

/-! ### The tear windows that a moved clock passes (R152) -/

/-- What the test of a tear window reads of a port. -/
def windowOf (r : PortRec) : Option (Phase × Option Nat) := r.job.map fun j => (j.phase, j.tearEnd)

theorem windowOf_modPort (s : State) (p : Port) (f : PortRec → PortRec) (hf : ∀ r, windowOf (f r) = windowOf r) (q : Port) :
    windowOf ((s.modPort p f).port q) = windowOf (s.port q) := by
  rw [modPort_port]
  split
  · subst q; exact hf _
  · rfl

theorem sendCommand_window (s : State) (p : Port) (cmd : Command) (q : Port) :
    windowOf ((sendCommand p cmd s).port q) = windowOf (s.port q) := windowOf_modPort s p _ (by intro _; rfl) q

theorem sendWrite_window (s : State) (p q : Port) : windowOf ((sendWrite p s).port q) = windowOf (s.port q) := by
  unfold sendWrite
  split
  · rfl
  · split
    · rfl
    · exact sendCommand_window s p _ q

theorem sendMark_window (s : State) (p q : Port) : windowOf ((sendMark p s).port q) = windowOf (s.port q) := by
  unfold sendMark
  split
  · rfl
  · exact sendCommand_window s p _ q

/-- A port's grant sends a command and counts its segments afresh (R169). -/
theorem grant_window (s : State) (m : Member) (q : Port) : windowOf ((grant m s).port q) = windowOf (s.port q) := by
  cases m with
  | port p =>
    have hcount (u : State) : windowOf ((u.modJob p fun j => { j with grantCount := 0 }).port q) = windowOf (u.port q) :=
      windowOf_modPort u p _ (fun r => by unfold windowOf; cases r.job <;> rfl) q
    simp only [grant, beginGrant]
    split
    · split
      · exact (sendMark_window _ p q).trans (hcount _)
      · exact (sendWrite_window _ p q).trans (hcount _)
    · exact hcount _
  | hotlist => rfl
  | statement => rfl

theorem giveUpSigning_window (s : State) (p q : Port) : windowOf ((giveUpSigning p s).port q) = windowOf (s.port q) := by
  unfold giveUpSigning
  split
  · rcases releaseGrant_spec s with ⟨_, e⟩ | ⟨m, _, e⟩ <;> rw [e]
    · rfl
    · exact grant_window _ m q
  · rfl

/-- The end of another port's job. -/
theorem endJob_window {s : State} {p q : Port} (o : JobOutcome) (hne : q ≠ p) :
    windowOf ((endJob p o s).port q) = windowOf (s.port q) := by
  cases hj : (s.port p).job with
  | none => rw [endJob_of_no_job o hj]
  | some j =>
    rw [endJob_of_job o hj, port_of_ports (outcomeTaken_ports o j _) q]
    unfold freeJob
    rw [port_of_ports (modCase_ports _ _ _) q, modPort_port, if_neg hne, port_of_ports (reportOn_ports _ _ _) q]
    exact giveUpSigning_window s p q

theorem job_none_of_window {r q : PortRec} (h : windowOf q = windowOf r) : q.job = none ↔ r.job = none := by
  rw [← Option.map_eq_none_iff (x := q.job) (f := fun j => (j.phase, j.tearEnd)),
    ← Option.map_eq_none_iff (x := r.job) (f := fun j => (j.phase, j.tearEnd))]
  exact iff_of_eq (congrArg (fun w => w = none) h)

theorem windowPassed_iff (s : State) (p : Port) :
    windowPassed s p = true ↔ ∃ now e, s.clock.second = some now ∧ windowOf (s.port p) = some (.torn, some e) ∧ e ≤ now := by
  unfold windowPassed windowOf
  cases hj : (s.port p).job with
  | none => simp
  | some j =>
    cases hclock : s.clock.second with
    | none => simp
    | some now =>
      cases he : j.tearEnd with
      | none => simp [he]
      | some e => simp [he]

/-- A port's job has ended, or its tear window has passed. -/
def WindowSpent (p : Port) (s : State) : Prop := (s.port p).job = none ∨ windowPassed s p = true

theorem windowSpent_of_window {s t : State} {p : Port} (hw : windowOf (t.port p) = windowOf (s.port p))
    (hclock : t.clock = s.clock) (h : WindowSpent p s) : WindowSpent p t := by
  rcases h with h | h
  · exact .inl ((job_none_of_window hw).mpr h)
  · rw [windowPassed_iff] at h
    exact .inr ((windowPassed_iff t p).mpr (by rw [hw, hclock]; exact h))

/-- The end of the window ends the job. -/
theorem job_none_of_expireWindow {s : State} {p : Port} (h : WindowSpent p s) : ((expireWindow p s).port p).job = none := by
  unfold expireWindow
  cases hj : (s.port p).job with
  | none =>
    split
    · rw [endJob_of_no_job _ hj]; exact hj
    · exact hj
  | some j =>
    rw [if_pos (h.resolve_left (by rw [hj]; exact Option.some_ne_none j)), endJob_port_self _ hj]

/-- No task of a moved clock creates a job or moves another port's window. -/
theorem runTimeTask_window (t : TimeTask) (s : State) (p : Port) :
    windowOf ((runTimeTask t s).port p) = windowOf (s.port p) ∨ t = .window p := by
  cases t with
  | rollover b => exact .inl (congrArg windowOf (port_of_ports (deliverRollover_ports s b) p))
  | window q =>
    by_cases h : p = q
    · exact .inr (by rw [h])
    · refine .inl ?_
      show windowOf ((expireWindow q s).port p) = _
      unfold expireWindow
      split
      · exact endJob_window _ h
      · rfl

theorem runTimeTask_job_none {t : TimeTask} {s : State} {p : Port} (h : (s.port p).job = none) :
    ((runTimeTask t s).port p).job = none := by
  rcases runTimeTask_window t s p with hw | rfl
  · exact (job_none_of_window hw).mpr h
  · exact job_none_of_expireWindow (.inl h)

theorem runTimeTask_spent {t : TimeTask} {s : State} {p : Port} (h : WindowSpent p s) : WindowSpent p (runTimeTask t s) := by
  rcases runTimeTask_window t s p with hw | rfl
  · exact windowSpent_of_window hw (settlesToday_runTimeTask s t).1 h
  · exact .inl (job_none_of_expireWindow h)

/-- One of some tasks brings about, in any order, what the others keep. -/
theorem runFree_reaches {α : Type} {P Q : State → Prop} {tasks : List α} {run : α → State → State} {s : State} {a : α}
    (ha : a ∈ tasks) (h0 : Q (s.useChoices tasks.length)) (hQ : ∀ t ∈ tasks, ∀ u, Q u → Q (run t u))
    (hreach : ∀ u, Q u → P (run a u)) (hP : ∀ t ∈ tasks, ∀ u, P u → P (run t u)) : P (s.runFree tasks run) := by
  have hperm : (s.ordered tasks).Perm tasks := freeOrder_perm _ _ _ (Nat.le_refl _)
  obtain ⟨before, after, hsplit⟩ := List.append_of_mem (hperm.mem_iff.mpr ha)
  have hmem : ∀ t ∈ before ++ a :: after, t ∈ tasks := fun t ht => hperm.mem_iff.mp (hsplit ▸ ht)
  have keeps {R : State → Prop} (l : List α) (hl : ∀ t ∈ l, ∀ u, R u → R (run t u)) (u : State) (hu : R u) :
      R (l.foldl (fun acc t => run t acc) u) := by
    induction l generalizing u with
    | nil => exact hu
    | cons t rest ih => exact ih (fun t' ht' => hl t' (List.mem_cons_of_mem _ ht')) _ (hl t List.mem_cons_self u hu)
  unfold State.runFree
  rw [hsplit, List.foldl_append, List.foldl_cons]
  refine keeps after (fun t ht => hP t (hmem t (List.mem_append_right _ (List.mem_cons_of_mem _ ht)))) _ (hreach _ ?_)
  exact keeps before (fun t ht => hQ t (hmem t (List.mem_append_left _ ht))) _ h0

theorem moveClock_ends {s : State} {p : Port} {second : Nat} (h : windowPassed (moveDay (takeSecond second s)) p = true) :
    ((moveClock second s).port p).job = none := by
  have hpassed : windowPassed (takeSecond second s) p = true := by
    rw [moveDay_eq] at h
    exact h
  have hmem : TimeTask.window p ∈ dueTimeTasks (takeSecond second s) := by
    refine List.mem_append_right _ (List.mem_map.mpr ⟨p, List.mem_filter.mpr ⟨?_, hpassed⟩, rfl⟩)
    cases p <;> decide
  unfold moveClock
  dsimp only
  exact runFree_reaches (P := fun u => (u.port p).job = none) (Q := WindowSpent p) hmem (.inr h)
    (fun t _ u => runTimeTask_spent) (fun u => job_none_of_expireWindow) fun t _ u => runTimeTask_job_none

/-! ### TIME SET (R192) -/

theorem timeBackward_iff (t : Nat) (c : Clock) :
    timeBackward t c = true ↔ t < c.floor ∨ ∃ now, c.second = some now ∧ t < now := by
  unfold timeBackward
  cases c.second with
  | none => simp
  | some now => simp

theorem handleTimeSet_of_forward {l : LinkId} {b : List Byte} {s : State} (h : timeBackward (fieldAt 0 4 b) s.clock = false) :
    handleTimeSet l b s = answer (.timeSet (fieldAt 0 4 b) (setTime (fieldAt 0 4 b) s).clock.announcedDay
      (deliversRollover (fieldAt 0 4 b) s)) (setTime (fieldAt 0 4 b) s) := by
  unfold handleTimeSet
  simp only [h, Bool.false_eq_true, if_false]

/-- The floor of a clock that was just set stands at its second. -/
theorem stampFloor_of_fresh {s t : State} {now : Nat} (hset : t.clock.second = some now) (hfloor : t.clock.floor = now)
    (hage : t.clock.floorAge = 0) : stampFloor s t = t := by
  have hclock : { t.clock with floor := now, floorAge := 0 } = t.clock := by rw [← hfloor, ← hage]
  unfold stampFloor
  rw [hset]
  dsimp only
  split
  · rfl
  · exact congrArg (fun c => { t with clock := c }) hclock

theorem deliversRollover_of_later {t : Nat} {s : State} (h : s.clock.second ≠ some t) :
    deliversRollover t s = decide (s.clock.announcedDay < (t - 60 * s.settings.rolloverMinute) / 86400) := by
  rw [← computedDay_eq]
  unfold deliversRollover
  rw [decide_eq_true h]
  rfl

/-- Without a new day and a passed window a moved clock brings nothing else. -/
theorem moveClock_alone {second : Nat} {s : State} (hday : rolloverDue (takeSecond second s) = false)
    (hwindows : ∀ p, windowPassed (takeSecond second s) p = false) :
    moveClock second s = { s with clock := (moveClock second s).clock } := by
  have hblocks : dueBlocks (takeSecond second s) = [] := if_neg (ne_true_of_eq_false hday)
  have hfilter : allPorts.filter (windowPassed (takeSecond second s)) = [] :=
    List.filter_eq_nil_iff.mpr fun p _ => ne_true_of_eq_false (hwindows p)
  have htasks : dueTimeTasks (takeSecond second s) = [] := by
    unfold dueTimeTasks
    rw [hblocks, hfilter]
    rfl
  have hmove : moveClock second s = moveDay (takeSecond second s) := by
    unfold moveClock
    dsimp only
    rw [htasks]
    rfl
  rw [hmove, moveDay_eq]
  rfl

/-- Settles O52: the refusal backward, the clock's own second, and a later one with what it brings. -/
theorem timeSetMovesTheClock : Obligations.TimeSetMovesTheClock := by
  intro r l rest s hr
  dsimp only
  refine ⟨fun hback => ?backward, fun hfloor hsame => ?same, fun hfloor hlater => ?later⟩
  case backward =>
    refine completes_of_cases rfl hr (t := s) ?_ rfl rfl
    unfold handleTimeSet
    simp only [(timeBackward_iff _ _).mpr hback, if_true]
    rfl
  case same =>
    have hforward : timeBackward (fieldAt 0 4 r.body) s.clock = false := by
      rw [← Bool.not_eq_true, timeBackward_iff]
      rintro (h | ⟨now, hnow, h⟩)
      · omega
      · rw [hsame] at hnow
        cases hnow
        omega
    have hset : setTime (fieldAt 0 4 r.body) s = s := if_pos hsame
    have hnone : deliversRollover (fieldAt 0 4 r.body) s = false := by simp [deliversRollover, hsame]
    refine completes_of_cases rfl hr ((handleTimeSet_of_forward hforward).trans ?_) rfl rfl
    rw [hset, hnone]
    rfl
  case later =>
    generalize hsecond : fieldAt 0 4 r.body = second at hfloor hlater ⊢
    have hforward : timeBackward second s.clock = false := by
      rw [← Bool.not_eq_true, timeBackward_iff]
      rintro (h | ⟨now, hnow, h⟩)
      · omega
      · have := hlater now hnow
        omega
    have hne : s.clock.second ≠ some second := fun h => Nat.lt_irrefl _ (hlater second h)
    have hset : setTime second s = moveClock second s := if_neg hne
    have hclock : (moveClock second s).clock =
        ⟨some second, second, 0, max s.clock.announcedDay ((second - 60 * s.settings.rolloverMinute) / 86400)⟩ := by
      rw [moveClock_clock, ← computedDay_eq]
      rfl
    have hdone := handleTimeSet_of_forward (l := l) (hsecond ▸ hforward)
    rw [hsecond, hset, hclock, deliversRollover_of_later hne] at hdone
    have hcompletes := completes_of rfl hr hdone (moveClock_terminal ..)
    rw [stampFloor_of_fresh (by rw [hclock]) (by rw [hclock]) (by rw [hclock])] at hcompletes
    refine ⟨_, hcompletes, hclock, fun p j e hj hphase hend hle => ?windows, fun d hd f hf => ?settled, fun hday hrun => ?alone, ?frame⟩
    case windows =>
      refine moveClock_ends ((windowPassed_iff _ p).mpr ⟨second, e, ?_, ?_, hle⟩)
      · rw [moveDay_clock]; rfl
      · rw [moveDay_eq]
        show windowOf (s.port p) = _
        simp only [windowOf, hj, Option.map_some, hphase, hend]
    case settled =>
      obtain ⟨hsame, hall⟩ := settlesToday_moveClock second s
      obtain ⟨c, hc, hn, hold | ⟨g, hg, hday⟩⟩ := hall d hd
      · exact .inr ⟨c, by rw [moveDay_eq] at hc; exact hc, hn, by rw [← hold]; exact hf⟩
      · rw [hf] at hg
        cases hg
        exact .inl (by rw [hday, ← hsame, hclock])
    case alone =>
      refine moveClock_alone ?_ fun p => ?_
      · rw [← Bool.not_eq_true, rolloverDue_iff]
        rintro ⟨now, hnow, h⟩
        cases hnow
        exact Nat.not_lt.mpr hday h
      · rw [← Bool.not_eq_true, windowPassed_iff]
        rintro ⟨now, e, hnow, hw, hle⟩
        cases hnow
        obtain ⟨j, hj, hjw⟩ := Option.map_eq_some_iff.mp hw
        have := hrun p j e hj (congrArg Prod.fst hjw) (congrArg Prod.snd hjw)
        omega
    case frame =>
      refine state_eq ?_ rfl rfl rfl rfl rfl rfl
      simp only [State.base, moveClock_terminal, moveClock_links, moveClock_nextCase, moveClock_concession, moveClock_settings,
        moveClock_pending]

end Sys2Proof.Machine
end

section
/-! PROOF. The clock's tick, the ten-minute floor write, and the day rollover (R191, R25, R108, R136). -/

namespace Sys2Proof.Machine

/-! ### One of some tasks in an order that is left open -/

/-- Each task runs once: what the others keep before the one task, and after it. -/
theorem runFree_reaches_once {α : Type} {P Q : State → Prop} {tasks : List α} {run : α → State → State} {s : State} {a : α}
    (hnodup : tasks.Nodup) (ha : a ∈ tasks) (h0 : Q (s.useChoices tasks.length))
    (hQ : ∀ t ∈ tasks, t ≠ a → ∀ u, Q u → Q (run t u)) (hreach : ∀ u, Q u → P (run a u))
    (hP : ∀ t ∈ tasks, t ≠ a → ∀ u, P u → P (run t u)) : P (s.runFree tasks run) := by
  have hperm : (s.ordered tasks).Perm tasks := freeOrder_perm _ _ _ (Nat.le_refl _)
  obtain ⟨before, after, hsplit⟩ := List.append_of_mem (hperm.mem_iff.mpr ha)
  have hmem : ∀ t ∈ before ++ a :: after, t ∈ tasks := fun t ht => hperm.mem_iff.mp (hsplit ▸ ht)
  have hdistinct : (before ++ a :: after).Nodup := hsplit ▸ (hperm.nodup_iff.mpr hnodup)
  have hafter : a ∉ after := (List.nodup_cons.mp (List.nodup_append.mp hdistinct).2.1).1
  have hbefore : a ∉ before := fun h => (List.nodup_append.mp hdistinct).2.2 a h a List.mem_cons_self rfl
  have keeps {R : State → Prop} (l : List α) (hl : ∀ t ∈ l, ∀ u, R u → R (run t u)) (u : State) (hu : R u) :
      R (l.foldl (fun acc t => run t acc) u) := by
    induction l generalizing u with
    | nil => exact hu
    | cons t rest ih => exact ih (fun t' ht' => hl t' (List.mem_cons_of_mem _ ht')) _ (hl t List.mem_cons_self u hu)
  unfold State.runFree
  rw [hsplit, List.foldl_append, List.foldl_cons]
  refine keeps after (fun t ht => hP t (hmem t (List.mem_append_right _ (List.mem_cons_of_mem _ ht))) fun h => hafter (h ▸ ht)) _
    (hreach _ ?_)
  exact keeps before (fun t ht => hQ t (hmem t (List.mem_append_left _ ht)) fun h => hbefore (h ▸ ht)) _ h0

/-! ### The zones at a rollover (R136) -/

/-- A zone's record after the dormancy test. -/
def dormancyTested (day : Nat) (r : Zone) : Zone :=
  if isFed r.state = true then
    match r.lastCommit with
    | none => { r with lastCommit := some day }
    | some d => if r.dormant = false ∧ d + r.dormancy ≤ day then { r with dormant := true } else r
  else r

theorem dormancyTest_zones (day : Nat) (z : ZoneId) (s : State) :
    (dormancyTest day z s).zones = (s.setZone z (dormancyTested day s.zones[z])).zones := by
  have still : s.zones = (s.setZone z s.zones[z]).zones := by rw [setZone_self]
  unfold dormancyTest dormancyTested
  dsimp only
  split
  · cases hlast : s.zones[z].lastCommit with
    | none => rfl
    | some d =>
      dsimp only
      split
      · rw [← hlast]; rfl
      · exact still
  · exact still

theorem dormancyTest_zone (day : Nat) (z y : ZoneId) (s : State) :
    (dormancyTest day z s).zones[y] = if y = z then dormancyTested day s.zones[y] else s.zones[y] := by
  have hget := setZone_get s z y (dormancyTested day s.zones[z])
  simp only [dormancyTest_zones]
  refine hget.trans ?_
  by_cases h : y = z
  · subst h; rfl
  · rw [if_neg h, if_neg h]

theorem rolloverZones_zone (day : Nat) (y : ZoneId) (s : State) :
    (rolloverZones day s).zones[y] = dormancyTested day s.zones[y] := by
  unfold rolloverZones
  refine runFree_reaches_once (P := fun u => u.zones[y] = dormancyTested day s.zones[y]) (Q := fun u => u.zones[y] = s.zones[y])
    (List.nodup_finRange 12) (List.mem_finRange y) rfl (fun z _ hz u hu => ?_) (fun u hu => ?_) fun z _ hz u hu => ?_
  · rw [dormancyTest_zone, if_neg (Ne.symm hz)]; exact hu
  · rw [dormancyTest_zone, if_pos rfl, hu]
  · rw [dormancyTest_zone, if_neg (Ne.symm hz)]; exact hu

theorem dormancyTested_state (day : Nat) (r : Zone) : (dormancyTested day r).state = r.state := by
  unfold dormancyTested
  split
  · split
    · rfl
    · split
      · rfl
      · rfl
  · rfl

/-! ### The cases at a rollover (R25) -/

/-- A SETTLED case whose retention has come, without job or pending statement (R37). -/
def closingAt (day retention : Nat) (c : Case) : Bool :=
  match c.settlement with
  | none => false
  | some f => decide (c.state = .settled ∧ f.day + retention ≤ day ∧ c.job = none ∧ f.statementPending = false)

theorem closingAt_eq_true {day retention : Nat} {c : Case} (h : closingAt day retention c = true) :
    c.state = .settled ∧ c.job = none ∧ ∃ f, c.settlement = some f ∧ f.day + retention ≤ day ∧ f.statementPending = false := by
  unfold closingAt at h
  cases hf : c.settlement with
  | none => rw [hf] at h; cases h
  | some f =>
    rw [hf] at h
    obtain ⟨hst, hday, hj, hp⟩ := of_decide_eq_true h
    exact ⟨hst, hj, f, rfl, hday, hp⟩

theorem closingAt_of_unsettled {day retention : Nat} {c : Case} (h : c.state ≠ .settled) : closingAt day retention c = false := by
  rw [← Bool.not_eq_true]
  exact fun hc => h (closingAt_eq_true hc).1

/-- A case that settles has its statement pending, so that it does not close (R22). -/
theorem closingAt_settled (day retention : Nat) (kind : SettlementKind) (d : Nat) (c k : Case) :
    closingAt day retention (settledCase (chainSettlement kind d k) c) = false := by
  rw [← Bool.not_eq_true]
  intro h
  obtain ⟨-, -, f, hf, -, hp⟩ := closingAt_eq_true h
  cases hf
  cases hp

/-- Between two states the records that bear a number changed, keeping it, and none of them came to close. -/
def Rewrites (day retention n : Nat) (s t : State) : Prop :=
  ∃ f : Case → Case, (∀ c, (f c).number = c.number) ∧
    (∀ c, closingAt day retention c = false → closingAt day retention (f c) = false) ∧
    t.cases = s.cases.map fun c => if c.number = n then f c else c

namespace Rewrites
variable {day retention n : Nat} {s t u : State}

theorem of_cases (h : t.cases = s.cases) : Rewrites day retention n s t :=
  ⟨fun c => c, fun _ => rfl, fun _ h => h, by rw [h]; exact ((List.map_congr_left fun c _ => ite_self c).trans (List.map_id' _)).symm⟩

theorem trans (h : Rewrites day retention n s t) (h' : Rewrites day retention n t u) : Rewrites day retention n s u := by
  obtain ⟨f, hf, hfc, hft⟩ := h
  obtain ⟨g, hg, hgc, hgt⟩ := h'
  refine ⟨fun c => g (f c), fun c => (hg _).trans (hf c), fun c hc => hgc _ (hfc c hc), ?_⟩
  rw [hgt, hft, List.map_map]
  refine List.map_congr_left fun c _ => ?_
  simp only [Function.comp]
  by_cases hn : c.number = n
  · rw [if_pos hn, if_pos ((hf c).trans hn), if_pos hn]
  · rw [if_neg hn, if_neg hn, if_neg hn]

theorem modCase (s : State) {f : Case → Case} (hf : ∀ c, (f c).number = c.number)
    (hc : ∀ c, closingAt day retention c = false → closingAt day retention (f c) = false) :
    Rewrites day retention n s (s.modCase n f) := ⟨f, hf, hc, modCase_cases s n f⟩

end Rewrites

section
variable (day retention : Nat) (s : State) (n : Nat)

theorem rewrites_settle (kind : SettlementKind) : Rewrites day retention n s (settle kind n s) :=
  ⟨_, by intro _; rfl, fun c _ => closingAt_settled day retention kind _ c c, settleWith_cases _ n s⟩

theorem rewrites_raiseReview (reason : Reason) : Rewrites day retention n s (raiseReview reason n s) := by
  unfold raiseReview
  split
  · exact .of_cases rfl
  · split
    · exact .of_cases rfl
    · exact (Rewrites.modCase s (f := fun c => { c with review := addReason c.review reason }) (by intro _; rfl)
        fun _ h => h).trans (.of_cases (reportOn_cases _ n _))

theorem rewrites_automaticTrigger : Rewrites day retention n s (automaticTrigger n s) := by
  unfold automaticTrigger
  split
  · exact .of_cases rfl
  · split
    · exact .of_cases rfl
    · split
      · exact .of_cases rfl
      · split
        · exact .modCase s (by intro _; rfl) fun _ h => h
        · split
          · exact .of_cases rfl
          · split
            · exact rewrites_raiseReview day retention s n _
            · exact rewrites_settle day retention s n _

theorem rewrites_testCase : Rewrites day retention n s (testCase n s) := by
  unfold testCase
  split
  · exact .of_cases rfl
  · split
    · exact rewrites_automaticTrigger day retention s n
    · exact .of_cases rfl

theorem rewrites_takeDue : Rewrites day retention n s (takeDue n s) := by
  unfold takeDue
  split
  · exact .of_cases rfl
  · split
    · exact .of_cases rfl
    · split
      · exact .of_cases rfl
      · have hmark : Rewrites day retention n s (s.modCase n fun c => { c with settleDue := none }) :=
          .modCase s (by intro _; rfl) fun _ h => h
        dsimp only
        split
        · exact hmark
        · split
          · split
            · exact hmark.trans (rewrites_settle day retention _ n _)
            · exact hmark.trans (.of_cases (reportOn_cases _ n _))
          · exact hmark.trans (rewrites_testCase day retention _ n)

end

section
variable {s : State} {n : Nat} {c : Case} (hc : s.findCase n = some c)
include hc

/-- A case that does not close keeps its place in the table and its master entry (R25). -/
theorem rolloverCase_kept (h : closingAt s.clock.announcedDay s.settings.retentionDays c = false) :
    (rolloverCase n s).hotlist = s.hotlist ∧ Rewrites s.clock.announcedDay s.settings.retentionDays n s (rolloverCase n s) := by
  by_cases hst : c.state = .settled
  · have hkept : retentionTest n s = s := retentionTest_of_kept hc fun f _ hf _ hday hj => by
      by_contra hp
      rw [Bool.not_eq_true] at hp
      rw [closingAt, hf] at h
      exact of_decide_eq_false h ⟨hst, hday, hj, hp⟩
    have heq : rolloverCase n s = s := by simp only [rolloverCase, hc, if_pos hst, hkept]
    rw [heq]
    exact ⟨rfl, .of_cases rfl⟩
  · by_cases hdue : c.job = none ∧ c.settleDue ≠ none
    · have heq : rolloverCase n s = takeDue n s := by simp only [rolloverCase, hc, if_neg hst, if_pos hdue]
      rw [heq]
      exact ⟨takeDue_hotlist s n, rewrites_takeDue _ _ s n⟩
    · have heq : rolloverCase n s = testCase n s := by simp only [rolloverCase, hc, if_neg hst, if_neg hdue]
      rw [heq]
      exact ⟨testCase_hotlist s n, rewrites_testCase _ _ s n⟩

/-- A case that closes leaves the table (R37). -/
theorem rolloverCase_closes (hclock : s.clock.second ≠ none)
    (h : closingAt s.clock.announcedDay s.settings.retentionDays c = true) :
    (rolloverCase n s).cases = s.cases.filter fun d => d.number ≠ c.number := by
  obtain ⟨hst, hj, f, hf, hday, hp⟩ := closingAt_eq_true h
  have heq : rolloverCase n s = endCase false n s := by
    simp only [rolloverCase, hc, if_pos hst]
    exact retentionTest_of_reached hc hclock hst hf hday hj hp
  rw [heq]
  exact endCase_cases_of_find false hc

/-- A case past its quiet end day that nothing keeps from it settles (R25, R26). -/
theorem rolloverCase_settles (hclock : s.clock.second ≠ none) (hst : c.state ≠ .settled) (hj : c.job = none)
    (hdue : c.settleDue = none) (hr : c.review = ⟨false, false, false⟩) (hg : gapCount c ≤ 64)
    (hquiet : c.quietEnd ≤ s.clock.announcedDay) :
    (rolloverCase n s).cases = s.cases.map fun d => if d.number = n then
      settledCase (chainSettlement (automaticKind s c) s.clock.announcedDay d) d else d := by
  have hnot : ¬ (c.job = none ∧ c.settleDue ≠ none) := fun h => h.2 hdue
  have heq : rolloverCase n s = settle (automaticKind s c) n s := by
    simp only [rolloverCase, hc, if_neg hst, if_neg hnot]
    rw [testCase_of_due hc (.inl hquiet), automaticTrigger_settles hc hst hclock hj hr hg]
  rw [heq]
  exact settleWith_cases _ n s

end

/-- A case that the rollover settles: past its quiet end day, and nothing keeps it (R25, R26). -/
def QuietlyDue (day : Nat) (c : Case) : Prop :=
  c.state ≠ .settled ∧ c.job = none ∧ c.settleDue = none ∧ c.review = ⟨false, false, false⟩ ∧ gapCount c ≤ 64 ∧ c.quietEnd ≤ day

/-- The case as the rollover settles it. -/
def quietlySettled (zones : Vector Zone 12) (day : Nat) (c : Case) : Case :=
  settledCase (chainSettlement (if closedAll zones c.zonesClosed = true ∧ gapCount c = 0 then .exact else .presumed) day c) c

/-- A change of the one case that bears a number, in a table cut at that case. -/
theorem map_at {before rest : List Case} {c : Case} (f : Case → Case)
    (hrise : (before ++ c :: rest).Pairwise fun a b => a.number < b.number) :
    ((before ++ c :: rest).map fun d => if d.number = c.number then f d else d) = before ++ f c :: rest := by
  obtain ⟨-, hrest, hbefore⟩ := List.pairwise_append.mp hrise
  have hother : ∀ l : List Case, (∀ d ∈ l, d.number ≠ c.number) →
      (l.map fun d => if d.number = c.number then f d else d) = l := fun l hl =>
    (List.map_congr_left fun d hd => if_neg (hl d hd)).trans (List.map_id' _)
  rw [List.map_append, List.map_cons, if_pos rfl, hother before fun d hd => Nat.ne_of_lt (hbefore d hd c List.mem_cons_self),
    hother rest fun d hd => Nat.ne_of_gt ((List.pairwise_cons.mp hrest).1 d hd)]

theorem filter_at {before rest : List Case} {c : Case}
    (hrise : (before ++ c :: rest).Pairwise fun a b => a.number < b.number) :
    ((before ++ c :: rest).filter fun d => d.number ≠ c.number) = before ++ rest := by
  obtain ⟨-, hrest, hbefore⟩ := List.pairwise_append.mp hrise
  rw [List.filter_append, List.filter_cons_of_neg (by simp),
    List.filter_eq_self.mpr fun d hd => decide_eq_true (Nat.ne_of_lt (hbefore d hd c List.mem_cons_self)),
    List.filter_eq_self.mpr fun d hd => decide_eq_true (Nat.ne_of_gt ((List.pairwise_cons.mp hrest).1 d hd))]

/-- The table after a rollover pass, of the cases `l` as they stood (R25, R37). -/
def RolledTo (zones : Vector Zone 12) (day retention : Nat) (l l' : List Case) : Prop :=
  l'.map (fun c => c.number) = (l.filter fun c => !closingAt day retention c).map (fun c => c.number) ∧
    (∀ c ∈ l, QuietlyDue day c → quietlySettled zones day c ∈ l') ∧
    ((∀ c ∈ l, closingAt day retention c = false) → ∀ d ∈ l', closingAt day retention d = false)

/-- The pass goes through the cases in order, each against the table as the ones before left it. -/
theorem rolloverCase_foldl {day retention : Nat} {zones : Vector Zone 12} (l : List Case) {u : State} {before : List Case}
    (hu : u.cases = before ++ l) (hrise : NumbersRise u) (hclock : u.clock.second ≠ none) (hday : u.clock.announcedDay = day)
    (hretention : u.settings.retentionDays = retention) (hzones : u.zones = zones) :
    let t := (l.map fun c => c.number).foldl (fun v n => rolloverCase n v) u
    ((∀ c ∈ l, closingAt day retention c = false) → t.hotlist = u.hotlist) ∧
      ∃ l', t.cases = before ++ l' ∧ RolledTo zones day retention l l' := by
  induction l generalizing u before with
  | nil => exact ⟨fun _ => rfl, [], hu, rfl, fun _ h => (List.not_mem_nil h).elim, fun _ _ h => (List.not_mem_nil h).elim⟩
  | cons c rest ih =>
    have hpairwise : (before ++ c :: rest).Pairwise fun a b => a.number < b.number := hu ▸ hrise
    have hfind : u.findCase c.number = some c := findCase_of_mem hrise (hu ▸ List.mem_append_right _ List.mem_cons_self)
    have next {v : List Case} (hv : (rolloverCase c.number u).cases = v ++ rest) (hvrise : NumbersRise (rolloverCase c.number u)) :=
      ih hv hvrise (by rw [rolloverCase_clock]; exact hclock) (by rw [rolloverCase_clock]; exact hday)
        (by rw [rolloverCase_settings]; exact hretention) (by rw [rolloverCase_zones]; exact hzones)
    rw [List.map_cons, List.foldl_cons]
    cases hclosing : closingAt day retention c with
    | true =>
      have hcases : (rolloverCase c.number u).cases = before ++ rest := by
        rw [rolloverCase_closes hfind hclock (by rw [hday, hretention]; exact hclosing), hu]
        exact filter_at hpairwise
      have hvrise : NumbersRise (rolloverCase c.number u) := by
        unfold NumbersRise
        rw [hcases]
        exact hpairwise.sublist (List.Sublist.append_left (List.sublist_cons_self c rest) before)
      obtain ⟨-, l', hl', hnumbers, hsettles, -⟩ := next hcases hvrise
      have hnone : ¬ ∀ d ∈ c :: rest, closingAt day retention d = false := fun h =>
        Bool.false_ne_true ((h c List.mem_cons_self).symm.trans hclosing)
      refine ⟨fun h => (hnone h).elim, l', hl', ?_, fun d hd hdue => ?_, fun h => (hnone h).elim⟩
      · rw [hnumbers, List.filter_cons_of_neg (by rw [hclosing]; exact Bool.false_ne_true)]
      · rcases List.mem_cons.mp hd with rfl | hd
        · exact (hdue.1 (closingAt_eq_true hclosing).1).elim
        · exact hsettles d hd hdue
    | false =>
      obtain ⟨hhotlist, f, hnumber, hkeeps, hf⟩ := rolloverCase_kept hfind (by rw [hday, hretention]; exact hclosing)
      rw [hday, hretention] at hkeeps
      rw [hu] at hf
      have hcases := hf.trans (map_at f hpairwise)
      have hvrise : NumbersRise (rolloverCase c.number u) := numbersRise_map hrise (f := fun d => if d.number = c.number then f d else d)
        (fun d => by
          split
          · exact hnumber d
          · rfl) (hu ▸ hf)
      obtain ⟨hkept, l', hl', hnumbers, hsettles, hopen⟩ := next (hcases.trans (List.append_cons before (f c) rest)) hvrise
      refine ⟨fun h => ?_, f c :: l', hl'.trans (List.append_cons before (f c) l').symm, ?_, fun d hd hdue => ?_, fun h d hd => ?_⟩
      · exact (hkept fun d hd => h d (List.mem_cons_of_mem _ hd)).trans hhotlist
      · rw [List.map_cons, hnumbers, List.filter_cons_of_pos (by rw [hclosing]; rfl), List.map_cons, hnumber]
      · rcases List.mem_cons.mp hd with rfl | hd
        · obtain ⟨hst, hj, hmark, hr, hg, hquiet⟩ := hdue
          have hsettled := rolloverCase_settles hfind hclock hst hj hmark hr hg (by rw [hday]; exact hquiet)
          rw [hu, map_at _ hpairwise, hcases, hday] at hsettled
          have hrecord := (List.cons.inj (List.append_cancel_left hsettled)).1
          have hkind : automaticKind u d = if closedAll zones d.zonesClosed = true ∧ gapCount d = 0 then .exact else .presumed := by
            rw [← hzones]; rfl
          rw [hrecord, hkind]
          exact List.mem_cons_self
        · exact List.mem_cons_of_mem _ (hsettles d hd hdue)
      · rcases List.mem_cons.mp hd with rfl | hd
        · exact hkeeps c hclosing
        · exact hopen (fun x hx => h x (List.mem_cons_of_mem _ hx)) d hd

/-! ### The three blocks of a rollover (R191) -/

theorem rolloverCut_hotlist (s : State) : (rolloverCut s).hotlist = cutIfDue 1 s.hotlist := by
  unfold rolloverCut cutIfDue
  by_cases h : s.hotlist.packaging = .idle ∧ 0 < s.hotlist.pending.length
  · have hne : s.hotlist.pending ≠ [] := List.length_pos_iff.mp h.2
    rw [if_pos h]
    by_cases hg : s.hotlist.generation < max32
    · rw [if_pos ⟨h.1, h.2, hne, hg⟩, startCut_eq s h.1 hne hg, requestHotlist_eq]
    · rw [if_neg fun hall => hg hall.2.2.2, startCut, if_neg]
      simp [canCut, hg]
  · rw [if_neg h, if_neg fun hall => h ⟨hall.1, hall.2.1⟩]

theorem quietlySettled_congr {v w : Vector Zone 12} (h : ∀ z : ZoneId, v[z].state = w[z].state) (day : Nat) (c : Case) :
    quietlySettled v day c = quietlySettled w day c := by
  have hclosed : closedAll v c.zonesClosed = closedAll w c.zonesClosed := closedAll_congr (fun z => by rw [h z]) _
  unfold quietlySettled
  rw [hclosed]

/-- The blocks that take a rollover, each once in an open order. -/
def rolledOver (s : State) : State := s.runFree [.cases, .hotlist, .zones] deliverRollover

theorem blocks_nodup : [RolloverBlock.cases, .hotlist, .zones].Nodup := by decide

section
variable (s : State)

theorem rolledOver_zone (y : ZoneId) : (rolledOver s).zones[y] = dormancyTested s.clock.announcedDay s.zones[y] := by
  have hother {b : RolloverBlock} (hb : b ≠ .zones) (u : State) : (deliverRollover b u).zones = u.zones := by
    cases b with
    | cases => exact rolloverCases_zones u
    | hotlist => exact rolloverCut_zones u
    | zones => exact absurd rfl hb
  refine runFree_reaches_once (P := fun u => u.zones[y] = dormancyTested s.clock.announcedDay s.zones[y])
    (Q := fun u => u.zones = s.zones ∧ u.clock = s.clock) (a := .zones) blocks_nodup (by decide) ⟨rfl, rfl⟩
    (fun b _ hb u hu => ⟨(hother hb u).trans hu.1, (deliverRollover_clock u b).trans hu.2⟩) (fun u hu => ?_) fun b _ hb u hu => ?_
  · refine (rolloverZones_zone u.clock.announcedDay y u).trans ?_
    simp only [hu.1, hu.2]
  · simp only [hother hb u]; exact hu

variable {s} (hs : NumbersRise s) (hclock : s.clock.second ≠ none)
include hs hclock

theorem rolledOver_cases :
    RolledTo s.zones s.clock.announcedDay s.settings.retentionDays s.cases (rolledOver s).cases := by
  have hother {b : RolloverBlock} (hb : b ≠ .cases) (u : State) : (deliverRollover b u).cases = u.cases := by
    cases b with
    | cases => exact absurd rfl hb
    | hotlist => exact rolloverCut_cases u
    | zones => exact rolloverZones_cases u _
  have hstate (b : RolloverBlock) (u : State) (z : ZoneId) : (deliverRollover b u).zones[z].state = u.zones[z].state := by
    cases b with
    | cases => simp only [deliverRollover, rolloverCases_zones]
    | hotlist => simp only [deliverRollover, rolloverCut_zones]
    | zones =>
      show (rolloverZones u.clock.announcedDay u).zones[z].state = _
      rw [rolloverZones_zone, dormancyTested_state]
  refine runFree_reaches_once
    (P := fun u => RolledTo s.zones s.clock.announcedDay s.settings.retentionDays s.cases u.cases)
    (Q := fun u => u.cases = s.cases ∧ u.clock = s.clock ∧ u.settings = s.settings ∧ ∀ z : ZoneId, u.zones[z].state = s.zones[z].state)
    (a := .cases) blocks_nodup (by decide) ⟨rfl, rfl, rfl, fun _ => rfl⟩ (fun b _ hb u hu => ?_) (fun u hu => ?_) fun b _ hb u hu => ?_
  · obtain ⟨hcases, hc, hset, hz⟩ := hu
    exact ⟨(hother hb u).trans hcases, (deliverRollover_clock u b).trans hc, (deliverRollover_settings u b).trans hset,
      fun z => (hstate b u z).trans (hz z)⟩
  · obtain ⟨hcases, hc, hset, hz⟩ := hu
    obtain ⟨-, l', hl', hnumbers, hsettles, hopen⟩ := rolloverCase_foldl (day := s.clock.announcedDay)
      (retention := s.settings.retentionDays) (u := u) (before := []) s.cases hcases (by unfold NumbersRise; rw [hcases]; exact hs)
      (by rw [hc]; exact hclock) (by rw [hc]) (by rw [hset]) rfl
    have hl : (deliverRollover .cases u).cases = l' := by
      show ((u.cases.map fun c => c.number).foldl (fun acc n => rolloverCase n acc) u).cases = l'
      rw [hcases]
      exact hl'
    rw [hl]
    exact ⟨hnumbers, fun c hm hdue => quietlySettled_congr hz _ c ▸ hsettles c hm hdue, hopen⟩
  · rw [hother hb u]; exact hu

theorem rolledOver_hotlist (hopen : ∀ c ∈ s.cases, closingAt s.clock.announcedDay s.settings.retentionDays c = false) :
    (rolledOver s).hotlist = cutIfDue 1 s.hotlist := by
  let Open (u : State) : Prop := NumbersRise u ∧ u.clock = s.clock ∧ u.settings = s.settings ∧
    ∀ c ∈ u.cases, closingAt s.clock.announcedDay s.settings.retentionDays c = false
  have keeps {b : RolloverBlock} (hb : b ≠ .hotlist) (u : State) (hu : Open u) :
      (deliverRollover b u).hotlist = u.hotlist ∧ Open (deliverRollover b u) := by
    obtain ⟨hrise, hc, hset, hall⟩ := hu
    cases b with
    | cases =>
      obtain ⟨hkept, l', hl', -, -, hstill⟩ := rolloverCase_foldl (day := s.clock.announcedDay)
        (retention := s.settings.retentionDays) (u := u) (before := []) u.cases rfl hrise (by rw [hc]; exact hclock) (by rw [hc])
        (by rw [hset]) rfl
      have hl : (deliverRollover .cases u).cases = l' := hl'
      exact ⟨hkept hall, (keeps_rolloverCases u).rise hrise, (deliverRollover_clock u _).trans hc,
        (deliverRollover_settings u _).trans hset, hl ▸ hstill hall⟩
    | hotlist => exact absurd rfl hb
    | zones =>
      have hcases : (deliverRollover .zones u).cases = u.cases := rolloverZones_cases u _
      refine ⟨rolloverZones_hotlist u _, ?_, (deliverRollover_clock u _).trans hc, (deliverRollover_settings u _).trans hset,
        by rw [hcases]; exact hall⟩
      unfold NumbersRise
      rw [hcases]
      exact hrise
  refine (runFree_reaches_once (P := fun u => u.hotlist = cutIfDue 1 s.hotlist ∧ Open u) (Q := fun u => u.hotlist = s.hotlist ∧ Open u)
    (a := .hotlist) blocks_nodup (by decide) ⟨rfl, hs, rfl, rfl, hopen⟩ (fun b _ hb u hu => ?_) (fun u hu => ?_)
    fun b _ hb u hu => ?_).1
  · exact ⟨(keeps hb u hu.2).1.trans hu.1, (keeps hb u hu.2).2⟩
  · obtain ⟨hh, hrise, hc, hset, hall⟩ := hu
    have hcases : (deliverRollover .hotlist u).cases = u.cases := rolloverCut_cases u
    refine ⟨(rolloverCut_hotlist u).trans (by rw [hh]), ?_, (deliverRollover_clock u _).trans hc,
      (deliverRollover_settings u _).trans hset, by rw [hcases]; exact hall⟩
    unfold NumbersRise
    rw [hcases]
    exact hrise
  · exact ⟨(keeps hb u hu.2).1.trans hu.1, (keeps hb u hu.2).2⟩

end

/-! ### The tick (R191) -/

/-- The clock after a second of running. -/
def tickedClock (now : Nat) (c : Clock) : Clock :=
  ⟨some (min 4294967295 (now + 1)), if 600 ≤ c.floorAge then now else c.floor, if 600 ≤ c.floorAge then 1 else c.floorAge + 1,
    c.announcedDay⟩

theorem tickClock_writeFloor {c : Clock} {now : Nat} (h : c.second = some now) : tickClock (writeFloor c) = tickedClock now c := by
  unfold tickedClock
  by_cases hage : 600 ≤ c.floorAge
  · rw [writeFloor_of_due h hage, if_pos hage, if_pos hage]
    simp only [tickClock, h]
    rfl
  · rw [writeFloor_of_not_due fun hdue => hage hdue.2, if_neg hage, if_neg hage]
    simp only [tickClock, h]
    rfl

theorem tick_of_set {s : State} {now : Nat} (h : s.clock.second = some now) :
    tick s = stampFloor { s with clock := tickedClock now s.clock } (rolloverTest { s with clock := tickedClock now s.clock }) := by
  have hclock : s.modClock (fun c => tickClock (writeFloor c)) = { s with clock := tickedClock now s.clock } := by
    rw [← tickClock_writeFloor h]
    rfl
  unfold tick
  rw [h]
  dsimp only
  rw [hclock]
  rfl

/-- Settles O54: the floor write, the second, and the rollover's three blocks. -/
theorem clockTicksAndRollsOver : Obligations.ClockTicksAndRollsOver := by
  intro s
  refine ⟨fun hunset => ?unset, fun now hnow => ?running⟩
  case unset =>
    have hfloor : writeFloor s.clock = s.clock := writeFloor_of_not_due (by rw [hunset]; exact fun h => Bool.false_ne_true h.1)
    have htick : tick s = s := by simp only [tick, hunset]
    refine ⟨congrArg _ htick, ?_⟩
    show Host.Outcome.next { s with clock := writeFloor s.clock } = _
    rw [hfloor]
  case running =>
    dsimp only
    let u : State := { s with clock := tickedClock now s.clock }
    have hcomputed : computedDay (min 4294967295 (now + 1)) s.settings.rolloverMinute =
        (min 4294967295 (now + 1) - 60 * s.settings.rolloverMinute) / 86400 := computedDay_eq _ _
    have hexec : exec .clockTick s = .next (stampFloor u (rolloverTest u)) := congrArg _ (tick_of_set hnow)
    refine ⟨?floor, fun hday => ?sameDay, fun hday htable => ?newDay⟩
    case floor =>
      have hwrite : writeFloor s.clock = if 600 ≤ s.clock.floorAge then { s.clock with floor := now, floorAge := 0 } else s.clock := by
        by_cases hage : 600 ≤ s.clock.floorAge
        · rw [writeFloor_of_due hnow hage, if_pos hage]
        · rw [writeFloor_of_not_due fun hdue => hage hdue.2, if_neg hage]
      rw [← hwrite]
      rfl
    case sameDay =>
      have hnot : rolloverDue u = false := by
        rw [← Bool.not_eq_true, rolloverDue_iff]
        rintro ⟨t, ht, hlt⟩
        cases ht
        exact Nat.not_lt.mpr hday hlt
      rw [hexec, rolloverTest_of_not_due hnot, stampFloor_self]
      rfl
    case newDay =>
      have hdue : rolloverDue u = true := (rolloverDue_iff u).mpr ⟨_, rfl, hday⟩
      let v : State := moveDay u
      have hvclock : v.clock = { tickedClock now s.clock with
          announcedDay := (min 4294967295 (now + 1) - 60 * s.settings.rolloverMinute) / 86400 } := by
        show (moveDay u).clock = _
        rw [moveDay_clock]
        show Clock.mk _ _ _ (max s.clock.announcedDay (computedDay _ _)) = _
        rw [hcomputed, Nat.max_eq_right (Nat.le_of_lt hday)]
      have hvset : v.clock.second ≠ none := by rw [hvclock]; exact Option.some_ne_none _
      have hvday : v.clock.announcedDay = (min 4294967295 (now + 1) - 60 * s.settings.rolloverMinute) / 86400 := by rw [hvclock]
      have hrolled : rolloverTest u = rolledOver v := by
        unfold rolloverTest rolledOver
        rw [dueBlocks, if_pos hdue]
      have hrise : NumbersRise v := by
        unfold NumbersRise
        rw [show v.cases = s.cases from moveDay_cases u]
        exact htable.rise
      have hzone := rolledOver_zone v
      obtain ⟨hnumbers, hsettles, -⟩ := rolledOver_cases hrise hvset
      have hhotlist := rolledOver_hotlist hrise hvset
      have hvcases : v.cases = s.cases := moveDay_cases u
      have hvsettings : v.settings = s.settings := moveDay_settings u
      have hvzones : v.zones = s.zones := moveDay_zones u
      have hvhotlist : v.hotlist = s.hotlist := moveDay_hotlist u
      rw [hvday, hvsettings, hvcases] at hnumbers hhotlist
      rw [hvday, hvzones, hvcases] at hsettles
      rw [hvhotlist] at hhotlist
      rw [hvday] at hzone
      refine ⟨stampFloor u (rolloverTest u), hexec, ?clock, fun z => ?zones, fun c hc hst hj hmark hr hg hquiet => ?settled, ?numbers,
        fun hopen => ?hotlist, ?frame⟩
      case clock =>
        have hclock : (rolloverTest u).clock = v.clock := (rolloverTest_clock u).trans (moveDay_clock u).symm
        rcases stampFloor_cases u (rolloverTest u) with e | ⟨n, hn, -, e⟩
        · rw [e, hclock, hvclock]
          exact .inl rfl
        · rw [hclock, hvclock] at hn
          cases hn
          rw [e]
          refine .inr ?_
          dsimp only
          rw [hclock, hvclock]
          rfl
      case zones =>
        have h := hzone z
        simp only [hvzones] at h
        simp only [stampFloor_zones, hrolled]
        exact h
      case settled =>
        rw [stampFloor_cases_eq, hrolled]
        exact hsettles c hc ⟨hst, hj, hmark, hr, hg, hquiet⟩
      case numbers =>
        rw [stampFloor_cases_eq, hrolled]
        exact hnumbers
      case hotlist =>
        rw [stampFloor_hotlist, hrolled]
        exact hhotlist hopen
      case frame =>
        refine state_eq ?_ rfl rfl rfl rfl ?_ rfl
        · simp only [State.base, stampFloor_terminal, stampFloor_links, stampFloor_nextCase, stampFloor_concession,
            stampFloor_settings, stampFloor_pending, rolloverTest_terminal, rolloverTest_links, rolloverTest_nextCase,
            rolloverTest_concession, rolloverTest_settings, rolloverTest_pending, u]
        · rw [stampFloor_ports, rolloverTest_ports]

end Sys2Proof.Machine
end

section
/-! PROOF. The restarts: the answer that calls for one, the erased store, and what is kept (R196, R185, R43, R114, R138, R164, R173). -/

namespace Sys2Proof.Machine

/-! ### What taking a settle due mark can do (R35) -/

/-- Taking a mark changes records of the case, reports it, and settles it, in some order. -/
theorem takeDue_by {R : State → State → Prop} (hrefl : ∀ u, R u u) (htrans : ∀ {u v w}, R u v → R v w → R u w)
    (hmod : ∀ n u (f : Case → Case), R u (u.modCase n f)) (hreport : ∀ n u body, R u (reportOn n body u))
    (hsettle : ∀ n u kind, R u (settle kind n u)) (n : Nat) (u : State) : R u (takeDue n u) := by
  have hraise (u : State) (reason : Reason) : R u (raiseReview reason n u) := by
    unfold raiseReview
    split
    · exact hrefl u
    · split
      · exact hrefl u
      · exact htrans (hmod n u _) (hreport n _ _)
  have htrigger (u : State) : R u (automaticTrigger n u) := by
    unfold automaticTrigger
    split
    · exact hrefl u
    · split
      · exact hrefl u
      · split
        · exact hrefl u
        · split
          · exact hmod n u _
          · split
            · exact hrefl u
            · split
              · exact hraise u _
              · exact hsettle n u _
  have htest (u : State) : R u (testCase n u) := by
    unfold testCase
    split
    · exact hrefl u
    · split
      · exact htrigger u
      · exact hrefl u
  unfold takeDue
  split
  · exact hrefl u
  · split
    · exact hrefl u
    · split
      · exact hrefl u
      · have hmark := hmod n u fun c => { c with settleDue := none }
        dsimp only
        split
        · exact hmark
        · split
          · split
            · exact htrans hmark (hsettle n _ _)
            · exact htrans hmark (hreport n _ _)
          · exact htrans hmark (htest _)

theorem takeDue_of_unset {u : State} (n : Nat) (h : u.clock.second = none) : takeDue n u = u := by
  unfold takeDue
  split
  · rfl
  · split
    · rfl
    · exact if_pos h

theorem autoTriggered_unmarked {b : Bool} {s : State} {c : Case} (hj : c.job = none) (hd : c.settleDue = none) :
    (autoTriggered b s c).settleDue = none := by
  unfold autoTriggered
  split
  · exact hd
  · split
    · next h => exact absurd hj h
    · split
      · exact hd
      · split
        · exact hd
        · rfl

section
variable {u : State} {n : Nat} {c : Case} (hc : u.findCase n = some c)
include hc

theorem takeDue_of_settled {due : Due} (hd : c.settleDue = some due) (hclock : u.clock.second ≠ none) (hst : c.state = .settled) :
    takeDue n u = unmarked n u := by
  simp only [takeDue, hc, hd, if_neg hclock, if_pos hst]
  rfl

theorem mem_map_found (f : Case → Case) : f c ∈ u.cases.map fun d => if d.number = n then f d else d :=
  List.mem_map.mpr ⟨c, findCase_mem hc, if_pos (findCase_number hc)⟩

/-- A case without a job loses its mark (R35). -/
theorem takeDue_clears {due : Due} (hs : NumbersRise u) (hclock : u.clock.second ≠ none) (hj : c.job = none)
    (hd : c.settleDue = some due) : ∃ d ∈ (takeDue n u).cases, d.number = n ∧ d.settleDue = none := by
  have hn := findCase_number hc
  let d : Case := { c with settleDue := none }
  have hfind : (unmarked n u).findCase n = some d := findCase_unmarked hc
  have hmarked : ∃ d ∈ (unmarked n u).cases, d.number = n ∧ d.settleDue = none := ⟨d, findCase_mem hfind, hn, rfl⟩
  have hrise : NumbersRise (unmarked n u) := numbersRise_map hs (fun x => by split <;> rfl) rfl
  by_cases hst : c.state = .settled
  · rw [takeDue_of_settled hc hd hclock hst]
    exact hmarked
  cases due with
  | forced =>
    by_cases hconf : c.conflicts = []
    · rw [takeDue_forced hc hd hclock hst hconf]
      exact ⟨_, findCase_mem (findCase_settle hfind), hn, rfl⟩
    · rw [takeDue_lapses hc hd hclock hst hconf]
      exact hmarked
  | automatic =>
    rw [takeDue_automatic hc hd hclock hst]
    by_cases hdue : d.quietEnd ≤ (unmarked n u).clock.announcedDay ∨ closedAll (unmarked n u).zones d.zonesClosed = true
    · rw [testCase_of_due hfind hdue, automaticTrigger_cases hrise]
      refine ⟨_, mem_map_found hfind _, ?_, ?_⟩
      · rw [if_neg hst, autoTriggered_number]; exact hn
      · rw [if_neg hst]; exact autoTriggered_unmarked hj rfl
    · rw [testCase_of_not_due hfind hdue]
      exact hmarked

end

/-! ### The reports and the statement queue over the last tasks of a restart (R185, R173) -/

theorem runRestartTask_reports (t : RestartTask) (u : State) : ∃ l, (runRestartTask t u).channels = withReports l u.channels := by
  have same {v : State} (h : v.channels = u.channels) : ∃ l, v.channels = withReports l u.channels := ⟨[], h⟩
  cases t with
  | statement => exact same (requestStatement_channels u)
  | cut => exact same (autoCut_channels u)
  | due n =>
    refine takeDue_by (R := fun u v => ∃ l, v.channels = withReports l u.channels) (fun _ => ⟨[], rfl⟩) ?_ (fun _ _ _ => ⟨[], rfl⟩)
      (fun n u body => ?_) (fun n u kind => ⟨[], settleWith_channels u _ n⟩) n u
    · rintro u v w ⟨l, hl⟩ ⟨m, hm⟩
      exact ⟨l ++ m, by rw [hm, hl, withReports_append]⟩
    · cases hc : u.findCase n with
      | none => exact ⟨[], by simp only [reportOn, hc]; rfl⟩
      | some c => exact ⟨[toOwner u c (body c)], by rw [reportOn_of_find _ hc, caseReport_eq]; rfl⟩

theorem runRestartTask_queue (t : RestartTask) (u : State) :
    ∃ l, (runRestartTask t u).signing.queue = u.signing.queue ++ l := by
  have same {v : State} (h : v.signing.queue = u.signing.queue) : ∃ l, v.signing.queue = u.signing.queue ++ l :=
    ⟨[], by rw [h, List.append_nil]⟩
  cases t with
  | statement => exact same (requestStatement_queue u)
  | cut => exact same (autoCut_queue u)
  | due n =>
    refine takeDue_by (R := fun u v => ∃ l, v.signing.queue = u.signing.queue ++ l) (fun _ => ⟨[], (List.append_nil _).symm⟩) ?_
      (fun _ _ _ => ⟨[], (List.append_nil _).symm⟩) (fun n u body => ⟨[], ?_⟩) (fun n u kind => ⟨[n], ?_⟩) n u
    · rintro u v w ⟨l, hl⟩ ⟨m, hm⟩
      exact ⟨l ++ m, by rw [hm, hl, List.append_assoc]⟩
    · rw [reportOn_signing, List.append_nil]
    · rw [settle, settleWith_queued]
      exact statementsQueued_queue n _

/-- A report behind another leaves it at the head of its channel (R183). -/
theorem withReports_head (l : List (Fin 4 × Report)) {v : Vector Channel 4} {c : Fin 4} {r : Report}
    (h : v[c].queue.head? = some r) : (withReports l v)[c].queue.head? = some r := by
  induction l generalizing v with
  | nil => exact h
  | cons x rest ih =>
    refine ih (v := withReport x.1 x.2 v) ?_
    unfold withReport
    by_cases hx : c = x.1
    · subst hx
      have hpush : (pushReport x.2 v[x.1]).queue.head? = some r := by
        unfold pushReport
        split
        · simp only [List.head?_append, h]; rfl
        · exact h
      simpa using hpush
    · have hne : ¬ x.1.val = c.val := fun e => hx (Fin.ext e.symm)
      simpa [Vector.getElem_set, hne] using h

end Sys2Proof.Machine
end

section
/-! PROOF. What the last tasks of a restart leave in the case table, the hotlist unit and the signing unit, in any order (R43, R114,
R173). -/

namespace Sys2Proof.Machine

/-! ### The signing unit (R173) -/

/-- Who has asked a unit that started without a grantee: the statement member, the hotlist member, or both in one of two orders. -/
def AskedShape (statement hotlist : Bool) (u : Signing) : Prop :=
  match statement, hotlist with
  | false, false => u = { Signing.fresh with queue := u.queue }
  | true, false => u.grantee = some .statement ∧ u.waiting = {}
  | false, true => u.grantee = some .hotlist ∧ u.waiting = {}
  | true, true =>
    (u.grantee = some .statement ∧ u.waiting = setWaiting .hotlist true {}) ∨
      (u.grantee = some .hotlist ∧ u.waiting = setWaiting .statement true {})

section
variable {u : Signing}

/-- The numbers in the queue are not part of who has asked. -/
theorem askedShape_queue {a b : Bool} (h : AskedShape a b u) (l : List Nat) : AskedShape a b { u with queue := l } := by
  cases a <;> cases b
  case false.false =>
    show { u with queue := l } = { Signing.fresh with queue := l }
    rw [show u = _ from h]
  all_goals exact h

theorem askedShape_statement {b : Bool} (h : AskedShape false b u) (c : Option Computation) :
    AskedShape true b (asked .statement c u) := by
  unfold asked
  cases b with
  | false =>
    rw [show u = _ from h]
    exact ⟨rfl, rfl⟩
  | true =>
    obtain ⟨hg, hw⟩ := h
    rw [if_neg (by rw [hg]; exact Option.some_ne_none _)]
    exact .inr ⟨hg, congrArg (setWaiting .statement true) hw⟩

theorem askedShape_hotlist {a : Bool} (h : AskedShape a false u) (c : Option Computation) :
    AskedShape a true (asked .hotlist c u) := by
  unfold asked
  cases a with
  | false =>
    rw [show u = _ from h]
    exact ⟨rfl, rfl⟩
  | true =>
    obtain ⟨hg, hw⟩ := h
    rw [if_neg (by rw [hg]; exact Option.some_ne_none _)]
    exact .inl ⟨hg, congrArg (setWaiting .hotlist true) hw⟩

theorem statementAsked_iff {a b : Bool} (h : AskedShape a b u) :
    a = true ↔ u.waiting.statement = true ∨ u.grantee = some .statement := by
  cases a <;> cases b
  case false.false => rw [show u = _ from h]; simp [Signing.fresh]
  case true.false => simp [h.1]
  case false.true => simp [h.1, h.2]
  case true.true =>
    rcases h with ⟨hg, hw⟩ | ⟨hg, hw⟩
    · simp [hg]
    · simp [hw, setWaiting]

end

/-- Over the last tasks of a restart: a started cut has asked, and the statement member has not asked for nothing. -/
def MayAsk (v : State) : Prop :=
  ∃ a, AskedShape a (decide (v.hotlist.packaging = .packaging)) v.signing ∧ (a = true → v.signing.queue ≠ [])

/-- And a statement queue that is not empty has asked too. -/
def HasAsked (v : State) : Prop :=
  AskedShape (decide (v.signing.queue ≠ [])) (decide (v.hotlist.packaging = .packaging)) v.signing

theorem HasAsked.mayAsk {v : State} (h : HasAsked v) : MayAsk v := ⟨_, h, of_decide_eq_true⟩

theorem MayAsk.hasAsked {v : State} (h : MayAsk v) (hasks : v.signing.queue ≠ [] →
    v.signing.waiting.statement = true ∨ v.signing.grantee = some .statement) : HasAsked v := by
  obtain ⟨a, hshape, hqueue⟩ := h
  have ha : decide (v.signing.queue ≠ []) = a := by
    cases a with
    | true => exact decide_eq_true (hqueue rfl)
    | false => exact decide_eq_false fun hne => Bool.false_ne_true ((statementAsked_iff hshape).mpr (hasks hne))
  unfold HasAsked
  rw [ha]
  exact hshape

/-- A change that keeps both. -/
def KeepsAsked (v w : State) : Prop := (MayAsk v → MayAsk w) ∧ (HasAsked v → HasAsked w)

theorem KeepsAsked.of_eq {v w : State} (hs : w.signing = v.signing) (hh : w.hotlist = v.hotlist) : KeepsAsked v w := by
  unfold KeepsAsked MayAsk HasAsked
  rw [hs, hh]
  exact ⟨id, id⟩

theorem requestStatement_asks {v : State} (h : MayAsk v) : HasAsked (requestStatement v) := by
  rw [requestStatement_eq]
  split
  · next hnot => exact h.hasAsked fun hne => hnot.resolve_left hne
  · next hasks =>
    obtain ⟨a, hshape, -⟩ := h
    have ha : a = false := by
      rw [← Bool.not_eq_true]
      exact fun ha => hasks (.inr ((statementAsked_iff hshape).mp ha))
    subst ha
    have hqueue : decide ((asked .statement (headStatement v) v.signing).queue ≠ []) = true :=
      decide_eq_true fun he => hasks (.inl (by simpa using he))
    unfold HasAsked
    rw [hqueue]
    exact askedShape_statement hshape _

theorem settleWith_asks (figures : Nat → Case → Settlement) (n : Nat) {v : State} (h : MayAsk v) :
    HasAsked (settleWith figures n v) := by
  refine requestStatement_asks (v := queuedAfter _ n v) ?_
  obtain ⟨a, hshape, -⟩ := h
  exact ⟨a, askedShape_queue hshape _, fun _ => List.append_ne_nil_of_right_ne_nil _ (List.cons_ne_nil n [])⟩

theorem keepsAsked_takeDue (n : Nat) (v : State) : KeepsAsked v (takeDue n v) :=
  takeDue_by (R := KeepsAsked) (fun _ => ⟨id, id⟩) (fun h h' => ⟨h'.1 ∘ h.1, h'.2 ∘ h.2⟩) (fun _ _ _ => .of_eq rfl rfl)
    (fun n v body => .of_eq (reportOn_signing v n body) (reportOn_hotlist v n body))
    (fun n _ kind => ⟨fun h => (settleWith_asks (chainSettlement kind) n h).mayAsk,
      fun h => settleWith_asks (chainSettlement kind) n h.mayAsk⟩) n v

/-- A cut that starts asks the signing unit (R106). -/
theorem cutAsked_shape (threshold : Nat) (h : Hotlist) {a : Bool} {u : Signing}
    (hu : AskedShape a (decide (h.packaging = .packaging)) u) :
    AskedShape a (decide ((cutIfDue threshold h).packaging = .packaging)) (cutAsked h (cutIfDue threshold h) u) := by
  by_cases hcut : h.packaging = .idle ∧ threshold ≤ h.pending.length ∧ h.pending ≠ [] ∧ h.generation < max32
  · have hdue : cutIfDue threshold h = { h with pending := markTaken 64 h.pending, packaging := .packaging } := if_pos hcut
    rw [hdue]
    unfold cutAsked
    rw [if_pos ⟨hcut.1, rfl⟩]
    rw [hcut.1] at hu
    exact askedShape_hotlist hu _
  · rw [show cutIfDue threshold h = h from if_neg hcut, cutAsked_self]
    exact hu

theorem keepsAsked_autoCut (v : State) : KeepsAsked v (autoCut v) := by
  have hqueue := autoCut_queue v
  unfold KeepsAsked MayAsk HasAsked
  rw [hqueue, autoCut_eq]
  exact ⟨fun ⟨a, hshape, hq⟩ => ⟨a, cutAsked_shape _ _ hshape, hq⟩, fun h => cutAsked_shape _ _ h⟩

theorem keepsAsked_runRestartTask (t : RestartTask) (v : State) : KeepsAsked v (runRestartTask t v) := by
  cases t with
  | statement => exact ⟨fun h => (requestStatement_asks h).mayAsk, fun h => requestStatement_asks h.mayAsk⟩
  | cut => exact keepsAsked_autoCut v
  | due n => exact keepsAsked_takeDue n v

end Sys2Proof.Machine
end

section
/-! PROOF. The restarts: what is kept, what the last tasks do in any order, and the erased store (R196, R43, R114, R138, R164). -/

namespace Sys2Proof.Machine

/-! ### The case table over the last tasks (R43) -/

theorem numbersRise_iff {s : State} : NumbersRise s ↔ (s.cases.map fun c => c.number).Pairwise (· < ·) := List.pairwise_map.symm

section
variable (t : RestartTask) (u : State)

/-- A task leaves every case but the one whose mark it takes. -/
theorem runRestartTask_other {c : Case} (ht : t ≠ .due c.number) (hc : c ∈ u.cases) : c ∈ (runRestartTask t u).cases := by
  cases t with
  | statement => exact (requestStatement_cases u).symm ▸ hc
  | cut => exact (autoCut_cases u).symm ▸ hc
  | due n =>
    obtain ⟨f, -, -, hf⟩ := rewrites_takeDue 0 0 u n
    rw [show (runRestartTask (.due n) u).cases = _ from hf]
    exact List.mem_map.mpr ⟨c, hc, if_neg fun h => ht (congrArg RestartTask.due h.symm)⟩

theorem runRestartTask_numbers : ((runRestartTask t u).cases.map fun c => c.number) = u.cases.map fun c => c.number := by
  cases t with
  | statement => exact congrArg _ (requestStatement_cases u)
  | cut => exact congrArg _ (autoCut_cases u)
  | due n =>
    obtain ⟨f, hnumber, -, hf⟩ := rewrites_takeDue 0 0 u n
    rw [show (runRestartTask (.due n) u).cases = _ from hf, List.map_map]
    refine List.map_congr_left fun c _ => ?_
    show (if c.number = n then f c else c).number = c.number
    split
    · exact hnumber c
    · rfl

theorem runRestartTask_clock : (runRestartTask t u).clock = u.clock := clock_of_base (runRestartTask_base u t)

theorem runRestartTask_jobs {t u} (h : ∀ c ∈ u.cases, c.job = none) : ∀ c ∈ (runRestartTask t u).cases, c.job = none := by
  have hkeeps : Keeps u (runRestartTask t u) := by
    cases t with
    | statement => exact keeps_requestStatement u
    | cut => exact keeps_autoCut u
    | due n => exact keeps_takeDue fun c hc => h c (findCase_mem hc)
  intro c hc
  obtain ⟨d, hd, hsame⟩ := hkeeps.same c hc
  by_contra hjob
  exact hjob ((hsame.job hjob).trans (h d hd))

end

/-- What every task finds: the clock, rising numbers, and no job. -/
def RestartReady (clock : Clock) (u : State) : Prop := u.clock = clock ∧ NumbersRise u ∧ ∀ c ∈ u.cases, c.job = none

theorem restartReady_runRestartTask {clock : Clock} {t : RestartTask} {u : State} (h : RestartReady clock u) :
    RestartReady clock (runRestartTask t u) := by
  obtain ⟨hclock, hrise, hjobs⟩ := h
  refine ⟨(runRestartTask_clock t u).trans hclock, ?_, runRestartTask_jobs hjobs⟩
  rw [numbersRise_iff, runRestartTask_numbers]
  exact numbersRise_iff.mp hrise

theorem due_mem_restartTasks {b : State} {n : Nat} :
    RestartTask.due n ∈ restartTasks b ↔ ∃ c ∈ b.cases, c.settleDue.isSome = true ∧ c.number = n := by
  unfold restartTasks
  simp only [List.mem_append, List.mem_map, List.mem_filter, RestartTask.due.injEq, and_assoc]
  constructor
  · rintro ((h | h) | h)
    · split at h <;> simp at h
    · split at h <;> simp at h
    · exact h
  · exact .inr

theorem cut_mem_restartTasks {b : State} : RestartTask.cut ∈ restartTasks b ↔ b.settings.autoCut ≤ b.hotlist.pending.length := by
  unfold restartTasks
  by_cases hq : b.signing.queue = [] <;> by_cases hc : b.settings.autoCut ≤ b.hotlist.pending.length <;> simp [hq, hc]

theorem statement_mem_restartTasks {b : State} (h : b.signing.queue ≠ []) : RestartTask.statement ∈ restartTasks b := by
  unfold restartTasks
  rw [if_neg h]
  simp

theorem restartTasks_nodup {b : State} (h : NumbersRise b) : (restartTasks b).Nodup := by
  have hdue : (((b.cases.filter fun c => c.settleDue.isSome).map fun c => RestartTask.due c.number)).Nodup := by
    refine List.pairwise_map.mpr ((h.sublist List.filter_sublist).imp fun hlt he => ?_)
    exact Nat.ne_of_lt hlt (RestartTask.due.inj he)
  unfold restartTasks
  by_cases hq : b.signing.queue = [] <;> by_cases hc : b.settings.autoCut ≤ b.hotlist.pending.length <;>
    simpa [hq, hc] using hdue

section
variable {b : State} {clock : Clock} (hb : RestartReady clock b)

/-- The state after the last tasks, in whatever order. -/
def afterRestart (b : State) : State := b.runFree (restartTasks b) runRestartTask

theorem afterRestart_numbers : ((afterRestart b).cases.map fun c => c.number) = b.cases.map fun c => c.number :=
  runFree_keeps (fun u => (u.cases.map fun c => c.number) = b.cases.map fun c => c.number) _ _ _ rfl
    fun t _ u hu => (runRestartTask_numbers t u).trans hu

include hb

theorem afterRestart_ready : RestartReady clock (afterRestart b) :=
  runFree_keeps (RestartReady clock) _ _ _ hb fun _ _ _ => restartReady_runRestartTask

/-- A case without a mark is left as it is. -/
theorem afterRestart_unmarked {c : Case} (hc : c ∈ b.cases) (hd : c.settleDue = none) : c ∈ (afterRestart b).cases := by
  refine runFree_keeps (fun u => c ∈ u.cases) _ _ _ hc fun t ht u hu => runRestartTask_other t u ?_ hu
  rintro rfl
  obtain ⟨x, hx, hmark, hn⟩ := due_mem_restartTasks.mp ht
  rw [eq_of_number hb.2.1 hx hc hn, hd] at hmark
  cases hmark

/-- A case with a mark ends as taking the mark leaves it. -/
theorem afterRestart_marked {c : Case} {P : Case → Prop} (hc : c ∈ b.cases) (hd : c.settleDue ≠ none)
    (htakes : ∀ u, RestartReady clock u → u.findCase c.number = some c →
      ∃ d ∈ (takeDue c.number u).cases, d.number = c.number ∧ P d) :
    ∃ d ∈ (afterRestart b).cases, d.number = c.number ∧ P d := by
  refine runFree_reaches_once (P := fun u => ∃ d ∈ u.cases, d.number = c.number ∧ P d)
    (Q := fun u => RestartReady clock u ∧ c ∈ u.cases) (a := .due c.number) (restartTasks_nodup hb.2.1)
    (due_mem_restartTasks.mpr ⟨c, hc, Option.isSome_iff_ne_none.mpr hd, rfl⟩) ⟨hb, hc⟩
    (fun t _ ht u hu => ⟨restartReady_runRestartTask hu.1, runRestartTask_other t u ht hu.2⟩)
    (fun u hu => htakes u hu.1 (findCase_of_mem hu.1.2.1 hu.2)) ?_
  rintro t - ht u ⟨d, hmem, hn, hP⟩
  exact ⟨d, runRestartTask_other t u (hn.symm ▸ ht) hmem, hn, hP⟩

/-- Under a set clock no mark is left (R43, R35). -/
theorem afterRestart_clears (hclock : clock.second ≠ none) : ∀ d ∈ (afterRestart b).cases, d.settleDue = none := by
  intro d hd
  have hn : d.number ∈ b.cases.map fun c => c.number := afterRestart_numbers (b := b) ▸ List.mem_map_of_mem hd
  obtain ⟨c, hc, hcn⟩ := List.mem_map.mp hn
  have hrise : NumbersRise (afterRestart b) := (afterRestart_ready hb).2.1
  cases hmark : c.settleDue with
  | none => rw [eq_of_number hrise hd (afterRestart_unmarked hb hc hmark) hcn.symm, hmark]
  | some due =>
    obtain ⟨x, hx, hxn, hnone⟩ := afterRestart_marked (P := fun x => x.settleDue = none) hb hc (by rw [hmark]; exact Option.some_ne_none _)
      fun u ⟨hu, hurise, hjobs⟩ hfind => takeDue_clears hfind hurise (by rw [hu]; exact hclock) (hjobs c (findCase_mem hfind)) hmark
    rw [eq_of_number hrise hd hx (hcn.symm.trans hxn.symm), hnone]

/-- A FORCED mark without conflicts settles its case (R35). -/
theorem afterRestart_forced {c : Case} (hc : c ∈ b.cases) (hmark : c.settleDue = some .forced) (hst : c.state ≠ .settled)
    (hconf : c.conflicts = []) (hclock : clock.second ≠ none) :
    settledCase (chainSettlement .forced clock.announcedDay c) c ∈ (afterRestart b).cases := by
  obtain ⟨d, hd, -, rfl⟩ := afterRestart_marked (P := fun d => d = settledCase (chainSettlement .forced clock.announcedDay c) c) hb hc
    (by rw [hmark]; exact Option.some_ne_none _) fun u ⟨hu, _, _⟩ hfind => by
      rw [takeDue_forced hfind hmark (by rw [hu]; exact hclock) hst hconf]
      refine ⟨_, findCase_mem (findCase_settle (findCase_unmarked hfind)), rfl, ?_⟩
      rw [← hu]
      rfl
  exact hd

end

/-! ### The hotlist unit and the signing unit over the last tasks (R114, R173) -/

theorem runRestartTask_hotlist {t : RestartTask} (ht : t ≠ .cut) (u : State) : (runRestartTask t u).hotlist = u.hotlist := by
  cases t with
  | statement => exact requestStatement_hotlist u
  | cut => exact absurd rfl ht
  | due n => exact takeDue_hotlist u n

theorem runRestartTask_settings (t : RestartTask) (u : State) : (runRestartTask t u).settings = u.settings :=
  settings_of_base (runRestartTask_base u t)

theorem cutIfDue_cutIfDue (threshold : Nat) (h : Hotlist) : cutIfDue threshold (cutIfDue threshold h) = cutIfDue threshold h := by
  by_cases hcut : h.packaging = .idle ∧ threshold ≤ h.pending.length ∧ h.pending ≠ [] ∧ h.generation < max32
  · have hdue : cutIfDue threshold h = { h with pending := markTaken 64 h.pending, packaging := .packaging } := if_pos hcut
    rw [hdue]
    exact if_neg fun h' => nomatch h'.1
  · rw [show cutIfDue threshold h = h from if_neg hcut, show cutIfDue threshold h = h from if_neg hcut]

theorem afterRestart_hotlist (b : State) : (afterRestart b).hotlist = cutIfDue b.settings.autoCut b.hotlist := by
  have hcutting {u : State} (hset : u.settings = b.settings)
      (hu : u.hotlist = b.hotlist ∨ u.hotlist = cutIfDue b.settings.autoCut b.hotlist) :
      (runRestartTask .cut u).hotlist = cutIfDue b.settings.autoCut b.hotlist := by
    refine (autoCut_hotlist u).trans ?_
    rcases hu with hu | hu
    · rw [hset, hu]
    · rw [hset, hu, cutIfDue_cutIfDue]
  have hkept {t : RestartTask} {u : State} {h : Hotlist} (ht : t ≠ .cut) (hu : u.hotlist = h) : (runRestartTask t u).hotlist = h :=
    (runRestartTask_hotlist ht u).trans hu
  by_cases hcut : RestartTask.cut ∈ restartTasks b
  · refine (runFree_reaches (P := fun u => u.settings = b.settings ∧ u.hotlist = cutIfDue b.settings.autoCut b.hotlist)
      (Q := fun u => u.settings = b.settings ∧ (u.hotlist = b.hotlist ∨ u.hotlist = cutIfDue b.settings.autoCut b.hotlist)) hcut
      ⟨rfl, .inl rfl⟩ (fun t _ u hu => ⟨(runRestartTask_settings t u).trans hu.1, ?_⟩)
      (fun u hu => ⟨(runRestartTask_settings .cut u).trans hu.1, hcutting hu.1 hu.2⟩)
      fun t _ u hu => ⟨(runRestartTask_settings t u).trans hu.1, ?_⟩).2
    · by_cases ht : t = .cut
      · subst ht; exact .inr (hcutting hu.1 hu.2)
      · exact hu.2.imp (hkept ht) (hkept ht)
    · by_cases ht : t = .cut
      · subst ht; exact hcutting hu.1 (.inr hu.2)
      · exact hkept ht hu.2
  · have hnot : cutIfDue b.settings.autoCut b.hotlist = b.hotlist := if_neg fun h => hcut (cut_mem_restartTasks.mpr h.2.1)
    rw [hnot]
    exact runFree_keeps (fun u => u.hotlist = b.hotlist) _ _ _ rfl fun t ht u hu =>
      (runRestartTask_hotlist (fun he => hcut (he ▸ ht)) u).trans hu

theorem afterRestart_asked {b : State} (hsigning : b.signing = { Signing.fresh with queue := b.signing.queue })
    (hidle : b.hotlist.packaging = .idle) : HasAsked (afterRestart b) := by
  have hshape : AskedShape false (decide (b.hotlist.packaging = .packaging)) b.signing := by
    rw [hidle]; exact hsigning
  have hmay : MayAsk b := ⟨false, hshape, fun h => absurd h Bool.false_ne_true⟩
  by_cases hq : b.signing.queue = []
  · exact runFree_keeps HasAsked _ _ _ (hmay.hasAsked fun hne => absurd hq hne) fun t _ u => (keepsAsked_runRestartTask t u).2
  · exact runFree_reaches (Q := MayAsk) (statement_mem_restartTasks hq) hmay (fun t _ u => (keepsAsked_runRestartTask t u).1)
      (fun _ => requestStatement_asks) fun t _ u => (keepsAsked_runRestartTask t u).2

theorem afterRestart_queue (b : State) : ∃ settled, (afterRestart b).signing.queue = b.signing.queue ++ settled := by
  refine runFree_keeps (fun u => ∃ l, u.signing.queue = b.signing.queue ++ l) _ _ _ ⟨[], (List.append_nil _).symm⟩ ?_
  rintro t - u ⟨l, hl⟩
  obtain ⟨m, hm⟩ := runRestartTask_queue t u
  exact ⟨l ++ m, by rw [hm, hl, List.append_assoc]⟩

theorem afterRestart_head {b : State} {c : Fin 4} {r : Report} (h : b.channels[c].queue.head? = some r) :
    (afterRestart b).channels[c].queue.head? = some r := by
  refine runFree_keeps (fun u => u.channels[c].queue.head? = some r) _ _ _ h fun t _ u hu => ?_
  obtain ⟨l, hl⟩ := runRestartTask_reports t u
  simp only [hl]
  exact withReports_head l hu

/-- Under an unset clock the cases, the queue and the channels stay (R43). -/
theorem afterRestart_of_unset {b : State} (h : b.clock.second = none) :
    (afterRestart b).cases = b.cases ∧ (afterRestart b).signing.queue = b.signing.queue ∧ (afterRestart b).channels = b.channels := by
  refine (runFree_keeps (fun u => u.clock.second = none ∧ u.cases = b.cases ∧ u.signing.queue = b.signing.queue ∧
    u.channels = b.channels) _ _ _ ⟨h, rfl, rfl, rfl⟩ ?_).2
  rintro t - u ⟨hclock, hcases, hqueue, hchannels⟩
  refine ⟨(congrArg _ (runRestartTask_clock t u)).trans hclock, ?_⟩
  cases t with
  | statement =>
    exact ⟨(requestStatement_cases u).trans hcases, (requestStatement_queue u).trans hqueue, (requestStatement_channels u).trans hchannels⟩
  | cut => exact ⟨(autoCut_cases u).trans hcases, (autoCut_queue u).trans hqueue, (autoCut_channels u).trans hchannels⟩
  | due n =>
    rw [show runRestartTask (.due n) u = u from takeDue_of_unset n hclock]
    exact ⟨hcases, hqueue, hchannels⟩

end Sys2Proof.Machine
end

section
/-! PROOF. The restart commands as a whole: the answer that calls for one, the erased store, and what a restart keeps (R196). -/

namespace Sys2Proof.Machine

/-! ### What the last tasks of a restart start from (R196 items 3 and 4) -/

theorem restartDevice_eq (kind : RestartKind) (s : State) : restartDevice kind s = afterRestart (restartBase kind s) := rfl

section
variable {kind : RestartKind} (hk : kind ≠ .deviceErase) (s : State)
include hk

theorem restartClock_kept : restartClock kind s = { s with clock := (restartClock kind s).clock } := by
  cases kind with
  | powerOn => rfl
  | deviceReset => rfl
  | deviceErase => exact absurd rfl hk

theorem restartClock_second : (restartClock kind s).clock.second = if kind = .powerOn then none else s.clock.second := by
  cases kind with
  | powerOn => rfl
  | deviceReset => rfl
  | deviceErase => exact absurd rfl hk

theorem restartClock_announcedDay : (restartClock kind s).clock.announcedDay = s.clock.announcedDay := by
  cases kind with
  | powerOn => rfl
  | deviceReset => rfl
  | deviceErase => exact absurd rfl hk

theorem restartBase_cases : (restartBase kind s).cases = s.cases.map fun c => { c with job := none } := by
  show (takeUpStore (restartClock kind s)).cases = _
  rw [takeUpStore_cases, restartClock_kept hk]

theorem restartBase_signing : (restartBase kind s).signing = { Signing.fresh with queue := s.signing.queue } := by
  unfold restartBase
  rw [restartClock_kept hk]
  rfl

theorem restartBase_settings : (restartBase kind s).settings = s.settings := by
  unfold restartBase
  rw [restartClock_kept hk]
  rfl

theorem restartBase_channels : (restartBase kind s).channels =
    withReport 0 ⟨none, 0, .restarted kind (if kind = .powerOn then none else s.clock.second)⟩ (Vector.replicate 4 Channel.empty) := by
  rw [← restartClock_second hk]
  rfl

/-- The cut is given up, and what a pending ADD of an ended case would have published is gone (R114). -/
theorem restartBase_hotlist :
    let live (n : Nat) : Bool := s.cases.any fun d => d.number = n
    let unpublished (n : Nat) : Bool := s.hotlist.pending.any fun x => decide (x.kind = .add ∧ x.caseNo = n)
    let kept := s.hotlist.pending.filter fun x => live x.caseNo || !unpublished x.caseNo
    (restartBase kind s).hotlist =
      { s.hotlist with packaging := .idle, pending := kept.map fun x => { x with taken := false } } := by
  have hlive (n : Nat) : ((s.cases.map fun c => { c with job := none }).any fun d => decide (d.number = n)) =
      s.cases.any fun d => decide (d.number = n) := List.any_map
  unfold restartBase
  rw [restartClock_kept hk]
  dsimp only
  simp only [← hlive]
  rfl

end

/-- The restart that keeps the store, of power-on, NRST, or DEVICE RESET once its answer has been sent. -/
theorem exec_restarts {c : Instr} {kind : RestartKind} {s : State}
    (h : ((c = .powerOn ∨ c = .nrstRelease) ∧ kind = .powerOn) ∨
      (c = .restart ∧ s.terminal.restartDue = some .deviceReset ∧ kind = .deviceReset)) :
    kind ≠ .deviceErase ∧ exec c s = .next (stampFloor s (restartDevice kind s)) := by
  rcases h with ⟨rfl | rfl, rfl⟩ | ⟨rfl, hdue, rfl⟩
  · exact ⟨by decide, rfl⟩
  · exact ⟨by decide, rfl⟩
  · refine ⟨by decide, ?_⟩
    show Host.Outcome.next (dueRestart s) = _
    unfold dueRestart
    rw [hdue]
    rfl

/-! ### The erased store (R196 item 2) -/

theorem restartZone_erased : restartZone Zone.erased = Zone.erased := rfl

theorem restart_of_erase {s : State} (h : s.terminal.restartDue = some .deviceErase) :
    exec .restart s = .next
      { State.reset with
        channels := State.reset.channels.set (0 : Fin 4) ⟨[⟨none, 0, .restarted .deviceErase none⟩], 0⟩
        choices := s.choices, pending := s.pending } := by
  have hexec : exec .restart s = .next (stampFloor s (restartDevice .deviceErase s)) := by
    show Host.Outcome.next (dueRestart s) = _
    unfold dueRestart
    rw [h]
    rfl
  have hzones : (Vector.ofFn fun z : ZoneId => restartZone (Vector.replicate 12 Zone.erased)[z]) = Vector.replicate 12 Zone.erased := by
    ext1 z hz
    simp [restartZone_erased]
  have hbase : restartDevice .deviceErase s = restartBase .deviceErase s := rfl
  rw [hexec, stampFloor_of_unset (by rw [restartDevice_clock]; rfl), hbase]
  refine congrArg _ (state_eq rfl rfl rfl rfl hzones rfl rfl)

/-! ### The whole restart (R196) -/

/-- The answer of DEVICE RESET or DEVICE ERASE calls for a restart (R196). -/
theorem restartOf_eq (a : Answer) : restartOf a =
    if a.reply.status = .done ∧ a.kind = 38 then some .deviceReset
    else if a.reply.status = .done ∧ a.kind = 39 then some .deviceErase
    else none := by
  have hreset : kindByte .deviceReset = 38 := rfl
  have herase : kindByte .deviceErase = 39 := rfl
  unfold restartOf
  rw [hreset, herase]
  by_cases hdone : a.reply.status = .done
  · simp only [hdone, if_true, true_and]
  · simp only [hdone, if_false, false_and]

section
variable {kind : RestartKind} (hk : kind ≠ .deviceErase) (s : State)
include hk

theorem restartDevice_port (p : Port) : (restartDevice kind s).port p =
    restartPort (if kind = .powerOn then none else s.clock.second) (s.port p) := by
  have hports : (restartDevice kind s).port p = restartPort (restartClock kind s).clock.second ((restartClock kind s).port p) := by
    rw [State.port, restartDevice_ports]
    cases p <;> rfl
  rw [hports, restartClock_second hk, restartClock_kept hk]
  rfl

theorem restartDevice_zone (z : ZoneId) : (restartDevice kind s).zones[z] = restartZone s.zones[z] := by
  simp only [restartDevice_zones, restartedZones_get]
  rw [restartClock_kept hk]

theorem restartBase_jobs : ∀ c ∈ (restartBase kind s).cases, c.job = none := by
  rw [restartBase_cases hk]
  intro c hc
  obtain ⟨d, -, rfl⟩ := List.mem_map.mp hc
  rfl

theorem restartBase_ready (hs : CaseTableOk s) : RestartReady (restartClock kind s).clock (restartBase kind s) :=
  ⟨rfl, numbersRise_map hs.rise (f := fun c => { c with job := none }) (fun _ => rfl) (restartBase_cases hk s), restartBase_jobs hk s⟩

end

/-- Settles O56: the answers and their sending, the erased store, and what power-on, NRST and DEVICE RESET keep. -/
theorem restartsLeaveTheStoredState : Obligations.RestartsLeaveTheStoredState := by
  refine ⟨fun r l rest s hr => ?reset, fun r l rest s hr => ?erase, fun s f a rest hbuffer => ?sent, fun s h => restart_of_erase h,
    fun c kind s h => ?restart⟩
  case reset => exact reads_of rfl hr rfl
  case erase => exact reads_of rfl hr rfl
  case sent =>
    have hfinish : finishAnswer s.terminal = { s.terminal with buffer := rest, restartDue := restartOf a } := by
      unfold finishAnswer
      rw [hbuffer]
    show Host.Outcome.next { s with terminal := finishAnswer s.terminal } = _
    rw [hfinish, restartOf_eq]
  case restart =>
    obtain ⟨hk, hexec⟩ := exec_restarts h
    have hsecond := restartClock_second hk s
    have hcases := restartBase_cases hk s
    have hqueue : (restartBase kind s).signing.queue = s.signing.queue := by rw [restartBase_signing hk]
    have hhotlist := (afterRestart_hotlist (restartBase kind s)).trans
      (by rw [restartBase_settings hk, restartBase_hotlist hk])
    have hasked : HasAsked (restartDevice kind s) := afterRestart_asked (by rw [hqueue]; exact restartBase_signing hk s)
      (by rw [restartBase_hotlist hk])
    have hshape {a : Bool} {p : Packaging} (hq : decide ((restartDevice kind s).signing.queue ≠ []) = a)
        (hp : (restartDevice kind s).hotlist.packaging = p) :
        AskedShape a (decide (p = .packaging)) (restartDevice kind s).signing := by
      subst hq hp
      exact hasked
    dsimp only
    refine ⟨_, hexec, ?second, ?day, ?terminal, ?head, ?ports, ?zones, ?jobs, ?numbers, ?powerOn, ?marks, ?queue, ?hotlist, ?free,
      ?statement, ?cut, ?both, ?frame⟩
    case second => rw [stampFloor_second, restartDevice_clock, hsecond]
    case day => rw [stampFloor_announcedDay, restartDevice_clock, restartClock_announcedDay hk]
    case terminal => rw [stampFloor_terminal, restartDevice_terminal]
    case head =>
      simp only [stampFloor_channels]
      refine afterRestart_head ?_
      simp only [restartBase_channels hk]
      rfl
    case ports =>
      intro p
      rw [State.port, stampFloor_ports]
      exact restartDevice_port hk s p
    case zones =>
      intro z
      simp only [stampFloor_zones]
      exact restartDevice_zone hk s z
    case jobs =>
      rw [stampFloor_cases_eq]
      exact runFree_keeps (fun u => ∀ c ∈ u.cases, c.job = none) _ _ _ (restartBase_jobs hk s) fun _ _ _ => runRestartTask_jobs
    case numbers =>
      rw [stampFloor_cases_eq, restartDevice_eq, afterRestart_numbers, hcases, List.map_map]
      rfl
    case powerOn =>
      rintro rfl
      obtain ⟨hc, hq, hch⟩ := afterRestart_of_unset (b := restartBase .powerOn s) rfl
      rw [stampFloor_cases_eq, stampFloor_signing, stampFloor_channels, restartDevice_eq]
      refine ⟨hc.trans hcases, hq.trans hqueue, ?_⟩
      rw [hch, restartBase_channels hk]
      rfl
    case marks =>
      intro hs
      have hready := restartBase_ready hk s hs
      rw [stampFloor_cases_eq, restartDevice_eq, ← hsecond]
      refine ⟨afterRestart_clears hready, fun d hd => ?_⟩
      have hmem : { d with job := none } ∈ (restartBase kind s).cases := hcases ▸ List.mem_map_of_mem hd
      refine ⟨afterRestart_unmarked hready hmem, fun hmark hst hconf hclock => ?_⟩
      have hforced := afterRestart_forced hready hmem hmark hst hconf hclock
      rwa [restartClock_announcedDay hk] at hforced
    case queue =>
      rw [stampFloor_signing, ← hqueue]
      exact afterRestart_queue _
    case hotlist =>
      rw [stampFloor_hotlist]
      exact hhotlist
    case free =>
      rw [stampFloor_signing, stampFloor_hotlist]
      intro hq hp
      have hfresh : (restartDevice kind s).signing = { Signing.fresh with queue := (restartDevice kind s).signing.queue } :=
        hshape (decide_eq_false (not_not.mpr hq)) hp
      rw [hfresh, hq]
      rfl
    case statement =>
      rw [stampFloor_signing, stampFloor_hotlist]
      exact fun hq hp => hshape (decide_eq_true hq) hp
    case cut =>
      rw [stampFloor_signing, stampFloor_hotlist]
      exact fun hq hp => hshape (decide_eq_false (not_not.mpr hq)) hp
    case both =>
      rw [stampFloor_signing, stampFloor_hotlist]
      exact fun hq hp => hshape (decide_eq_true hq) hp
    case frame =>
      refine state_eq ?_ rfl rfl rfl rfl rfl rfl
      simp only [State.base, stampFloor_links, stampFloor_nextCase, stampFloor_concession, stampFloor_settings, stampFloor_pending,
        restartDevice_links, restartDevice_nextCase, restartDevice_concession, restartDevice_settings, restartDevice_pending]
      rw [restartClock_kept hk]

end Sys2Proof.Machine
end
